-- ==== Sys2Proof/Word.lean ====
section
/-! DEFINITION. The word types of the ring: an octet, a 16-bit field, a ring address. -/

namespace Sys2Proof

/-- One octet of a frame. -/
abbrev Byte := BitVec 8

/-- A 16-bit field, sent low octet first (chapter 1, "Frame layout"). -/
abbrev Half := BitVec 16

/-- A ring address, 0 to 63 (chapter 1, "Frame layout"). -/
abbrev Addr := BitVec 6

end Sys2Proof
end

