-- ==== Sys2Proof/Syntax.lean ====
section
/-! DEFINITION. The commands of the part: one constructor per row of spec/opcode_table.json, in the table's order, with
the operands the row's event carries. Frame commands carry what arrives on the wire; what the part does with it is the
machine's business (R6). -/

namespace Sys2Proof

/-- Dryer zones 1 to 4, in web direction (00_scope.md, "Numbering"). -/
inductive Zone
  | z1 | z2 | z3 | z4
deriving DecidableEq, Repr

/-- Chill circuits 1 and 2. -/
inductive Circuit
  | c1 | c2
deriving DecidableEq, Repr

/-- Break detectors 1 to 4. -/
inductive Detector
  | d1 | d2 | d3 | d4
deriving DecidableEq, Repr

/-- The part's commands. `src` and `dst` are the address octets as they arrive, `value` the 16-bit field of a fixed
frame, `aux` its auxiliary octet, `data` the data octets of an ORDER. -/
inductive Instr
  /-- RESET_ASSERT (R5). -/
  | resetAssert
  /-- RESET_RELEASE with the reading of ADDR0 to ADDR5, ADDR0 least significant (R4). -/
  | resetRelease (straps : Addr)
  /-- BYPASS_OPEN: the first gap between upstream frames (R4). -/
  | bypassOpen
  /-- CHECK_ERROR: the octets received between two delimiters (R3). -/
  | checkError (octets : List Byte)
  /-- STRIP: the octets received (R7). -/
  | strip (octets : List Byte)
  /-- THROUGH_FRAME: the octets received (R6). -/
  | throughFrame (octets : List Byte)
  /-- BEAT: octet 3 is the sequence, aux the press mode (R9). -/
  | beat (src dst seq : Byte) (value : Half) (aux : Byte)
  /-- READING: octet 3 is the channel, aux the quality (R23). -/
  | reading (src dst ch : Byte) (value : Half) (aux : Byte)
  /-- LEVEL: octet 3 is the channel, aux the level (R30). -/
  | level (src dst ch : Byte) (value : Half) (aux : Byte)
  /-- DEMAND: octet 3 is the channel, value the demand, aux the origin (R10). -/
  | demand (src dst ch : Byte) (value : Half) (aux : Byte)
  /-- ASK: octet 3 is the tag, value the requested speed (R114). -/
  | ask (src dst tag : Byte) (value : Half) (aux : Byte)
  /-- TX_FRAME_DONE: the last octet of the frame in transmission has left (R11). -/
  | txFrameDone
  /-- RING_SILENCE_EXPIRY (R18). -/
  | ringSilenceExpiry
  /-- CONFIRM_TIMER_EXPIRY of a channel (R30). -/
  | confirmTimerExpiry (ch : Byte)
  /-- REFRESH_TIMER_EXPIRY of a channel (R37). -/
  | refreshTimerExpiry (ch : Byte)
  /-- AGE_TIMER_250 (R48). -/
  | ageTimer250
  /-- AGE_TIMER_1000 (R48). -/
  | ageTimer1000
  /-- PURGE_TIMER_EXPIRY (R79). -/
  | purgeTimerExpiry
  /-- SETTLE_TIMER_EXPIRY (R83). -/
  | settleTimerExpiry
  /-- COOLDOWN_TIMER_EXPIRY (R87). -/
  | cooldownTimerExpiry
  /-- CONTROL_PERIOD (R126). -/
  | controlPeriod
  /-- HEAD_TIMER_AFTER (R103). -/
  | headTimerAfter
  /-- SOAK_COMPLETE (R104). -/
  | soakComplete
  /-- SLOWED_DELAY_EXPIRY (R105). -/
  | slowedDelayExpiry
  /-- READY_TIMEOUT (R107). -/
  | readyTimeout
  /-- IGNITION_TIMER_EXPIRY of a zone (R134). -/
  | ignitionTimerExpiry (z : Zone)
  /-- CLEAR_TIMER_EXPIRY (R171). -/
  | clearTimerExpiry
  /-- GRACE_TIMER_EXPIRY of a zone (R173). -/
  | graceTimerExpiry (z : Zone)
  /-- SUPERVISION_INTERVAL (R180). -/
  | supervisionInterval
  /-- READ_STATUS, order code 0x01 (R191). -/
  | readStatus (src dst tag : Byte) (data : List Byte)
  /-- READ_ZONE, 0x02 (R136). -/
  | readZone (src dst tag : Byte) (data : List Byte)
  /-- READ_CHILL, 0x03 (R149). -/
  | readChill (src dst tag : Byte) (data : List Byte)
  /-- READ_TRANSIT, 0x04 (R149). -/
  | readTransit (src dst tag : Byte) (data : List Byte)
  /-- READ_PLAN, 0x05 (R121). -/
  | readPlan (src dst tag : Byte) (data : List Byte)
  /-- READ_STACK, 0x06 (R167). -/
  | readStack (src dst tag : Byte) (data : List Byte)
  /-- READ_MAP, 0x07 (R193). -/
  | readMap (src dst tag : Byte) (data : List Byte)
  /-- READ_ROW, 0x08 (R59). -/
  | readRow (src dst tag : Byte) (data : List Byte)
  /-- READ_PARAM, 0x09 (R195). -/
  | readParam (src dst tag : Byte) (data : List Byte)
  /-- READ_FAULTS, 0x0A (R185). -/
  | readFaults (src dst tag : Byte) (data : List Byte)
  /-- WRITE_MAP, 0x20 (R24). -/
  | writeMap (src dst tag : Byte) (data : List Byte)
  /-- WRITE_ROW, 0x21 (R58). -/
  | writeRow (src dst tag : Byte) (data : List Byte)
  /-- COMMIT, 0x22 (R64). -/
  | commit (src dst tag : Byte) (data : List Byte)
  /-- WITHDRAW, 0x23 (R65). -/
  | withdraw (src dst tag : Byte) (data : List Byte)
  /-- WRITE_PARAM, 0x24 (R195). -/
  | writeParam (src dst tag : Byte) (data : List Byte)
  /-- START: LINE, 0x25, with data octet 1 (R77). -/
  | start (src dst tag : Byte)
  /-- STOP: LINE with data octet 2 (R86). -/
  | stop (src dst tag : Byte)
  /-- RESTART: LINE with data octet 3 (R92). -/
  | restart (src dst tag : Byte)
  /-- CLEAR_LOCKOUT: LINE with data octet 4 (R94). -/
  | clearLockout (src dst tag : Byte)
  /-- SET_HOLD, 0x26 (R39). -/
  | setHold (src dst tag : Byte) (data : List Byte)
  /-- SET_FAULT_ENABLE, 0x27 (R184). -/
  | setFaultEnable (src dst tag : Byte) (data : List Byte)
  /-- FAULT_TAKE, 0x28 (R185). -/
  | faultTake (src dst tag : Byte) (data : List Byte)
  /-- READ_COUNTS, 0x29 (R20). -/
  | readCounts (src dst tag : Byte) (data : List Byte)
  /-- SOFT_RESET, 0x2A (R196). -/
  | softReset (src dst tag : Byte) (data : List Byte)
  /-- UNKNOWN_ORDER: an ORDER of a code that R188's table lacks. -/
  | unknownOrder (code src dst tag : Byte) (data : List Byte)
  /-- LINE_BAD_COMMAND: LINE with data other than one octet 1 to 4 (R76). -/
  | lineBadCommand (src dst tag : Byte) (data : List Byte)
deriving DecidableEq, Repr

end Sys2Proof
end

