-- ==== Sys2Proof/Decode.lean ====
section
/-! DEFINITION. The commands that a word spells by the bits of spec/opcode_table.json. No row of that table gives any
bits ("fields" is empty in all 55, and none has "fixed"), so no word spells a command. -/

namespace Sys2Proof

/-- The command a word of `nbits` bits spells by the table: none, for the table gives no row bits. -/
def decodeTableWord (_nbits _w : Nat) : Option Instr := none

end Sys2Proof
end

