-- ==== Sys2Proof/Config.lean ====
section
/-! DEFINITION. What the part fixes (intervals, capacities, the address the model's reset state has) and the free
values: constants with no body, of which no proof can know the value. -/

namespace Sys2Proof.Config

/-- Ring silence timer, ms (R18). -/
def silenceMs : Nat := 50

/-- Refresh timer of a drive record, ms (R37). -/
def refreshMs : Nat := 500

/-- Control period, ms (R126). -/
def controlMs : Nat := 200

/-- Supervision interval, ms (R180). -/
def intervalMs : Nat := 10

/-- Repetition of the cooldown timer, ms (R87). -/
def cooldownMs : Nat := 1000

/-- First mark of the tracker's age timer, ms (R48). -/
def staleMs : Nat := 250

/-- Second mark of the tracker's age timer, ms (R48). -/
def lostMs : Nat := 1000

/-- Frames the through buffer holds (R11). -/
def throughCapacity : Nat := 8

/-- Frames the insert queue holds (R14). -/
def insertCapacity : Nat := 32

/-- Insert queue depth from which the arbiter alternates one for one (R16). -/
def alternateDepth : Nat := 8

/-- Through frames in a row before an insertion, with a short insert queue (R16). -/
def runLimit : Nat := 4

/-- Entries of the transit line (R143). -/
def transitCapacity : Nat := 8

/-- Records of the context stack (R151). -/
def stackCapacity : Nat := 4

/-- Rows of a regime table (R56). -/
def tableCapacity : Nat := 16

/-- Channel map entries (chapter 2, "The channel map"). -/
def channelCount : Nat := 128

/-- Longest data of an ORDER or REPLY, octets (R1). -/
def dataLimit : Nat := 48

/-- The strap reading behind State.reset, a valid address: DESIGN CHOICE, unsafe, log 5.
The straps are pins (R4), and RESET_RELEASE carries any reading. -/
def resetAddress : Addr := 1#6

/-- The times of a reply that are held in ms and sent in tenths of a second. -/
inductive TenthsField
  | airAge | lelAge | webAge | ignition | headTimer | triggerClock
deriving DecidableEq, Repr

/-- FREE VALUE, log 11: whether a time that is no whole number of tenths is sent rounded up.
R121, R136 and R149 send times in tenths of a second and state no rounding. -/
opaque tenthsRoundUp : TenthsField → Nat → Bool

/-- FREE VALUE, log 3: which of several expiries due at one millisecond comes first.
Applied to State.freeCount, a fresh value each time it is read. -/
opaque pickExpiry : Nat → Nat

end Sys2Proof.Config
end

