-- ==== Sys2Proof/Machine/Operands.lean ====
section
/-! DEFINITION. Frames as octets and the octets of a reply: the frame check (R2), when a frame is good (R1, R3), how
addresses and 16-bit fields are read, and how fields are sent (R190). -/

namespace Sys2Proof.Machine

/-- The low octet of a 16-bit field. -/
def lowOctet (h : Half) : Byte := h.setWidth 8

/-- The high octet of a 16-bit field. -/
def highOctet (h : Half) : Byte := (h >>> 8).setWidth 8

/-- A 16-bit field read from two octets, low octet first. -/
def halfOf (lo hi : Byte) : Half := hi.setWidth 16 <<< 8 ||| lo.setWidth 16

/-- The address an address octet carries: its lower six bits (R6). -/
def addrOf (b : Byte) : Addr := b.setWidth 6

/-- An address as the octet the part sends, upper two bits 0 (chapter 1, "Frame layout"). -/
def addrOctet (a : Addr) : Byte := a.setWidth 8

/-- Destination 63 addresses all stations. -/
def allStations : Addr := 63#6

/-! ### The frame check (R2) -/

/-- One of the eight iterations of R2 on the check register. -/
def crcShift (r : Half) : Half := if r.getLsbD 0 then r >>> 1 ^^^ 0x8408#16 else r >>> 1

/-- One octet taken into the check register (R2). -/
def crcOctet (r : Half) (b : Byte) : Half := Nat.repeat crcShift 8 (r ^^^ b.setWidth 16)

/-- The check over a run of octets: all ones at the start, no final inversion (R2). -/
def frameCheck (octets : List Byte) : Half := octets.foldl crcOctet 0xFFFF#16

/-- A frame: the octets before the check, then the check, low octet first (R2). -/
def sealFrame (body : List Byte) : List Byte :=
  body ++ [lowOctet (frameCheck body), highOctet (frameCheck body)]

/-! ### Frame kinds and form (R1, R3) -/

/-- The eight kinds the part acts on, and all others (chapter 1, "Frame kinds"). -/
inductive FrameKind
  | beat | reading | level | demand | ask | grant | order | reply | other
deriving DecidableEq, Repr

/-- The kind octets of chapter 1's table. -/
def frameKind (b : Byte) : FrameKind :=
  if b = 0x11#8 then .beat else if b = 0x12#8 then .reading else if b = 0x13#8 then .level
  else if b = 0x14#8 then .demand else if b = 0x21#8 then .ask else if b = 0x22#8 then .grant
  else if b = 0x31#8 then .order else if b = 0x32#8 then .reply else .other

/-- Octet `i` of a frame; 0 past its end, which no rule reads. -/
def octetAt (octets : List Byte) (i : Nat) : Byte := octets.getD i 0#8

/-- R1: well formed by kind and length. -/
def wellFormedFrame (octets : List Byte) : Bool :=
  match frameKind (octetAt octets 0) with
  | .order | .reply =>
    decide (8 ≤ octets.length) && decide ((octetAt octets 5).toNat ≤ Config.dataLimit) &&
      decide (octets.length = 8 + (octetAt octets 5).toNat)
  | .other => decide (5 ≤ octets.length) && decide (octets.length ≤ 56)
  | .beat | .reading | .level | .demand | .ask | .grant => decide (octets.length = 9)

/-- R3: the check over all octets but the last two equals those two, low octet first. -/
def checkMatches (octets : List Byte) : Bool :=
  decide (frameCheck (octets.take (octets.length - 2)) =
    halfOf (octetAt octets (octets.length - 2)) (octetAt octets (octets.length - 1)))

/-- R3: a good frame is well formed and its check matches. -/
def goodFrame (octets : List Byte) : Bool := wellFormedFrame octets && checkMatches octets

/-- A fixed frame of nine octets (chapter 1, "Frame layout"). -/
def fixedFrame (kind src dst third : Byte) (value : Half) (aux : Byte) : List Byte :=
  sealFrame [kind, src, dst, third, lowOctet value, highOctet value, aux]

/-- An ORDER or REPLY frame (chapter 1, "Frame layout"). -/
def variableFrame (kind src dst code tag : Byte) (data : List Byte) : List Byte :=
  sealFrame ([kind, src, dst, code, tag, BitVec.ofNat 8 data.length] ++ data)

/-- The data octets of an ORDER, as many as octet 5 says. -/
def orderData (octets : List Byte) : List Byte := (octets.drop 6).take (octetAt octets 5).toNat

/-! ### Reply statuses (R188) -/

/-- R188's reply statuses. -/
inductive Status
  | done | pending | refusedState | badArgument | badTable | notManager | unknownOrder
deriving DecidableEq, Repr

/-- The code of a reply status (R188). -/
def Status.octet : Status → Byte
  | .done => 0 | .pending => 1 | .refusedState => 2 | .badArgument => 3
  | .badTable => 4 | .notManager => 5 | .unknownOrder => 6

/-! ### Sending fields (R190) -/

/-- A one-octet field. -/
def field1 (n : Nat) : List Byte := [BitVec.ofNat 8 n]

/-- A two-octet field, two's complement, low octet first (R190). -/
def field2 (v : Int) : List Byte := [lowOctet (BitVec.ofInt 16 v), highOctet (BitVec.ofInt 16 v)]

/-- A two-octet field that may be none or stopped: all ones (R190). -/
def optField2 : Option Int → List Byte
  | none => [0xFF, 0xFF]
  | some v => field2 v

/-- A one-octet field that may be none: all ones (R190). -/
def optField1 : Option Nat → List Byte
  | none => [0xFF]
  | some n => field1 n

/-- A flag as an octet 0 or 1. -/
def flagField (b : Bool) : List Byte := [if b then 1 else 0]

/-- A time in tenths of a second as it is sent: held at 65534 (R190). -/
def heldTenths (n : Nat) : Nat := min 65534 n

/-- A time held in ms, in tenths of a second, held at 65534 (R190). A whole number of tenths is sent as it is;
between two tenths the rounding is a free value (log 11). -/
def tenths (f : Config.TenthsField) (ms : Nat) : Nat :=
  heldTenths (if ms % 100 = 0 then ms / 100 else ms / 100 + (Config.tenthsRoundUp f ms).toNat)

/-- A time in tenths, or stopped (R190). -/
def tenthsField (f : Config.TenthsField) (t : Option Nat) : List Byte :=
  optField2 (t.map fun ms => (tenths f ms : Int))

/-- Eight flags as an octet, the first flag in bit 0. -/
def maskOctet (flags : List Bool) : Byte :=
  BitVec.ofNat 8 (flags.foldr (fun b n => 2 * n + b.toNat) 0)

end Sys2Proof.Machine
end

