-- ==== Sys2Proof/Machine/State.lean ====
section
/-! DEFINITION. The state of the part, block by block, as plain data; its value at reset; and the reasons a step can stop.
Times are in ms unless a field says otherwise. A running timer holds the ms left, so `some 0` is a timer that has run
out and whose expiry has not been taken yet (log 2). -/

namespace Sys2Proof.Machine

/-- A timer: stopped, or the ms left. -/
abbrev Timer := Option Nat

/-- An age: stopped, or the ms since it was started. -/
abbrev Age := Option Nat

/-- One thing for each zone. -/
structure PerZone (α : Type) where
  z1 : α
  z2 : α
  z3 : α
  z4 : α
deriving DecidableEq, Repr

/-- The same thing for each zone. -/
def PerZone.const {α : Type} (a : α) : PerZone α := ⟨a, a, a, a⟩

/-- The part of a zone. -/
def PerZone.get {α : Type} (p : PerZone α) : Zone → α
  | .z1 => p.z1 | .z2 => p.z2 | .z3 => p.z3 | .z4 => p.z4

/-- One thing for each circuit. -/
structure PerCircuit (α : Type) where
  c1 : α
  c2 : α
deriving DecidableEq, Repr

/-- The same thing for each circuit. -/
def PerCircuit.const {α : Type} (a : α) : PerCircuit α := ⟨a, a⟩

/-- The part of a circuit. -/
def PerCircuit.get {α : Type} (p : PerCircuit α) : Circuit → α
  | .c1 => p.c1 | .c2 => p.c2

/-! ### Ring interface: the receiver, the through buffer, the wrapping counters -/

/-- Where the part stands between RESET and the ring (R4, R5). -/
inductive Phase
  /-- RESET asserted, or no power: in bypass, no state (R5). -/
  | asserted
  /-- Released with address 0 or 63: in bypass, no timer runs (R4). -/
  | inert
  /-- Released with a valid address, waiting for the first gap (R4). -/
  | waitingGap
  /-- BYPASS DRIVE energised: the part has its place on the ring (R4). -/
  | joined
deriving DecidableEq, Repr

/-- A frame in the through buffer. `subst` is the channel and value of a substituted DEMAND that is reported to the
drive stage when it leaves (R38). -/
structure ThroughFrame where
  octets : List Byte
  subst : Option (Nat × Int)
deriving DecidableEq, Repr

/-- The six counters that wrap (R19). -/
structure WrapCounts where
  rxGood : Byte
  txThrough : Byte
  rxConsumed : Byte
  rxStripped : Byte
  throughDrop : Byte
  txInserted : Byte
deriving DecidableEq, Repr

/-- The eight counters that saturate (R19). -/
structure SatCounts where
  rxCheckErr : Byte
  insertLoss : Byte
  orderDrop : Byte
  beatSkip : Byte
  kindMismatch : Byte
  positionReject : Byte
  stackLoss : Byte
  transitForced : Byte
deriving DecidableEq, Repr

/-- The receiving side of the ring interface. -/
structure Link where
  phase : Phase
  /-- The part's own ring address (R4). -/
  own : Addr
  /-- Ring silence timer (R18). -/
  silence : Timer
  ringSilent : Bool
  wrap : WrapCounts
  /-- Through buffer, head first, at most 8 (R11). -/
  through : List ThroughFrame
deriving DecidableEq, Repr

/-! ### Ring interface: the insert queue and the downstream port -/

/-- The status of a GRANT (chapter 1, "Frame kinds"). -/
inductive GrantStatus
  | granted | pending | refused | held
deriving DecidableEq, Repr

/-- A frame of the part's own (R12). -/
inductive OwnFrame
  /-- An ORIGINATED DEMAND. -/
  | demand (ch : Nat) (value : Int)
  /-- A forwarded LEVEL. -/
  | level (ch : Nat) (active : Bool)
  | grant (dst : Addr) (tag : Byte) (ceiling : Int) (status : GrantStatus)
  | reply (dst : Addr) (code tag : Byte) (data : List Byte)
deriving DecidableEq, Repr

/-- The frame leaving the downstream port: the through buffer's head, which stays in the buffer until its last octet
has left (R11), or an inserted frame, which has left the queue (R14). -/
inductive Transmission
  | through
  | inserted (f : OwnFrame)
deriving DecidableEq, Repr

/-- The GRANT destination record (R13). -/
inductive GrantDest
  | none
  | beat (a : Addr)
  | ask (a : Addr)
deriving DecidableEq, Repr

/-- The sending side of the ring interface. -/
structure Outlet where
  /-- Insert queue, head first, at most 32 (R14). -/
  queue : List OwnFrame
  port : Option Transmission
  /-- Through frames sent since the last insertion, 0 to 4 (R16). -/
  runCount : Nat
  dest : GrantDest
  /-- The model's own: GRANT frames of this event that follow its DEMAND frames (R36, R155), in order; empty between events
  (logs 7 and 27). -/
  owed : List OwnFrame
deriving DecidableEq, Repr

/-! ### Channel map, event unit, drive stage -/

/-- The roles, each with its index (R22). -/
inductive Role
  | none
  | zoneAir (z : Zone)
  | lel (z : Zone)
  | chillWeb (c : Circuit)
  | speed
  | position
  | flame (z : Zone)
  | airflow (z : Zone)
  | brk (d : Detector)
  | forward
  | burner (z : Zone)
  | fan (z : Zone)
  | exhaust
  | chillValve (c : Circuit)
deriving DecidableEq, Repr

/-- A confirmed state (R28). -/
inductive Confirmed
  | unknown | inactive | active
deriving DecidableEq, Repr

/-- A level record (R28). A running confirm timer runs toward the state the raw level points to (R30). -/
structure LevelRec where
  /-- The raw level, none for UNKNOWN. -/
  raw : Option Bool
  confirmed : Confirmed
  timer : Timer
deriving DecidableEq, Repr

/-- A drive record (R34). The held value is present while a hold is in effect. -/
structure DriveRec where
  computed : Int
  sent : Int
  held : Option Int
  /-- Refresh timer, ms left; it always runs (R37). -/
  refresh : Nat
  /-- The model's own: the sent demand has changed at this event and its ORIGINATED DEMAND has not joined the insert queue
  yet; false between events (log 7, log 27). -/
  owed : Bool
deriving DecidableEq, Repr

/-- A channel map entry (R22) with its level or drive record. -/
structure Entry where
  role : Role
  /-- 0 for none, or 1 to 8. -/
  holdGroup : Nat
  /-- Active level HIGH. -/
  activeHigh : Bool
  confirmTime : Nat
  /-- Forward set, in the order written. -/
  forward : List Nat
  level : Option LevelRec
  drive : Option DriveRec
deriving DecidableEq, Repr

/-- An entry at power-on (R42). -/
def Entry.init : Entry :=
  { role := .none, holdGroup := 0, activeHigh := true, confirmTime := 0, forward := [], level := none, drive := none }

/-! ### Speed tracker -/

/-- Tracker states (R43). -/
inductive TrackerState
  | noSpeed | acquiring | locked | stale | lost
deriving DecidableEq, Repr

/-- The tracker record (R43). -/
structure Tracker where
  state : TrackerState
  speed : Int
  predecessor : Option Int
  count : Nat
  rejections : Nat
  age : Age
  lastPosition : Option Nat
deriving DecidableEq, Repr

/-- The tracker after either reset (R55). -/
def Tracker.init : Tracker :=
  { state := .noSpeed, speed := 0, predecessor := none, count := 0, rejections := 0, age := none, lastPosition := none }

/-! ### Regime store -/

/-- The fields a row has for one zone in use (R57). -/
structure ZoneRow where
  air : Int
  feedforward : Int
  fan : Int
deriving DecidableEq, Repr

/-- One row (R57). A zone is in use when it has its fields, so the zone use mask is the set of such zones. -/
structure Row where
  low : Int
  high : Int
  exhaust : Int
  chill : PerCircuit Int
  ramp : Nat
  soak : Nat
  lead : Nat
  zones : PerZone (Option ZoneRow)
deriving DecidableEq, Repr

/-- Commit status (R56). -/
inductive CommitStatus
  | none | pending | done | withdrawn
deriving DecidableEq, Repr

/-- The two copies and the commit status (R56); a copy's row count is its length. -/
structure Store where
  active : List Row
  shadow : List Row
  status : CommitStatus
deriving DecidableEq, Repr

/-! ### Line controller -/

/-- The eight line states (R73). -/
inductive LineState
  | cold | purge | heatup | ready | run | brk | cooldown | lockout
deriving DecidableEq, Repr

/-- The press mode (R73). -/
inductive PressMode
  | none | stopped | crawl | print | splice
deriving DecidableEq, Repr

/-- The line record (R73), the presence set (R27), the control period timer (R126), and the MIN_FIRE that a write has replaced but
that acts until the next control period (R130). -/
structure Line where
  state : LineState
  mode : PressMode
  purge : Timer
  settle : Timer
  cooldown : Timer
  zonesPresent : PerZone Bool
  circuitsPresent : PerCircuit Bool
  control : Timer
  priorMinFire : Option Nat
deriving DecidableEq, Repr

/-! ### Transition planner -/

/-- The in-force targets of one zone (R100). -/
structure ZoneTargets where
  fan : Int
  air : Int
  feedforward : Int
  ramp : Int
deriving DecidableEq, Repr

/-- The in-force set (R100). -/
structure InForce where
  exhaust : Int
  zones : PerZone ZoneTargets
  chill : PerCircuit Int
deriving DecidableEq, Repr

/-- A trigger (R102); delays and soak in tenths of a second. -/
inductive Trigger
  | after (d : Nat)
  | whenReady (soak : Nat)
  | whenSlowed (v : Int) (d : Nat)
deriving DecidableEq, Repr

/-- A step's kind and values (R102). -/
inductive StepKind
  | setExhaust (v : Int)
  | setFan (z : Zone) (v : Int)
  | setZone (z : Zone) (air feedforward ramp : Int)
  | queueChill (c : Circuit) (setpoint : Int) (row : Nat)
  | grant (speed : Int) (row : Nat)
deriving DecidableEq, Repr

/-- A step record (R102): WAITING, or DONE. -/
structure PlanStep where
  kind : StepKind
  trigger : Trigger
  done : Bool
deriving DecidableEq, Repr

/-- What caused a plan (R101). -/
inductive Origin
  | asked | crossing | commit | resume
deriving DecidableEq, Repr

/-- Which ordering built a plan (R101). -/
inductive Ordering3
  | raise | lower | adjust
deriving DecidableEq, Repr

/-- A request: a speed and a tag (R101). -/
structure Request where
  speed : Int
  tag : Byte
deriving DecidableEq, Repr

/-- A plan record (R101). `headTimer` and `clock` in ms; `readyLimit` is the READY_TIMEOUT, in ms, read when the
present head became head (R107). -/
structure Plan where
  origin : Origin
  ordering : Ordering3
  request : Option Request
  target : Nat
  frozen : Bool
  steps : List PlanStep
  head : Nat
  headTimer : Nat
  clock : Option Nat
  readyLimit : Nat
deriving DecidableEq, Repr

/-- The planner record (R97). -/
structure Planner where
  ceiling : Int
  grantRow : Option Nat
  target : Nat
  inForce : InForce
  plan : Option Plan
  lastTag : Byte
  overspeed : Bool
deriving DecidableEq, Repr

/-- The planner after either reset (R122). -/
def Planner.init : Planner :=
  { ceiling := 0, grantRow := none, target := 0,
    inForce := { exhaust := 0, zones := .const { fan := 0, air := 0, feedforward := 0, ramp := 0 }, chill := .const 0 },
    plan := none, lastTag := 0, overspeed := false }

/-! ### Zone loops, chill loops, transit line -/

/-- The quality a record holds (R123, R138). -/
inductive Quality
  | none | good | failed
deriving DecidableEq, Repr

/-- A reading with its quality and age, as zone and circuit records hold them (R123, R138). -/
structure Sensor where
  reading : Option Int
  quality : Quality
  age : Age
deriving DecidableEq, Repr

/-- A reading after reset, or after its role was written or taken (R125, R137). -/
def Sensor.init : Sensor := { reading := none, quality := .none, age := none }

/-- Band status (R129, R142). -/
inductive Band
  | inBand | low | high
deriving DecidableEq, Repr

/-- Ignition state (R123). -/
inductive Ignition
  | off | igniting | proven | failed
deriving DecidableEq, Repr

/-- A zone record (R123); `inBandTime` in tenths of a second. -/
structure ZoneRec where
  air : Sensor
  lel : Sensor
  current : Int
  target : Int
  ramp : Int
  feedforward : Int
  trim : Int
  burner : Int
  band : Band
  inBandTime : Nat
  ignition : Ignition
  ignitionTimer : Timer
deriving DecidableEq, Repr

/-- A zone record after either reset (R137). -/
def ZoneRec.init : ZoneRec :=
  { air := .init, lel := .init, current := 0, target := 0, ramp := 1, feedforward := 0, trim := 0, burner := 0,
    band := .low, inBandTime := 0, ignition := .off, ignitionTimer := none }

/-- A circuit record (R138). -/
structure CircuitRec where
  web : Sensor
  setpoint : Int
  valve : Int
  band : Band
deriving DecidableEq, Repr

/-- A circuit record after either reset (R150). -/
def CircuitRec.init : CircuitRec := { web := .init, setpoint := 0, valve := 0, band := .low }

/-- A transit entry (R143). -/
structure TransitEntry where
  remaining : Nat
  circuit : Circuit
  setpoint : Int
  row : Nat
deriving DecidableEq, Repr

/-! ### Context stack -/

/-- The causes (R151). -/
inductive Cause
  | splice | speedLost | lelRelief | masterLost | brk
deriving DecidableEq, Repr

/-- A context record (R151): ACTIVE or CLEARED, plan FROZEN or DISCARDED. -/
structure Context where
  cause : Cause
  cleared : Bool
  ceiling : Int
  grantRow : Nat
  target : Nat
  request : Option Request
  planFrozen : Bool
deriving DecidableEq, Repr

/-! ### Safety supervisor, fault collector, management agent -/

/-- The three flags of a zone (R169). -/
structure ZoneFlags where
  warn : Bool
  trip : Bool
  hot : Bool
deriving DecidableEq, Repr

/-- The supervision record (R169), the interval timer (R180) and the BURNER PERMIT output (R181). -/
structure Supervisor where
  reliefHeld : Bool
  clearTimer : Timer
  flags : PerZone ZoneFlags
  grace : PerZone Timer
  /-- none for UNARMED. -/
  count : Option Nat
  lastSeq : Option Byte
  advanceRun : Nat
  lost : Bool
  interval : Timer
  /-- BURNER PERMIT: closed. -/
  permit : Bool
deriving DecidableEq, Repr

/-- The supervision record after either reset (R186), with the interval timer as given. -/
def Supervisor.init (interval : Timer) : Supervisor :=
  { reliefHeld := false, clearTimer := none, flags := .const ⟨false, false, false⟩, grace := .const none, count := none,
    lastSeq := none, advanceRun := 0, lost := false, interval := interval, permit := false }

/-- The sixteen fault entries' parts as masks, bit n − 1 for code n (R182, R190), and the FAULT output (R184). -/
structure Faults where
  pending : Half
  taken : Half
  enable : Half
  /-- FAULT asserted. -/
  out : Bool
deriving DecidableEq, Repr

/-- The thirty parameters (R195). -/
structure Params where
  purgeTime : Nat
  crawlSpeed : Nat
  breakBurner : Nat
  breakFan : Nat
  breakValve : Nat
  coolFan : Nat
  minFire : Nat
  bandWidth : Nat
  deadband : Nat
  trimStep : Nat
  trimLimit : Nat
  settleTime : Nat
  ignitionTime : Nat
  flameGrace : Nat
  readyTimeout : Nat
  airBeforeHeat : Nat
  exhaustLag : Nat
  lelWarn : Nat
  lelTrip : Nat
  lelHyst : Nat
  lelClearTime : Nat
  reliefPercent : Nat
  overTemp : Nat
  coolLimit : Nat
  sensorStale : Nat
  chillMinValve : Nat
  pathLength : Nat
  supervisionCount : Nat
  managerAddress : Nat
  retain : Nat
deriving DecidableEq, Repr

/-- The defaults of R195. -/
def Params.init : Params :=
  { purgeTime := 120, crawlSpeed := 30, breakBurner := 150, breakFan := 300, breakValve := 500, coolFan := 600,
    minFire := 80, bandWidth := 50, deadband := 20, trimStep := 4, trimLimit := 250, settleTime := 10,
    ignitionTime := 10, flameGrace := 1000, readyTimeout := 300, airBeforeHeat := 2, exhaustLag := 5, lelWarn := 250,
    lelTrip := 500, lelHyst := 30, lelClearTime := 10, reliefPercent := 70, overTemp := 4200, coolLimit := 800,
    sensorStale := 3, chillMinValve := 100, pathLength := 600, supervisionCount := 20, managerAddress := 0, retain := 0 }

/-- The reply slot (R187). -/
inductive Slot
  | free | occupied | resetPending
deriving DecidableEq, Repr

/-- The management agent: reply slot and parameters (R187, R195). -/
structure Agent where
  slot : Slot
  params : Params
deriving DecidableEq, Repr

/-! ### The whole part -/

/-- Everything the part holds, and the commands that wait for it. -/
structure State where
  link : Link
  outlet : Outlet
  sat : SatCounts
  /-- The 128 channel map entries, by channel ID (R22). -/
  channels : List Entry
  /-- The eight hold flags, bit g − 1 for group g (R39). -/
  holds : Byte
  tracker : Tracker
  store : Store
  line : Line
  planner : Planner
  zones : PerZone ZoneRec
  circuits : PerCircuit CircuitRec
  /-- Transit line, head first, at most 8 (R143). -/
  transit : List TransitEntry
  /-- Context stack, top first, at most 4 (R151). -/
  stack : List Context
  supervisor : Supervisor
  faults : Faults
  agent : Agent
  /-- The model's own: a counter for the free order of coincident expiries (log 3, log 27). -/
  freeCount : Nat
  /-- The commands that wait, first in first out (log 6). -/
  pending : List Instr
deriving DecidableEq, Repr

/-- Why a step can stop with a fault: never. The part is specified for every event in every state, so Fault has no
constructor, and no meaning can end in one. -/
inductive Fault
deriving DecidableEq, Repr

/-- Why a step can be refused. -/
inductive Refusal
  /-- Raised by exec's arm of a command that has no meaning yet. Safe: the run stops where the part goes on. -/
  | notModelled (mnemonic : String)
deriving DecidableEq, Repr

/-- Power-on values of every block (each chapter's "Values after reset", R198), for a part in the given condition with
the given own address and with the two timers that start at the release (R4, R198). -/
def State.powerOn (phase : Phase) (own : Addr) (control interval : Timer) : State :=
  { link := { phase := phase, own := own, silence := none, ringSilent := false, wrap := ⟨0, 0, 0, 0, 0, 0⟩, through := [] }
    outlet := { queue := [], port := none, runCount := 0, dest := .none, owed := [] }
    sat := ⟨0, 0, 0, 0, 0, 0, 0, 0⟩
    channels := List.replicate Config.channelCount .init
    holds := 0
    tracker := .init
    store := { active := [], shadow := [], status := .none }
    line := { state := .cold, mode := .none, purge := none, settle := none, cooldown := none,
              zonesPresent := .const false, circuitsPresent := .const false, control := control, priorMinFire := none }
    planner := .init
    zones := .const .init
    circuits := .const .init
    transit := []
    stack := []
    supervisor := .init interval
    faults := { pending := 0, taken := 0, enable := 0xFFFF, out := false }
    agent := { slot := .free, params := .init }
    freeCount := 0
    pending := [] }

/-- The part right after reset: RESET released with a valid address (log 5), the control period and supervision interval
timers started, the bypass switch not open yet (R4, R21, R198; log 4), no command waiting. -/
def State.reset : State :=
  .powerOn .waitingGap Config.resetAddress (some Config.controlMs) (some Config.intervalMs)

end Sys2Proof.Machine
end

