-- ==== Sys2Proof/Machine/Ops.lean ====
section
/-! DEFINITION. The named operations over the part's registers, queues and counters that the meanings share: timers,
counters, raising a fault entry, the insert queue and the downstream arbiter, looking roles up in the channel map. -/

namespace Sys2Proof.Machine

/-! ### Zones and circuits -/

/-- Zones in ascending order. -/
def Zone.all : List Zone := [.z1, .z2, .z3, .z4]

/-- Circuits in ascending order. -/
def Circuit.all : List Circuit := [.c1, .c2]

/-- A zone's number, 1 to 4. -/
def zoneNumber : Zone → Nat
  | .z1 => 1 | .z2 => 2 | .z3 => 3 | .z4 => 4

/-- A circuit's number. -/
def circuitNumber : Circuit → Nat
  | .c1 => 1 | .c2 => 2

/-- A detector's number. -/
def detectorNumber : Detector → Nat
  | .d1 => 1 | .d2 => 2 | .d3 => 3 | .d4 => 4

/-- The zone of a number. -/
def zoneOf : Nat → Option Zone
  | 1 => some .z1 | 2 => some .z2 | 3 => some .z3 | 4 => some .z4 | _ => none

/-- The circuit of a number. -/
def circuitOf : Nat → Option Circuit
  | 1 => some .c1 | 2 => some .c2 | _ => none

/-- The detector of a number. -/
def detectorOf : Nat → Option Detector
  | 1 => some .d1 | 2 => some .d2 | 3 => some .d3 | 4 => some .d4 | _ => none

/-- The same with another part for one zone. -/
def PerZone.set {α : Type} (p : PerZone α) (z : Zone) (a : α) : PerZone α :=
  match z with
  | .z1 => { p with z1 := a } | .z2 => { p with z2 := a } | .z3 => { p with z3 := a } | .z4 => { p with z4 := a }

/-- Each zone's part by a function of the zone. -/
def PerZone.map {α β : Type} (f : Zone → α → β) (p : PerZone α) : PerZone β :=
  ⟨f .z1 p.z1, f .z2 p.z2, f .z3 p.z3, f .z4 p.z4⟩

/-- The same with another part for one circuit. -/
def PerCircuit.set {α : Type} (p : PerCircuit α) (c : Circuit) (a : α) : PerCircuit α :=
  match c with
  | .c1 => { p with c1 := a } | .c2 => { p with c2 := a }

/-- Each circuit's part by a function of the circuit. -/
def PerCircuit.map {α β : Type} (f : Circuit → α → β) (p : PerCircuit α) : PerCircuit β := ⟨f .c1 p.c1, f .c2 p.c2⟩

/-! ### The state with one block replaced -/

/-- The state with another `link`. -/
def State.withLink (s : State) (x : Link) : State := { s with link := x }

/-- The state with another `outlet`. -/
def State.withOutlet (s : State) (x : Outlet) : State := { s with outlet := x }

/-- The state with another `sat`. -/
def State.withSat (s : State) (x : SatCounts) : State := { s with sat := x }

/-- The state with another `channels`. -/
def State.withChannels (s : State) (x : List Entry) : State := { s with channels := x }

/-- The state with another `holds`. -/
def State.withHolds (s : State) (x : Byte) : State := { s with holds := x }

/-- The state with another `tracker`. -/
def State.withTracker (s : State) (x : Tracker) : State := { s with tracker := x }

/-- The state with another `store`. -/
def State.withStore (s : State) (x : Store) : State := { s with store := x }

/-- The state with another `line`. -/
def State.withLine (s : State) (x : Line) : State := { s with line := x }

/-- The state with another `planner`. -/
def State.withPlanner (s : State) (x : Planner) : State := { s with planner := x }

/-- The state with another `zones`. -/
def State.withZones (s : State) (x : PerZone ZoneRec) : State := { s with zones := x }

/-- The state with another `circuits`. -/
def State.withCircuits (s : State) (x : PerCircuit CircuitRec) : State := { s with circuits := x }

/-- The state with another `transit`. -/
def State.withTransit (s : State) (x : List TransitEntry) : State := { s with transit := x }

/-- The state with another `stack`. -/
def State.withStack (s : State) (x : List Context) : State := { s with stack := x }

/-- The state with another `supervisor`. -/
def State.withSupervisor (s : State) (x : Supervisor) : State := { s with supervisor := x }

/-- The state with another `faults`. -/
def State.withFaults (s : State) (x : Faults) : State := { s with faults := x }

/-- The state with another `agent`. -/
def State.withAgent (s : State) (x : Agent) : State := { s with agent := x }

/-- The state with another queue of commands. -/
def State.withPending (s : State) (q : List Instr) : State := { s with pending := q }

/-- The parameters (R195). -/
def State.params (s : State) : Params := s.agent.params

/-- Presence of a zone (R27). -/
def State.present (s : State) (z : Zone) : Bool := s.line.zonesPresent.get z

/-- Presence of a circuit (R27). -/
def State.circuitPresent (s : State) (c : Circuit) : Bool := s.line.circuitsPresent.get c

/-- The state with another zone record. -/
def State.withZone (s : State) (z : Zone) (r : ZoneRec) : State := s.withZones (s.zones.set z r)

/-- The state with another circuit record. -/
def State.withCircuit (s : State) (c : Circuit) (r : CircuitRec) : State := s.withCircuits (s.circuits.set c r)

/-- The state with another plan. -/
def State.withPlan (s : State) (p : Option Plan) : State := s.withPlanner { s.planner with plan := p }

/-- Work done for each zone in ascending order. -/
def forZones (f : Zone → State → State) (s : State) : State := Zone.all.foldl (fun s z => f z s) s

/-- Work done for each circuit in ascending order. -/
def forCircuits (f : Circuit → State → State) (s : State) : State := Circuit.all.foldl (fun s c => f c s) s

/-! ### Timers and ages -/

/-- A timer that has run out and whose expiry has not been taken (log 2). -/
def timerDue (t : Timer) : Bool := t == some 0

/-- A timer one millisecond later. -/
def timerTick (t : Timer) : Timer := t.map (· - 1)

/-- An age one millisecond later. -/
def ageTick (a : Age) : Age := a.map (· + 1)

/-- Seconds in ms. -/
def seconds (n : Nat) : Nat := 1000 * n

/-! ### Line states by what they share -/

/-- The states with the permit closed (R74). -/
def LineState.permitClosed : LineState → Bool
  | .heatup | .ready | .run | .brk => true
  | .cold | .purge | .cooldown | .lockout => false

/-- HEATUP, READY and RUN, in which the loops control and holds act (R39, R127, R140). -/
def LineState.controlled : LineState → Bool
  | .heatup | .ready | .run => true
  | .cold | .purge | .brk | .cooldown | .lockout => false

/-- READY and RUN, in which there is a grant and pushes are taken (R75, R152). -/
def LineState.granted : LineState → Bool
  | .ready | .run => true
  | .cold | .purge | .heatup | .brk | .cooldown | .lockout => false

/-! ### Counters (R19) -/

/-- A wrapping counter incremented. -/
def wrapInc (b : Byte) : Byte := b + 1

/-- A saturating counter incremented. -/
def satInc (b : Byte) : Byte := if b = 255#8 then b else b + 1

/-- KIND_MISMATCH incremented (R9, R23, R44, R124, R139). -/
def countKindMismatch (s : State) : State := s.withSat { s.sat with kindMismatch := satInc s.sat.kindMismatch }

/-! ### Fault entries (R182, R183, R184) -/

/-- The sixteen entries (R182). -/
inductive FaultCode
  | lelTrip | flameFail | flameUnexpected | ignitionFail | airflowLoss | overTemp | sensorFail | webBreak
  | masterLost | lelWarn | speedLost | heatShortfall | overspeed | stackLoss | transitForced | ringCheck
deriving DecidableEq, Repr

/-- The entries by priority, highest first. -/
def FaultCode.all : List FaultCode :=
  [.lelTrip, .flameFail, .flameUnexpected, .ignitionFail, .airflowLoss, .overTemp, .sensorFail, .webBreak,
    .masterLost, .lelWarn, .speedLost, .heatShortfall, .overspeed, .stackLoss, .transitForced, .ringCheck]

/-- An entry's code, 1 to 16 (R182). -/
def FaultCode.code : FaultCode → Nat
  | .lelTrip => 1 | .flameFail => 2 | .flameUnexpected => 3 | .ignitionFail => 4 | .airflowLoss => 5
  | .overTemp => 6 | .sensorFail => 7 | .webBreak => 8 | .masterLost => 9 | .lelWarn => 10 | .speedLost => 11
  | .heatShortfall => 12 | .overspeed => 13 | .stackLoss => 14 | .transitForced => 15 | .ringCheck => 16

/-- An entry's bit in a mask: bit n − 1 for code n (R190). -/
def FaultCode.bit (e : FaultCode) : Half := 1#16 <<< (e.code - 1)

/-- The FAULT output of a collector: asserted when an entry is both pending and enabled (R184). -/
def Faults.output (f : Faults) : Bool := decide (f.pending &&& f.enable ≠ 0)

/-- The collector with its output following its entries (R184). -/
def Faults.driven (f : Faults) : Faults := { f with out := f.output }

/-- Raising an entry (R183): pending set, taken cleared, and the output follows (R184). -/
def raiseFault (e : FaultCode) (s : State) : State :=
  s.withFaults
    ({ s.faults with pending := s.faults.pending ||| e.bit, taken := s.faults.taken &&& ~~~ e.bit } : Faults).driven

/-! ### The insert queue (R14) -/

/-- Keys under which frames replace one another (R14). -/
inductive FrameKey
  | demand (ch : Nat)
  | grant
  | reply
deriving DecidableEq, Repr

/-- A frame's key; a LEVEL has none (R14). -/
def OwnFrame.key : OwnFrame → Option FrameKey
  | .demand ch _ => some (.demand ch)
  | .level _ _ => none
  | .grant .. => some .grant
  | .reply .. => some .reply

/-- The queue with the first frame of the same key replaced in place, if one waits (R14). -/
def replaceWaiting (f : OwnFrame) : List OwnFrame → Option (List OwnFrame)
  | [] => none
  | g :: q =>
    if f.key.isSome && f.key == g.key then some (f :: q)
    else (replaceWaiting f q).map (g :: ·)

/-- The queue after an insertion, none if the frame is discarded for want of room (R14). -/
def queueInsert (f : OwnFrame) (q : List OwnFrame) : Option (List OwnFrame) :=
  match replaceWaiting f q with
  | some q' => some q'
  | none => if q.length < Config.insertCapacity then some (q ++ [f]) else none

/-- A block inserts a frame (R14). The arbiter's decision for it is made when the event's insertions are done
(`arbitrate`, log 8). -/
def insertFrame (f : OwnFrame) (s : State) : State :=
  match queueInsert f s.outlet.queue with
  | some q => s.withOutlet { s.outlet with queue := q }
  | none => s.withSat { s.sat with insertLoss := satInc s.sat.insertLoss }

/-- Frames inserted one after another. -/
def insertAll : List OwnFrame → State → State
  | [], s => s
  | f :: fs, s => insertAll fs (insertFrame f s)

/-! ### The downstream arbiter (R16) -/

/-- A frame of the insert queue starts to leave (R14, R15): it is taken off the queue, the run count returns to 0, and a
REPLY frees an OCCUPIED slot (R187). -/
def startInserted (f : OwnFrame) (q : List OwnFrame) (s : State) : State :=
  let s := s.withOutlet { s.outlet with queue := q, port := some (.inserted f), runCount := 0 }
  if f.key = some .reply ∧ s.agent.slot = .occupied then s.withAgent { s.agent with slot := .free } else s

/-- The through buffer's head starts to leave; it stays in the buffer (R11, R16). -/
def startThrough (s : State) : State :=
  s.withOutlet { s.outlet with port := some .through, runCount := min (s.outlet.runCount + 1) Config.runLimit }

/-- R16's choice between the two sources when both hold frames: the insert queue, of depth `depth`, is chosen. -/
def choosesInsert (depth runCount : Nat) : Bool :=
  if depth < Config.alternateDepth then decide (Config.runLimit ≤ runCount) else decide (0 < runCount)

/-- The arbiter's decision, made while the port is free (R16). -/
def arbitrate (s : State) : State :=
  match s.outlet.port, s.link.through, s.outlet.queue with
  | some _, _, _ => s
  | none, [], [] => s
  | none, [], f :: q => startInserted f q s
  | none, _ :: _, [] => startThrough s
  | none, _ :: _, f :: q =>
    if choosesInsert (f :: q).length s.outlet.runCount then startInserted f q s else startThrough s

/-! ### GRANT frames (R13, R99) -/

/-- Where GRANT frames are sent (R13). -/
def GrantDest.address : GrantDest → Addr
  | .none => allStations
  | .beat a | .ask a => a

/-- A GRANT with the ceiling as it stands (R99). -/
def State.grantFrame (s : State) (status : GrantStatus) (tag : Byte) : OwnFrame :=
  .grant s.outlet.dest.address tag s.planner.ceiling status

/-- A GRANT sent once the event's DEMAND frames have joined the queue (R36, R155; log 7). -/
def oweGrant (status : GrantStatus) (tag : Byte) (s : State) : State :=
  s.withOutlet { s.outlet with owed := s.outlet.owed ++ [s.grantFrame status tag] }

/-- The GRANT frames the event owes join the insert queue (R155; log 7). -/
def payGrants (s : State) : State := insertAll s.outlet.owed (s.withOutlet { s.outlet with owed := [] })

/-- The planner sends a GRANT with the ceiling as it stands (R99). A GRANT its event owes is inserted first and replaced by it in
place (R14), so that the GRANT of a state entry stands before the entry's DEMAND frames (R75; log 7). -/
def sendGrant (status : GrantStatus) (tag : Byte) (s : State) : State :=
  insertFrame (s.grantFrame status tag) (payGrants s)

/-- A GRANT sent unasked carries the last tag (R99). -/
def sendUnasked (status : GrantStatus) (s : State) : State := sendGrant status s.planner.lastTag s

/-! ### Looking up the channel map (R22) -/

/-- The first channel whose entry holds a role, counted from `n`. -/
def findRole (r : Role) (n : Nat) : List Entry → Option (Nat × Entry)
  | [] => none
  | e :: es => if e.role = r then some (n, e) else findRole r (n + 1) es

/-- The channel that holds a role-with-index, with its entry (R22: at most one holds it, FORWARD apart). -/
def State.roleChannel (s : State) (r : Role) : Option (Nat × Entry) := findRole r 0 s.channels

/-- The confirmed state a block reads for a role: none if the role is not mapped (R28). -/
def State.confirmedOf (s : State) (r : Role) : Option Confirmed :=
  (s.roleChannel r).map fun p => (p.2.level.map LevelRec.confirmed).getD .unknown

/-- A channel's entry; a channel octet of 128 to 255 names none (R23). -/
def State.entry (s : State) (ch : Nat) : Option Entry := s.channels[ch]?

/-- The state with another entry for a channel. -/
def State.withEntry (s : State) (ch : Nat) (e : Entry) : State := s.withChannels (s.channels.set ch e)

/-- Role classes (R22). -/
inductive RoleClass
  | none | sample | level | drive
deriving DecidableEq, Repr

/-- A role's class (R22). -/
def Role.roleClass : Role → RoleClass
  | .none => .none
  | .zoneAir _ | .lel _ | .chillWeb _ | .speed | .position => .sample
  | .flame _ | .airflow _ | .brk _ | .forward => .level
  | .burner _ | .fan _ | .exhaust | .chillValve _ => .drive

/-! ### Usable speed (R50) -/

/-- The usable speed: the tracker's speed in LOCKED and STALE (R50). -/
def State.usableSpeed (s : State) : Option Int :=
  match s.tracker.state with
  | .locked | .stale => some s.tracker.speed
  | .noSpeed | .acquiring | .lost => none

end Sys2Proof.Machine
end

