-- ==== Sys2Proof/Machine/Flags.lean ====
section
/-! DEFINITION. Judgements read from the state: whether a reading is current, band status, the supervisor's flags, the
conditions of the fault entries, the safe point; and the fault entries leaving when taken with their condition gone. -/

namespace Sys2Proof.Machine

/-! ### Readings -/

/-- A reading is current: quality GOOD and age at most SENSOR_STALE (R125, R139). -/
def Sensor.isCurrent (p : Params) (r : Sensor) : Bool :=
  r.quality == .good && (match r.age with | some a => decide (a ≤ seconds p.sensorStale) | none => false)

/-- The value of a reading while it is current. -/
def Sensor.currentValue (p : Params) (r : Sensor) : Option Int := if r.isCurrent p then r.reading else none

/-- Band status of a reading against a target (R129, R142). -/
def judgeBand (p : Params) (r : Sensor) (target : Int) : Band :=
  match r.currentValue p with
  | none => .low
  | some v => if (v - target).natAbs ≤ p.bandWidth then .inBand else if target < v then .high else .low

/-- Every present zone stands IN_BAND (R104). -/
def State.allInBand (s : State) : Bool := Zone.all.all fun z => !s.present z || (s.zones.get z).band == .inBand

/-- The settle condition: every present zone IN_BAND and PROVEN (R82). -/
def State.settleCondition (s : State) : Bool :=
  Zone.all.all fun z => !s.present z || (s.zones.get z).band == .inBand && (s.zones.get z).ignition == .proven

/-- The purge test: the AIRFLOW of every present zone is confirmed ACTIVE (R78). -/
def State.purgeTest (s : State) : Bool :=
  Zone.all.all fun z => !s.present z || s.confirmedOf (.airflow z) == some .active

/-- The cooldown test: every present zone's air reading is current and below COOL_LIMIT (R87). -/
def State.cooldownTest (s : State) : Bool :=
  Zone.all.all fun z =>
    !s.present z ||
      match (s.zones.get z).air.currentValue s.params with
      | some v => decide (v < s.params.coolLimit)
      | none => false

/-! ### The supervisor's flags (R169) -/

/-- A reading that is current and at or above a level. -/
def Sensor.atLeast (p : Params) (r : Sensor) (level : Nat) : Bool :=
  match r.currentValue p with | some v => decide ((level : Int) ≤ v) | none => false

/-- A reading that is current and above a level. -/
def Sensor.above (p : Params) (r : Sensor) (level : Nat) : Bool :=
  match r.currentValue p with | some v => decide ((level : Int) < v) | none => false

/-- The comparison of a zone's warn flag (R169). -/
def warnHolds (p : Params) (r : ZoneRec) : Bool := r.lel.atLeast p p.lelWarn

/-- The comparison of a zone's trip flag (R169). -/
def tripHolds (p : Params) (r : ZoneRec) : Bool := r.lel.atLeast p p.lelTrip

/-- The comparison of a zone's hot flag (R169). -/
def hotHolds (p : Params) (r : ZoneRec) : Bool := r.air.above p p.overTemp

/-- The clear test: every present zone's LEL reading is current and at or below LEL_WARN − LEL_HYST, or 0 (R171). -/
def State.clearTest (s : State) : Bool :=
  Zone.all.all fun z =>
    !s.present z ||
      match (s.zones.get z).lel.currentValue s.params with
      | some v => decide (v ≤ ((s.params.lelWarn - s.params.lelHyst : Nat) : Int))
      | none => false

/-- The sensor test fails: some present zone's air or LEL reading is not current (R177). -/
def State.sensorTestFails (s : State) : Bool :=
  Zone.all.any fun z =>
    s.present z && !((s.zones.get z).air.isCurrent s.params && (s.zones.get z).lel.isCurrent s.params)

/-! ### Conditions of the fault entries (R182) -/

/-- A reading holds SENSOR_FAIL's condition: FAILED, or GOOD and older than SENSOR_STALE (R177). -/
def Sensor.failing (p : Params) (r : Sensor) : Bool :=
  match r.quality with
  | .none => false
  | .good => !r.isCurrent p
  | .failed => true

/-- A channel with a FLAME role whose confirmed state is ACTIVE (R174). -/
def Entry.flameActive (e : Entry) : Bool :=
  match e.role with
  | .flame _ => (e.level.map LevelRec.confirmed) == some .active
  | _ => false

/-- A channel with a BREAK role whose confirmed state is ACTIVE (R89). -/
def Entry.breakActive (e : Entry) : Bool :=
  match e.role with
  | .brk _ => (e.level.map LevelRec.confirmed) == some .active
  | _ => false

/-- A BREAK channel is confirmed INACTIVE, or the channel has another role (R92). -/
def Entry.breakInactive (e : Entry) : Bool :=
  match e.role with
  | .brk _ => (e.level.map LevelRec.confirmed) == some .inactive
  | _ => true

/-- The condition part of an entry, as its source holds it (R182). OVERSPEED's condition compares the usable speed with the target
row's band high (R118); that it is absent while the target row lies at or beyond the active table's row count, where the spec gives
no band high, is the model's choice (log 31). -/
def faultCondition (s : State) : FaultCode → Bool
  | .lelTrip => Zone.all.any fun z => (s.supervisor.flags.get z).trip
  | .flameFail =>
    s.line.state.permitClosed && Zone.all.any fun z =>
      s.present z && (s.zones.get z).ignition == .proven && s.confirmedOf (.flame z) != some .active
  | .flameUnexpected => !s.line.state.permitClosed && s.channels.any Entry.flameActive
  | .ignitionFail => false
  | .airflowLoss =>
    (s.line.state.permitClosed || s.line.state == .cooldown) && Zone.all.any fun z =>
      s.present z && s.confirmedOf (.airflow z) != some .active
  | .overTemp => Zone.all.any fun z => (s.supervisor.flags.get z).hot
  | .sensorFail => Zone.all.any fun z =>
      s.present z && ((s.zones.get z).air.failing s.params || (s.zones.get z).lel.failing s.params)
  | .webBreak => s.channels.any Entry.breakActive
  | .masterLost => s.supervisor.lost
  | .lelWarn => Zone.all.any fun z => (s.supervisor.flags.get z).warn
  | .speedLost => s.usableSpeed.isNone
  | .heatShortfall => false
  | .overspeed =>
    match s.usableSpeed, s.store.active[s.planner.target]? with
    | some v, some r => decide (r.high < v)
    | _, _ => false
  | .stackLoss => false
  | .transitForced => false
  | .ringCheck => false

/-- The mask of the entries for which a test holds. -/
def faultMask (f : FaultCode → Bool) : Half :=
  FaultCode.all.foldl (fun m e => if f e then m ||| e.bit else m) 0

/-- The conditions of all entries as a mask (R190). -/
def State.conditionMask (s : State) : Half := faultMask (faultCondition s)

/-- A trip condition is present (R178). -/
def State.tripCondition (s : State) : Bool :=
  faultCondition s .lelTrip || faultCondition s .flameFail || faultCondition s .flameUnexpected ||
    faultCondition s .airflowLoss || faultCondition s .overTemp || faultCondition s .sensorFail

/-- An entry that is pending and taken leaves when its condition is absent (R183); its taken part stands until the next
raise (log 10), and the FAULT output follows (R184). Made at the end of each event that can end a condition (log 7). -/
def sweepFaults (s : State) : State :=
  if s.faults.pending &&& s.faults.taken = 0 then s
  else
    s.withFaults
      ({ s.faults with pending := s.faults.pending &&& (~~~ s.faults.taken ||| s.conditionMask) } : Faults).driven

/-! ### Safe point (R66) -/

/-- The line is at a safe point (R66). -/
def State.safePoint (s : State) : Bool :=
  (s.line.state == .cold || s.line.state == .ready || s.line.state == .run || s.line.state == .cooldown) &&
    s.planner.plan.isNone && s.stack.isEmpty

end Sys2Proof.Machine
end

