-- ==== Sys2Proof/Machine/Drive.lean ====
section
/-! DEFINITION. The drive stage: where a computed demand comes from (R35), holds (R39 to R41), and the origination of
DEMAND frames (R36, R37). -/

namespace Sys2Proof.Machine

/-- The source of a drive channel's computed demand by role, line state and presence (R35's table). -/
def demandSource (s : State) : Role → Int
  | .burner z =>
    if s.present z then
      match s.line.state with
      | .heatup | .ready | .run => (s.zones.get z).burner
      | .brk => s.params.breakBurner
      | .cold | .purge | .cooldown | .lockout => 0
    else 0
  | .fan z =>
    match s.line.state with
    | .cold => 0
    | .purge | .lockout => 1000
    | .heatup | .ready | .run => if s.present z then (s.planner.inForce.zones.get z).fan else 0
    | .brk => s.params.breakFan
    | .cooldown => s.params.coolFan
  | .exhaust =>
    match s.line.state with
    | .cold => 0
    | .purge | .brk | .lockout => 1000
    | .heatup | .ready | .run => s.planner.inForce.exhaust
    | .cooldown => s.params.coolFan
  | .chillValve c =>
    match s.line.state with
    | .cold | .purge | .cooldown => 0
    | .heatup | .ready | .run => if s.circuitPresent c then (s.circuits.get c).valve else 0
    | .brk | .lockout => s.params.breakValve
  | .none | .zoneAir _ | .lel _ | .chillWeb _ | .speed | .position | .flame _ | .airflow _ | .brk _ | .forward => 0

/-- The flag of a hold group, 1 to 8 (R39). -/
def State.groupHeld (s : State) (g : Nat) : Bool := decide (1 ≤ g) && decide (g ≤ 8) && s.holds.getLsbD (g - 1)

/-- A drive channel is under hold (R39). -/
def State.underHold (s : State) (e : Entry) : Bool := s.line.state.controlled && s.groupHeld e.holdGroup

/-- One drive record brought to its source (R35, R36) with its hold begun or ended (R40, R41). -/
def DriveRec.follow (computed : Int) (hold : Bool) (d : DriveRec) : DriveRec :=
  match hold, d.held with
  | false, _ => { d with computed := computed, sent := computed, held := none }
  | true, none => { d with computed := computed, held := some d.sent }
  | true, some _ => { d with computed := computed }

/-- One drive record followed: a change of sent demand restarts the refresh timer and is owed to the ring (R36, R41). -/
def DriveRec.followed (computed : Int) (hold : Bool) (d : DriveRec) : DriveRec :=
  let d' := d.follow computed hold
  if d'.sent = d.sent then d' else { d' with refresh := Config.refreshMs, owed := true }

/-- One entry's drive record followed. -/
def followEntry (s : State) (e : Entry) : Entry :=
  { e with drive := e.drive.map (DriveRec.followed (demandSource s e.role) (s.underHold e)) }

/-- The drive stage follows its sources: every computed demand takes its source's value, holds begin and end, and changed
sent demands are owed to the ring (R35, R36, R40, R41). Made wherever a source changes in mid-event, so that a demand that
changes and returns within an event is sent all the same, and once more when the event's work is done (log 7). -/
def followDrives (s : State) : State := s.withChannels (s.channels.map (followEntry s))

/-- The DEMAND frames owed to the ring, in ascending channel order from channel `n` upward (R36). -/
def owedDemands : Nat → List Entry → List OwnFrame
  | _, [] => []
  | n, e :: es =>
    match e.drive with
    | some d => if d.owed then .demand n d.sent :: owedDemands (n + 1) es else owedDemands (n + 1) es
    | none => owedDemands (n + 1) es

/-- An entry that owes the ring nothing. -/
def Entry.paid (e : Entry) : Entry := { e with drive := e.drive.map fun d => { d with owed := false } }

/-- The demands owed to the ring are originated, all those of an event together, in ascending channel order (R36). -/
def originateOwed (s : State) : State :=
  insertAll (owedDemands 0 s.channels) (s.withChannels (s.channels.map Entry.paid))

/-- The drive stage follows its sources and originates what it owes (R35, R36). -/
def driveStage (s : State) : State := originateOwed (followDrives s)

/-- An unprompted or correcting ORIGINATED DEMAND with the sent demand; the refresh timer restarts (R37, R38). -/
def originate (ch : Nat) (e : Entry) (d : DriveRec) (s : State) : State :=
  insertFrame (.demand ch d.sent) (s.withEntry ch { e with drive := some { d with refresh := Config.refreshMs } })

end Sys2Proof.Machine
end

