-- ==== Sys2Proof/Machine/Zones.lean ====
section
/-! DEFINITION. The zone loops (chapter 7): setpoint ramp, trim, burner demand, band status, ignition, and what each
state entry and change of target does to a zone record. -/

namespace Sys2Proof.Machine

/-- A value brought within two bounds, the lower bound applied first. -/
def clampInt (lo hi v : Int) : Int := min hi (max lo v)

/-- The parameters as the zone loops read them: until the control period after a write of MIN_FIRE in HEATUP, READY or RUN, the
MIN_FIRE from before it (R130). -/
def State.loopParams (s : State) : Params := { s.params with minFire := s.line.priorMinFire.getD s.params.minFire }

/-- A zone's burner demand by line state and ignition state (R130). -/
def burnerDemand (p : Params) (l : LineState) (r : ZoneRec) : Int :=
  match l with
  | .heatup | .ready | .run =>
    match r.ignition with
    | .igniting | .proven => clampInt p.minFire 1000 (r.feedforward + r.trim)
    | .off | .failed => 0
  | .brk => p.breakBurner
  | .cold | .purge | .cooldown | .lockout => 0

/-- The burner demand computed afresh (R130). -/
def ZoneRec.withBurner (p : Params) (l : LineState) (r : ZoneRec) : ZoneRec := { r with burner := burnerDemand p l r }

/-- The band status judged (R129); `period` is how much the in-band time grows when the zone was IN_BAND before: 2 tenths
at a control period, 0 at a change of target. -/
def ZoneRec.judged (p : Params) (period : Nat) (r : ZoneRec) : ZoneRec :=
  let b := judgeBand p r.air r.target
  { r with
    band := b
    inBandTime := if b = .inBand ∧ r.band = .inBand then min 65535 (r.inBandTime + period) else 0 }

/-- The setpoint ramp of one control period (R127). -/
def ZoneRec.ramped (r : ZoneRec) : ZoneRec :=
  { r with
    current :=
      if ((r.target - r.current).natAbs : Int) ≤ r.ramp then r.target
      else if r.current < r.target then r.current + r.ramp else r.current - r.ramp }

/-- The trim stepped by an air reading, the burner demand tested being the one held from before (R128's table). -/
def trimAfter (p : Params) (r : ZoneRec) (air : Int) : Int :=
  let error := r.current - air
  if (p.deadband : Int) < error then (if r.burner < 1000 then r.trim + p.trimStep else r.trim)
  else if error < -(p.deadband : Int) then (if (p.minFire : Int) < r.burner then r.trim - p.trimStep else r.trim)
  else r.trim

/-- Ignition IGNITING or PROVEN: the zone is lit or being lit. -/
def Ignition.firing : Ignition → Bool
  | .igniting | .proven => true
  | .off | .failed => false

/-- The trim step of one control period, held within TRIM_LIMIT whether or not it steps (R128). -/
def ZoneRec.trimmed (p : Params) (r : ZoneRec) : ZoneRec :=
  let t :=
    match r.ignition.firing, r.air.currentValue p with
    | true, some v => trimAfter p r v
    | _, _ => r.trim
  { r with trim := clampInt (-(p.trimLimit : Int)) p.trimLimit t }

/-- The flame test of a control period, or a confirmed transition to ACTIVE: an IGNITING zone becomes PROVEN, its timer
stops, and the burner demand is computed afresh (R133). -/
def ZoneRec.flameProven (p : Params) (l : LineState) (r : ZoneRec) : ZoneRec :=
  if r.ignition = .igniting then
    ({ r with ignition := .proven, ignitionTimer := none } : ZoneRec).withBurner p l
  else r

/-- One control period of a present zone: ramp, trim, burner demand, band status, flame test (R126). -/
def ZoneRec.period (p : Params) (l : LineState) (flame : Bool) (r : ZoneRec) : ZoneRec :=
  let r := if l.controlled then r.ramped.trimmed p else r
  let r := (r.withBurner p l).judged p 2
  if flame then r.flameProven p l else r

/-- The control period work of a zone's loop; a zone not present does none (R126). -/
def zonePeriod (z : Zone) (s : State) : State :=
  if s.present z then
    s.withZone z
      ((s.zones.get z).period s.loopParams s.line.state (s.confirmedOf (.flame z) == some .active))
  else s

/-- A change of the zone's targets: the trim and the setpoint current stand, the band status is judged and the burner
demand computed at once (R132). -/
def ZoneRec.retargeted (p : Params) (l : LineState) (air ff ramp : Int) (r : ZoneRec) : ZoneRec :=
  (({ r with target := air, feedforward := ff, ramp := ramp } : ZoneRec).judged p 0).withBurner p l

/-- A present zone takes new targets (R132). -/
def retargetZone (z : Zone) (air ff ramp : Int) (s : State) : State :=
  if s.present z then s.withZone z ((s.zones.get z).retargeted s.loopParams s.line.state air ff ramp) else s

/-- HEATUP entry of a present zone, its targets from the in-force set (R131). -/
def ZoneRec.heatupEntry (p : Params) (t : ZoneTargets) (r : ZoneRec) : ZoneRec :=
  ({ r with
      trim := 0
      current := clampInt 0 4000 (r.air.reading.getD 0)
      ignition := .igniting
      ignitionTimer := some (seconds p.ignitionTime) } : ZoneRec).retargeted p .heatup t.air t.feedforward t.ramp

/-- The ignition state at an entry other than HEATUP's (R135). -/
def ignitionAtEntry (l : LineState) (i : Ignition) : Ignition :=
  match l with
  | .ready | .run | .brk | .heatup => i
  | .lockout => if i = .failed then .failed else .off
  | .cold | .purge | .cooldown => .off

/-- Whether an entry leaves the ignition timer as it is (R135). -/
def keepsIgnitionTimer : LineState → Bool
  | .ready | .run | .brk => true
  | .cold | .purge | .heatup | .cooldown | .lockout => false

/-- What a state entry does to a present zone's record (R130, R131, R135). -/
def ZoneRec.entered (p : Params) (l : LineState) (t : ZoneTargets) (r : ZoneRec) : ZoneRec :=
  if l = .heatup then r.heatupEntry p t
  else
    ({ r with
        ignition := ignitionAtEntry l r.ignition
        ignitionTimer := if keepsIgnitionTimer l then r.ignitionTimer else none } : ZoneRec).withBurner p l

/-- A zone's loop at a state entry; the line state is the new one. -/
def zoneEntry (z : Zone) (s : State) : State :=
  if s.present z then
    s.withZone z ((s.zones.get z).entered s.loopParams s.line.state (s.planner.inForce.zones.get z))
  else s

/-- A record of a zone that is not present: readings stored, every other part as after reset (R123). -/
def ZoneRec.idle (r : ZoneRec) : ZoneRec := { ZoneRec.init with air := r.air, lel := r.lel }

/-- A reading handed to a zone or circuit record: GOOD applied, SUSPECT ignored, FAILED marks the quality (R124, R139).
`quality` is the aux octet, 0 to 2. -/
def Sensor.handed (r : Sensor) (v : Int) (quality : Nat) : Sensor :=
  match quality with
  | 0 => { reading := some v, quality := .good, age := some 0 }
  | 1 => r
  | _ => { r with quality := .failed }

/-- The quality a reading is handled with: GOOD or SUSPECT out of range is SUSPECT (R124, R139). -/
def handledQuality (lo hi v : Int) (quality : Nat) : Nat :=
  if quality ≤ 1 ∧ (v < lo ∨ hi < v) then 1 else quality

/-- Whether a reading counts in KIND_MISMATCH for its range (R44, R124, R139). -/
def outOfRange (lo hi v : Int) (quality : Nat) : Bool := decide (quality ≤ 1 ∧ (v < lo ∨ hi < v))

end Sys2Proof.Machine
end

