-- ==== Sys2Proof/Machine/Chill.lean ====
section
/-! DEFINITION. The chill loops and the transit line (chapter 8). -/

namespace Sys2Proof.Machine

/-- The circuit's band status judged (R142). -/
def CircuitRec.judged (p : Params) (r : CircuitRec) : CircuitRec := { r with band := judgeBand p r.web r.setpoint }

/-- The valve demand stepped by the error and held within CHILL_MIN_VALVE to 1000 (R140). -/
def valveAfter (p : Params) (r : CircuitRec) : Int :=
  let v :=
    match r.web.currentValue p with
    | none => r.valve
    | some w =>
      let error := w - r.setpoint
      if (p.deadband : Int) < error then r.valve + p.trimStep
      else if error < -(p.deadband : Int) then r.valve - p.trimStep else r.valve
  clampInt p.chillMinValve 1000 v

/-- One control period of a present circuit (R140, R142). -/
def CircuitRec.period (p : Params) (l : LineState) (r : CircuitRec) : CircuitRec :=
  ({ r with valve := if l.controlled then valveAfter p r else r.valve } : CircuitRec).judged p

/-- The control period work of a circuit's loop; a circuit not present does none (R140). -/
def circuitPeriod (c : Circuit) (s : State) : State :=
  if s.circuitPresent c then s.withCircuit c ((s.circuits.get c).period s.params s.line.state) else s

/-- The valve demand at a state entry (R141). -/
def valveAtEntry (p : Params) (l : LineState) (valve : Int) : Int :=
  match l with
  | .heatup => p.chillMinValve
  | .ready | .run => valve
  | .brk | .lockout => p.breakValve
  | .cold | .purge | .cooldown => 0

/-- What a state entry does to a present circuit's record: HEATUP entry sets the setpoint directly (R81, R141, R142). -/
def CircuitRec.entered (p : Params) (l : LineState) (setpoint : Int) (r : CircuitRec) : CircuitRec :=
  let r := { r with valve := valveAtEntry p l r.valve }
  if l = .heatup then ({ r with setpoint := setpoint } : CircuitRec).judged p else r

/-- A circuit's loop at a state entry; the line state is the new one. -/
def circuitEntry (c : Circuit) (s : State) : State :=
  if s.circuitPresent c then
    s.withCircuit c ((s.circuits.get c).entered s.params s.line.state (s.planner.inForce.chill.get c))
  else s

/-- A circuit takes a setpoint and judges its band status; a circuit not present never receives one (R57, R142). -/
def setSetpoint (c : Circuit) (v : Int) (s : State) : State :=
  if s.circuitPresent c then
    s.withCircuit c (({ s.circuits.get c with setpoint := v } : CircuitRec).judged s.params)
  else s

/-- A record of a circuit that is not present: readings stored, every other part as after reset (R138). -/
def CircuitRec.idle (r : CircuitRec) : CircuitRec := { CircuitRec.init with web := r.web }

/-! ### The transit line -/

/-- A flush discards every entry without applying it (R147). -/
def flushTransit (s : State) : State := s.withTransit []

/-- A transit entry matures: its circuit takes its setpoint (R145). -/
def mature (e : TransitEntry) (s : State) : State := setSetpoint e.circuit e.setpoint s

/-- A full line's head matures early (R144). -/
def forceHead (s : State) : State :=
  match s.transit with
  | [] => s
  | e :: rest =>
    let s := mature e (s.withTransit rest)
    raiseFault .transitForced (s.withSat { s.sat with transitForced := satInc s.sat.transitForced })

/-- A QUEUE_CHILL step appends an entry at PATH_LENGTH (R144). -/
def appendTransit (c : Circuit) (setpoint : Int) (row : Nat) (s : State) : State :=
  let s := if s.transit.length < Config.transitCapacity then s else forceHead s
  s.withTransit (s.transit ++ [{ remaining := s.params.pathLength, circuit := c, setpoint := setpoint, row := row }])

/-- Entries matured one after another, in queue order (R145). -/
def matureAll : List TransitEntry → State → State
  | [], s => s
  | e :: es, s => matureAll es (mature e s)

/-- An advance subtracted from every entry; those whose distance has run out mature (R145). -/
def advanceTransit (n : Nat) (s : State) : State :=
  let due := s.transit.filter fun e => decide (e.remaining ≤ n)
  let rest := (s.transit.filter fun e => decide (n < e.remaining)).map fun e => { e with remaining := e.remaining - n }
  matureAll due (s.withTransit rest)

end Sys2Proof.Machine
end

