-- ==== Sys2Proof/Machine/Grant.lean ====
section
/-! DEFINITION. What other blocks ask of the planner short of building a plan: discard, freeze, hold the ceiling, set the
grant, open the exhaust (R119), withdraw the grant (R75), and the rows a speed belongs to (R62, R63). -/

namespace Sys2Proof.Machine

/-! ### Requests to the planner (R119) -/

/-- The plan is discarded; its DONE steps stand and no GRANT is sent (R119). -/
def discardPlan (s : State) : State := s.withPlan none

/-- A RUNNING plan becomes FROZEN (R119). -/
def freezePlan (s : State) : State := s.withPlan (s.planner.plan.map fun p => { p with frozen := true })

/-- The ceiling held at a bound, with a GRANT HELD whether or not it changed (R119), which follows the DEMAND frames of its
event (R155; log 7). -/
def holdCeiling (b : Int) (s : State) : State :=
  oweGrant .held s.planner.lastTag (s.withPlanner { s.planner with ceiling := min s.planner.ceiling b })

/-- The grant set to a row and a ceiling; a GRANT is sent if the ceiling changed (R119). -/
def setGrant (g : Nat) (c : Int) (s : State) : State :=
  let s' := s.withPlanner { s.planner with ceiling := c, grantRow := some g }
  if c = s.planner.ceiling then s'
  else sendUnasked (if s.planner.ceiling < c then .granted else .held) s'

/-- The in-force exhaust set to 1000 (R119, R155). -/
def openExhaust (s : State) : State :=
  s.withPlanner { s.planner with inForce := { s.planner.inForce with exhaust := 1000 } }

/-- The grant row none and the ceiling 0 (R75). -/
def withdrawGrant (s : State) : State := s.withPlanner { s.planner with ceiling := 0, grantRow := none }

/-! ### Choosing a row -/

/-- The lowest row, counted from `n`, whose band high is at least `v`. -/
def lowestReaching (v : Int) (n : Nat) : List Row → Option Nat
  | [] => none
  | r :: rs => if v ≤ r.high then some n else lowestReaching v (n + 1) rs

/-- The highest row, counted from `n`, whose band low is at most `v`. -/
def highestStarting (v : Int) (n : Nat) : List Row → Option Nat
  | [] => none
  | r :: rs =>
    match highestStarting v (n + 1) rs with
    | some j => some j
    | none => if r.low ≤ v then some n else none

/-- The row a requested speed belongs to (R62). -/
def rowForRequest (t : List Row) (v : Int) : Option Nat := if v < 0 then none else lowestReaching v 0 t

/-- The row the dryer is set for, taken as the top row at or beyond the row count (R63). -/
def rowSet (t : List Row) (k : Nat) : Nat := min k (t.length - 1)

/-- The row chosen by band crossing for an actual speed, the dryer being set for row `k` (R63); none only of an empty
table. -/
def rowForSpeed (t : List Row) (k : Nat) (v : Int) : Option Nat :=
  match t[rowSet t k]? with
  | none => none
  | some r =>
    if v < r.low then lowestReaching v 0 t
    else if r.high < v then highestStarting v 0 t
    else some (rowSet t k)

/-! ### The in-force set from a row -/

/-- In-force targets from a row; a zone the row does not name keeps its own (R81, R68, log 17). -/
def InForce.fromRow (r : Row) (f : InForce) : InForce :=
  { exhaust := r.exhaust
    zones := f.zones.map fun z t =>
      match r.zones.get z with
      | some x => { fan := x.fan, air := x.air, feedforward := x.feedforward, ramp := r.ramp }
      | none => t
    chill := r.chill }

end Sys2Proof.Machine
end

