-- ==== Sys2Proof/Machine/Stack.lean ====
section
/-! DEFINITION. Pushes to the context stack, their overlays, reactivation and overflow (R151 to R158). -/

namespace Sys2Proof.Machine

/-- The bound of the relief overlay (R155). -/
def reliefBound (s : State) : Int :=
  match s.usableSpeed with
  | some v => v * s.params.reliefPercent / 100
  | none => 0

/-- A cause's overlay (R154 to R156). The drive stage follows the relief's exhaust, and the GRANT HELD is owed behind the event's
DEMAND frames, which ascend by channel (R155, R36; log 7). The break entry's own steps are the line controller's (R90); of them the
discard of the plan stands here, so that the record's disposition is DISCARDED (R156). -/
def overlay (c : Cause) (s : State) : State :=
  match c with
  | .splice | .speedLost => freezePlan s
  | .lelRelief => holdCeiling (reliefBound s) (followDrives (openExhaust (discardPlan s)))
  | .masterLost | .brk => discardPlan s

/-- The record of a cause, from the planner before the overlay; `frozen` tells whether a plan stands after it (R153). -/
def contextOf (c : Cause) (s : State) (frozen : Bool) : Context :=
  { cause := c, cleared := false, ceiling := s.planner.ceiling, grantRow := s.planner.grantRow.getD 0,
    target := s.planner.target, request := s.planner.plan.bind Plan.request, planFrozen := frozen }

/-- A new record saved on top and its overlay applied (R153). -/
def saveContext (c : Cause) (s : State) : State :=
  let t := overlay c s
  t.withStack (contextOf c s t.planner.plan.isSome :: t.stack)

/-- A CLEARED record made ACTIVE again in place, its overlay applied again (R157). -/
def reactivate (c : Cause) (s : State) : State :=
  let t := overlay c s
  t.withStack
    (t.stack.map fun r => if r.cause = c then { r with cleared := false, planFrozen := t.planner.plan.isSome } else r)

/-- The base context's values in the record that has become the bottom (R158). -/
def baseContext (s : State) (r : Context) : Context :=
  { r with
    ceiling := match s.usableSpeed with | some v => min s.planner.ceiling v | none => 0
    grantRow := s.planner.grantRow.getD 0
    target := s.planner.target
    request := none
    planFrozen := false }

/-- A list with its last element changed. -/
def mapLast {α : Type} (f : α → α) : List α → List α
  | [] => []
  | [a] => [f a]
  | a :: b :: l => a :: mapLast f (b :: l)

/-- The bottom record removed, STACK_LOSS counted and raised, the new bottom given the base context (R158). -/
def overflowStack (s : State) : State :=
  let s := s.withStack (mapLast (baseContext s) s.stack.dropLast)
  raiseFault .stackLoss (s.withSat { s.sat with stackLoss := satInc s.sat.stackLoss })

/-- R152's case 1 for a push in a line state. -/
def pushRefused (c : Cause) (l : LineState) : Bool := !l.granted || (c == .splice && l != .run)

/-- A push request, by the first case of R152 that applies. -/
def push (c : Cause) (s : State) : State :=
  if pushRefused c s.line.state then s
  else if s.stack.any fun r => r.cause == .brk then s
  else
    match s.stack.find? fun r => r.cause == c with
    | some r => if r.cleared then reactivate c s else s
    | none => if s.stack.length < Config.stackCapacity then saveContext c s else saveContext c (overflowStack s)

end Sys2Proof.Machine
end

