-- ==== Sys2Proof/Machine/Line.lean ====
section
/-! DEFINITION. The line controller's state entries (chapter 5): what every entry does, and each state's own. -/

namespace Sys2Proof.Machine

/-- The supervisor at a state entry: the permit follows the state (R74, R181); the relief watch, the clear timer and the
grace timers end at entries into HEATUP, COLD, PURGE, COOLDOWN and LOCKOUT (R171, R173). -/
def Supervisor.entered (l : LineState) (v : Supervisor) : Supervisor :=
  match l with
  | .ready | .run | .brk => { v with permit := l.permitClosed }
  | .heatup | .cold | .purge | .cooldown | .lockout =>
    { v with permit := l.permitClosed, reliefHeld := false, clearTimer := none, grace := .const none }

/-- The grant at a state entry (R75): outside READY and RUN it is withdrawn, with a GRANT HELD if the state left was READY
or RUN, and at every entry into BREAK or LOCKOUT. -/
def grantAtEntry (l : LineState) (s : State) : State :=
  if l.granted then s
  else if s.line.state.granted ∨ l = .brk ∨ l = .lockout then sendUnasked .held (withdrawGrant s)
  else withdrawGrant s

/-- What every state entry does (R73): the grant under R75, the new state with its timers stopped, the permit and the
supervisor's watches, the zone loops, the chill loops and the drive stage, whose demands leave with the event's (log 7). -/
def enterLine (l : LineState) (s : State) : State :=
  let s := grantAtEntry l s
  let s := s.withLine { s.line with state := l, purge := none, settle := none, cooldown := none }
  let s := s.withSupervisor (s.supervisor.entered l)
  followDrives (forCircuits circuitEntry (forZones zoneEntry s))

/-- The stack emptied without restore (R165). -/
def emptyStack (s : State) : State := s.withStack []

/-- The entry into COLD from COOLDOWN or LOCKOUT (R88). -/
def enterCold (s : State) : State := enterLine .cold (flushTransit s)

/-- The purge timer by the purge test (R78, R79). -/
def purgeJudged (s : State) : State :=
  let timer :=
    if s.purgeTest then (if s.line.purge.isNone then some (seconds s.params.purgeTime) else s.line.purge) else none
  s.withLine { s.line with purge := timer }

/-- The entry into PURGE (R78). -/
def enterPurge (s : State) : State := purgeJudged (enterLine .purge s)

/-- The cooldown test may move the line to COLD (R87). -/
def cooldownJudged (s : State) : State := if s.cooldownTest then enterCold s else s

/-- The entry into COOLDOWN by STOP (R86, R87). -/
def enterCooldown (s : State) : State :=
  let s := enterLine .cooldown (flushTransit (emptyStack s))
  cooldownJudged (s.withLine { s.line with cooldown := some Config.cooldownMs })

/-- A trip report taken by the line controller (R93). -/
def tripLine (s : State) : State :=
  if s.line.state = .cold ∨ s.line.state = .lockout then s
  else enterLine .lockout (flushTransit (discardPlan (emptyStack s)))

/-- A trip: the cause's entry is raised and the trip reported to the line controller (R178). -/
def trip (e : FaultCode) (s : State) : State := tripLine (raiseFault e s)

/-- A sensor test that is due: a failing one trips (R177). -/
def sensorTested (due : Bool) (s : State) : State := if due && s.sensorTestFails then trip .sensorFail s else s

/-- The sensor test, in HEATUP, READY, RUN and BREAK (R177). -/
def sensorJudged (s : State) : State := sensorTested s.line.state.permitClosed s

/-- The entry into HEATUP (R81): target row 0 and the in-force set from row 0 before the loops read it, then the sensor
test. Without a row 0, which START rules out, the in-force set stands (log 26). -/
def enterHeatup (s : State) : State :=
  let inForce := match s.store.active[0]? with
    | some r => s.planner.inForce.fromRow r
    | none => s.planner.inForce
  sensorJudged (enterLine .heatup (s.withPlanner { s.planner with target := 0, inForce := inForce }))

/-- The warning of a zone that stands at the entry into READY from HEATUP, or crosses (R170). -/
def lelWarning (s : State) : State :=
  let s := s.withSupervisor { s.supervisor with reliefHeld := true, clearTimer := none }
  push .lelRelief (raiseFault .lelWarn s)

/-- A MASTER_LOST push at an entry into READY while the lost flag is set (R180). -/
def masterAtReady (s : State) : State := if s.supervisor.lost then push .masterLost s else s

/-- The entry into READY at the settle timer's expiry (R83), with the warnings and the lost master that stand (R170,
R180; their order log 16). -/
def readyFromHeatup (s : State) : State :=
  let s := enterLine .ready s
  let s := s.withPlanner { s.planner with ceiling := s.params.crawlSpeed, grantRow := some 0 }
  let s := sendUnasked .granted s
  let warned := Zone.all.any fun z => s.present z && (s.supervisor.flags.get z).warn
  masterAtReady (if warned then lelWarning s else s)

/-- The return from RUN to READY at a plan's completion (R85). -/
def readyFromRun (s : State) : State :=
  let old := s.planner.ceiling
  let s := enterLine .ready s
  let c := if s.stack.isEmpty then (s.params.crawlSpeed : Int) else min s.params.crawlSpeed old
  let s := s.withPlanner { s.planner with ceiling := c, grantRow := some 0 }
  masterAtReady (sendUnasked (if c < old then .held else .granted) s)

/-- SPEED_LOST raised and its push asked for (R51). -/
def speedLost (s : State) : State := push .speedLost (raiseFault .speedLost s)

/-- The entry into RUN (R84; the order of its two pushes log 16). -/
def enterRun (s : State) : State :=
  let s := enterLine .run s
  let s := if s.usableSpeed.isNone then speedLost s else s
  if s.line.mode = .splice then push .splice s else s

/-- The break entry of a confirmed break in READY and RUN (R90), and WEB_BREAK in every state (R89). -/
def webBreak (s : State) : State :=
  let s := raiseFault .webBreak s
  if s.line.state.granted then enterLine .brk (flushTransit (discardPlan (push .brk s))) else s

end Sys2Proof.Machine
end

