-- ==== Sys2Proof/Machine/Plan.lean ====
section
/-! DEFINITION. Plans: their steps by the three orderings (R108 to R111), the head's trigger and its firing (R102 to
R106), completion and stall (R85, R107). -/

namespace Sys2Proof.Machine

/-! ### Building steps -/

/-- Tenths of a second from seconds. -/
def tenSeconds (n : Nat) : Nat := 10 * n

/-- A step as built (R102). -/
def PlanStep.waiting (k : StepKind) (t : Trigger) : PlanStep := { kind := k, trigger := t, done := false }

/-- A run of steps, the first with one trigger and the others with another. -/
def stepsWith (first rest : Trigger) : List StepKind → List PlanStep
  | [] => []
  | k :: ks => .waiting k first :: ks.map fun k => .waiting k rest

/-- The exhaust step, where the exhaust differs and no LEL_RELIEF record of either status stands (R108). R160's sentence that the
relief exhaust stays while any record stands beneath is read as what popping itself leaves: a crossing plan built above a
MASTER_LOST record once the LEL_RELIEF record has gone has its exhaust step, which is the model's choice (log 32). -/
def exhaustKinds (s : State) (r : Row) : List StepKind :=
  if s.stack.any fun c => c.cause == .lelRelief then []
  else if s.planner.inForce.exhaust = r.exhaust then [] else [.setExhaust r.exhaust]

/-- The fan steps of present zones whose fan differs (R108). -/
def fanKinds (s : State) (r : Row) : List StepKind :=
  Zone.all.filterMap fun z =>
    match r.zones.get z with
    | some x => if s.present z && (s.planner.inForce.zones.get z).fan != x.fan then some (.setFan z x.fan) else none
    | none => none

/-- Whether a zone's three targets differ from a row's. -/
def zoneDiffers (t : ZoneTargets) (x : ZoneRow) (ramp : Nat) : Bool :=
  t.air != x.air || t.feedforward != x.feedforward || t.ramp != ramp

/-- The zone steps of present zones of which some target differs (R108). -/
def zoneKinds (s : State) (r : Row) : List StepKind :=
  Zone.all.filterMap fun z =>
    match r.zones.get z with
    | some x =>
      if s.present z && zoneDiffers (s.planner.inForce.zones.get z) x r.ramp then
        some (.setZone z x.air x.feedforward r.ramp)
      else none
    | none => none

/-- The chill steps of present circuits whose setpoint differs; the source row is the plan's target row (R102, R108). -/
def chillKinds (s : State) (j : Nat) (r : Row) : List StepKind :=
  Circuit.all.filterMap fun c =>
    if s.circuitPresent c && s.planner.inForce.chill.get c != r.chill.get c then some (.queueChill c (r.chill.get c) j)
    else none

/-- The air before the heat, as RAISE and ADJUST plans open (R109, R111). -/
def openingSteps (s : State) (r : Row) : List PlanStep :=
  stepsWith (.after 0) (.after 0) (exhaustKinds s r ++ fanKinds s r) ++
    stepsWith (.after (tenSeconds s.params.airBeforeHeat)) (.after 0) (zoneKinds s r)

/-- The chill steps, which close every plan (R109 to R111). -/
def closingSteps (s : State) (j : Nat) (r : Row) : List PlanStep :=
  stepsWith (.after 0) (.after 0) (chillKinds s j r)

/-- A RAISE plan's steps (R109). -/
def raiseSteps (s : State) (j : Nat) (r : Row) (v : Int) : List PlanStep :=
  openingSteps s r ++ [.waiting (.grant v j) (.whenReady (tenSeconds r.soak))] ++ closingSteps s j r

/-- An ADJUST plan's steps (R111). -/
def adjustSteps (s : State) (j : Nat) (r : Row) : List PlanStep := openingSteps s r ++ closingSteps s j r

/-- The slowed speed of a LOWER plan, rounded down (R110). -/
def slowedSpeed (ceiling v : Int) (lead : Nat) : Int := v + (ceiling - v) * lead / 100

/-- A LOWER plan's steps for a speed `v`, with its GRANT step if `granting` (R110). -/
def lowerSteps (s : State) (j : Nat) (r : Row) (v : Int) (granting : Bool) : List PlanStep :=
  let heat : Trigger := .whenSlowed (slowedSpeed s.planner.ceiling v r.lead) 0
  let air : Trigger := .whenSlowed r.high 0
  (if granting then [.waiting (.grant v j) (.after 0)] else []) ++
    stepsWith heat heat (zoneKinds s r) ++
    stepsWith air air (fanKinds s r) ++
    stepsWith (.whenSlowed r.high (tenSeconds s.params.exhaustLag)) (.after 0) (exhaustKinds s r) ++
    closingSteps s j r

/-- A plan as built: RUNNING, head 0, timer and clock at zero (R101). -/
def Plan.built (s : State) (o : Origin) (ord : Ordering3) (req : Option Request) (j : Nat) (steps : List PlanStep) :
    Plan :=
  { origin := o, ordering := ord, request := req, target := j, frozen := false, steps := steps, head := 0,
    headTimer := 0, clock := none, readyLimit := seconds s.params.readyTimeout }

/-! ### Triggers -/

/-- A time of tenths of a second in ms. -/
def tenthsMs (d : Nat) : Nat := 100 * d

/-- What a test of the head's trigger leaves on the trigger clock, and whether the trigger holds (R103 to R105). -/
def testTrigger (s : State) (p : Plan) : Trigger → Option Nat × Bool
  | .after d => (p.clock, decide (tenthsMs d ≤ p.headTimer))
  | .whenReady soak =>
    if s.allInBand then (some (p.clock.getD 0), decide (tenthsMs soak ≤ p.clock.getD 0)) else (none, false)
  | .whenSlowed v d =>
    match p.clock with
    | some c => (some c, decide (tenthsMs d ≤ c))
    | none =>
      match s.usableSpeed with
      | some u => if u ≤ v then (some 0, decide (d = 0)) else (none, false)
      | none => (none, false)

/-! ### Firing -/

/-- A GRANT step's effect (R113): for a request, the speed and row it carries with a GRANT GRANTED under the request's
tag; without one, the bounds of a crossing with a GRANT HELD under the last tag. -/
def fireGrant (req : Option Request) (v : Int) (j : Nat) (s : State) : State :=
  match req with
  | some r => sendGrant .granted r.tag (s.withPlanner { s.planner with ceiling := v, grantRow := some j })
  | none =>
    let high := match s.store.active[j]? with | some r => r.high | none => v
    sendUnasked .held
      (s.withPlanner
        { s.planner with ceiling := min s.planner.ceiling high, grantRow := some (min (s.planner.grantRow.getD j) j) })

/-- One zone's in-force targets changed. -/
def setTargets (z : Zone) (f : ZoneTargets → ZoneTargets) (s : State) : State :=
  let i := s.planner.inForce
  s.withPlanner { s.planner with inForce := { i with zones := i.zones.set z (f (i.zones.get z)) } }

/-- A step's effect on firing (R102). -/
def stepEffect (req : Option Request) (k : StepKind) (s : State) : State :=
  match k with
  | .setExhaust v => s.withPlanner { s.planner with inForce := { s.planner.inForce with exhaust := v } }
  | .setFan z v => setTargets z (fun t => { t with fan := v }) s
  | .setZone z air ff ramp =>
    retargetZone z air ff ramp (setTargets z (fun t => { t with air := air, feedforward := ff, ramp := ramp }) s)
  | .queueChill c sp row =>
    let i := s.planner.inForce
    appendTransit c sp row (s.withPlanner { s.planner with inForce := { i with chill := i.chill.set c sp } })
  | .grant v j => fireGrant req v j s

/-- The plan once its head step has fired: the step DONE, the next step head with its timer at zero and its clock
stopped, READY_TIMEOUT read afresh (R106, R107). -/
def Plan.advanced (limit : Nat) (p : Plan) : Plan :=
  { p with
    steps := p.steps.modify p.head fun t => { t with done := true }
    head := p.head + 1
    headTimer := 0
    clock := none
    readyLimit := limit }

/-- The head step fires (R106), and the drive stage follows what it changed (R35). -/
def fireHead (p : Plan) (k : StepKind) (s : State) : State :=
  followDrives (stepEffect p.request k (s.withPlan (some (p.advanced (seconds s.params.readyTimeout)))))

/-- The plan completes: it is removed, and a LOWER or ADJUST plan toward row 0 in RUN returns the line to READY (R85,
R101, R106). -/
def completePlan (p : Plan) (s : State) : State :=
  let s := s.withPlan none
  if s.line.state = .run ∧ p.target = 0 ∧ p.ordering ≠ .raise then readyFromRun s else s

/-- The head's trigger tested, and the steps behind it as each becomes head (R106); the first argument bounds the run
by the steps left and the completion. A plan with no step left completes, also one that was built without steps and that the push
of its own entry into RUN has frozen (R106; log 35). -/
def testHead : Nat → State → State
  | 0, s => s
  | n + 1, s =>
    match s.planner.plan with
    | none => s
    | some p =>
      match p.steps[p.head]? with
      | none => completePlan p s
      | some t =>
        if p.frozen then s
        else
          let (clock, holds) := testTrigger s p t.trigger
          if holds then testHead n (fireHead p t.kind s) else s.withPlan (some { p with clock := clock })

/-- The head tested with room for every step of its plan. -/
def runPlan (s : State) : State :=
  match s.planner.plan with
  | none => s
  | some p => testHead (p.steps.length + 1) s

/-- The head fires though its trigger is not read again, its time having run out, and the plan runs on (R106). -/
def fireDue (p : Plan) (s : State) : State :=
  match p.steps[p.head]? with
  | none => s
  | some t => testHead (p.steps.length + 1) (fireHead p t.kind s)

/-- A plan is put in existence: the target row becomes its target, READY moves to RUN before any step can fire, and the
head is tested (R84, R108). -/
def installPlan (p : Plan) (s : State) : State :=
  let s := s.withPlanner { s.planner with plan := some p, target := p.target }
  runPlan (if s.line.state = .ready then enterRun s else s)

/-- The plan stalls (R107). -/
def stallPlan (p : Plan) (s : State) : State :=
  let s := raiseFault .heatShortfall (s.withPlan none)
  match p.request with
  | some r => sendGrant .refused r.tag s
  | none => s

/-- A band report read by the planner: the clock of a WHEN_READY head of a RUNNING plan (R104). -/
def bandReportToPlan (s : State) : State :=
  match s.planner.plan with
  | none => s
  | some p =>
    match p.steps[p.head]? with
    | some { trigger := .whenReady _, .. } => runPlan s
    | _ => s

/-- A speed report read by the planner: a WHEN_SLOWED head still waiting for the speed (R105). -/
def speedReportToPlan (s : State) : State :=
  match s.planner.plan with
  | none => s
  | some p =>
    match p.steps[p.head]?, p.clock with
    | some { trigger := .whenSlowed _ _, .. }, none => runPlan s
    | _, _ => s

/-! ### Band crossing (R117, R118) -/

/-- A CROSSING LOWER plan toward row `j` (R110, R117). -/
def crossingLower (j : Nat) (r : Row) (s : State) : State :=
  let granting := decide (r.high < s.planner.ceiling) || decide (j < s.planner.grantRow.getD 0)
  let steps := lowerSteps s j r (min s.planner.ceiling r.high) granting
  installPlan (.built s .crossing .lower none j steps) s

/-- A CROSSING ADJUST plan toward row `j` (R118). -/
def crossingAdjust (j : Nat) (r : Row) (s : State) : State :=
  installPlan (.built s .crossing .adjust none j (adjustSteps s j r)) s

/-- The stack lets crossings be acted on: its top, if any, is neither SPLICE nor SPEED_LOST (R117). -/
def crossingAllowed (s : State) : Bool :=
  match s.stack with
  | [] => true
  | r :: _ => r.cause != .splice && r.cause != .speedLost

/-- The overspeed flag set or cleared. -/
def setOverspeed (b : Bool) (s : State) : State := s.withPlanner { s.planner with overspeed := b }

/-- A speed above the target row's band (R118). -/
def crossAbove (j : Nat) (r : Row) (s : State) : State :=
  if j = s.planner.target then
    if s.planner.overspeed then s else setOverspeed true (raiseFault .overspeed s)
  else crossingAdjust j r (raiseFault .overspeed s)

/-- The band crossing test (R117, R118). -/
def crossingTest (s : State) : State :=
  if s.line.state.granted && s.planner.plan.isNone && crossingAllowed s then
    match s.usableSpeed with
    | none => s
    | some v =>
      match s.store.active[rowSet s.store.active s.planner.target]?, rowForSpeed s.store.active s.planner.target v with
      | some k, some j =>
        match s.store.active[j]? with
        | none => s
        | some r =>
          if v < k.low then crossingLower j r s
          else if k.high < v then crossAbove j r s
          else setOverspeed false s
      | _, _ => s
  else s

end Sys2Proof.Machine
end

