-- ==== Sys2Proof/Machine/Restore.lean ====
section
/-! DEFINITION. Clearance, popping and the restore (R159 to R164). -/

namespace Sys2Proof.Machine

/-- The restore's grant (R162). -/
def restoreGrant (b : Context) (g : Nat) (s : State) : State :=
  let c := match s.store.active[g]? with | some r => min b.ceiling r.high | none => b.ceiling
  setGrant g c s

/-- Whether a plan holds a WAITING SET_EXHAUST step. -/
def Plan.exhaustWaits (p : Plan) : Bool :=
  p.steps.any fun t => !t.done && (match t.kind with | .setExhaust _ => true | _ => false)

/-- The plan the restore keeps (R163): a SET_EXHAUST step appended where the exhaust is out of step, and the plan
RUNNING. -/
def Plan.kept (s : State) (p : Plan) : Plan :=
  match s.store.active[p.target]? with
  | some r =>
    if s.planner.inForce.exhaust ≠ r.exhaust ∧ p.exhaustWaits = false then
      { p with frozen := false, steps := p.steps ++ [.waiting (.setExhaust r.exhaust) (.after 0)] }
    else { p with frozen := false }
  | none => { p with frozen := false }

/-- The restore with a plan in existence (R163); a plan that was FROZEN has its head tested at once. -/
def restorePlan (p : Plan) (s : State) : State :=
  let s' := s.withPlan (some (p.kept s))
  if p.frozen then runPlan s' else s'

/-- The target row of a restore without a plan (R164). -/
def restoreTarget (b : Context) (g : Nat) : Nat := if g = b.grantRow then b.target else g

/-- A RESUME ADJUST plan toward a row, where some in-force value differs (R164, case 2). -/
def resumeAdjust (j : Nat) (r : Row) (s : State) : State :=
  let steps := adjustSteps s j r
  if steps = [] then s else installPlan (.built s .resume .adjust none j steps) s

/-- A RESUME RAISE plan that takes up a saved request (R164, case 1). -/
def resumeRaise (j : Nat) (r : Row) (q : Request) (s : State) : State :=
  installPlan (.built s .resume .raise (some q) j (raiseSteps s j r q.speed)) s

/-- The plan a restore builds, by the first case of R164 that applies. -/
def resumePlan (req : Option Request) (j : Nat) (r : Row) (s : State) : State :=
  match req with
  | some q => if s.planner.ceiling < q.speed ∧ q.speed ≤ r.high then resumeRaise j r q s else resumeAdjust j r s
  | none => resumeAdjust j r s

/-- The target row set. -/
def setTarget (j : Nat) (s : State) : State := s.withPlanner { s.planner with target := j }

/-- The restore without a plan: the target row, and a RESUME plan where one is called for (R164). -/
def restoreDryer (b : Context) (g : Nat) (s : State) : State :=
  let j := restoreTarget b g
  match s.store.active[j]? with
  | some r => resumePlan b.request j r (setTarget j s)
  | none => setTarget j s

/-- What the restore does once the grant is set (R163, R164). -/
def restoreRest (b : Context) (g : Nat) (s : State) : State :=
  match s.planner.plan with
  | some p => restorePlan p s
  | none => restoreDryer b g s

/-- The restore from the deepest record (R161 to R164). The grant row is none only outside READY and RUN, where no
restore takes place. -/
def restore (b : Context) (s : State) : State :=
  match s.planner.grantRow with
  | none => s
  | some current => restoreRest b (min b.grantRow current) (restoreGrant b (min b.grantRow current) s)

/-- The CLEARED records at the top removed, with the last one removed (R160). -/
def popCleared : List Context → Option Context → List Context × Option Context
  | [], last => ([], last)
  | r :: rs, last => if r.cleared then popCleared rs (some r) else (r :: rs, last)

/-- CLEARED records popped; a stack emptied by it is restored from (R160, R161). -/
def popStack (s : State) : State :=
  match popCleared s.stack none with
  | ([], some b) => restore b (s.withStack [])
  | (l, _) => s.withStack l

/-- A cause has an ACTIVE record. -/
def State.activeContext (s : State) (c : Cause) : Bool := s.stack.any fun r => r.cause == c && !r.cleared

/-- A clearance request (R159). -/
def clearCause (c : Cause) (s : State) : State :=
  if s.activeContext c then
    popStack (s.withStack (s.stack.map fun r => if r.cause = c then { r with cleared := true } else r))
  else s

end Sys2Proof.Machine
end

