-- ==== Sys2Proof/Machine/Table.lean ====
section
/-! DEFINITION. The regime store: validation (R60, R61), carrying out a commit (R67 to R69), the safe-point test (R66), and
what ends every event: the store's test, the drive stage, the fault entries, the arbiter (logs 7 and 8). -/

namespace Sys2Proof.Machine

/-! ### Validation -/

/-- Reason codes of a refused COMMIT (R60, R61), 1 to 7. -/
inductive TableFault
  | v1 | v2 | v3 | v4 | v5 | v6 | presence
deriving DecidableEq, Repr

/-- A reason's code. -/
def TableFault.code : TableFault → Nat
  | .v1 => 1 | .v2 => 2 | .v3 => 3 | .v4 => 4 | .v5 => 5 | .v6 => 6 | .presence => 7

/-- A value within bounds. -/
def within (lo hi v : Int) : Bool := decide (lo ≤ v) && decide (v ≤ hi)

/-- A zone's fields within their ranges (R57). -/
def ZoneRow.inRange (x : ZoneRow) : Bool :=
  within 0 4000 x.air && within 0 1000 x.feedforward && within 0 1000 x.fan

/-- Every present field of a row within its range (R57, V6). -/
def Row.inRange (r : Row) : Bool :=
  within 0 1200 r.low && within 0 1200 r.high && within 0 1000 r.exhaust &&
    within 50 400 r.chill.c1 && within 50 400 r.chill.c2 &&
    within 1 100 r.ramp && within 0 255 r.soak && within 0 100 r.lead &&
    Zone.all.all fun z => match r.zones.get z with | some x => x.inRange | none => true

/-- A zone is named in a row's zone use mask (R57). -/
def Row.uses (r : Row) (z : Zone) : Bool := (r.zones.get z).isSome

/-- Two rows have the same mask. -/
def Row.sameMask (a b : Row) : Bool := Zone.all.all fun z => a.uses z == b.uses z

/-- V2 for row 0. -/
def rowZeroFits (crawl : Nat) (r : Row) : Bool := r.low == 0 && decide ((crawl : Int) ≤ r.high)

/-- V3 for a row and the one below it. -/
def rowsStep (below r : Row) : Bool :=
  decide (below.low < r.low) && decide (r.low ≤ below.high) && decide (below.high < r.high)

/-- V4 to V6 of a row, with row 0 for its mask. -/
def rowFault (zero r : Row) : Option TableFault :=
  if ¬ r.high ≤ 1200 then some .v4
  else if ¬ (Zone.all.any r.uses && r.sameMask zero) then some .v5
  else if ¬ r.inRange then some .v6
  else none

/-- The rows from `n` upward checked, each against the one below it (R60). -/
def rowsFault (zero below : Row) (n : Nat) : List Row → Option (Nat × TableFault)
  | [] => none
  | r :: rs =>
    if ¬ rowsStep below r then some (n, .v3)
    else match rowFault zero r with
      | some f => some (n, f)
      | none => rowsFault zero r (n + 1) rs

/-- The first check a table fails, with the row being checked (R60). -/
def tableFault (crawl : Nat) : List Row → Option (Nat × TableFault)
  | [] => some (0, .v1)
  | r :: rs =>
    if Config.tableCapacity < (r :: rs).length then some (0, .v1)
    else if ¬ rowZeroFits crawl r then some (0, .v2)
    else match rowFault r r with
      | some f => some (0, f)
      | none => rowsFault r r 1 rs

/-- The line states in which a COMMIT checks row 0's mask against the presence set (R61). -/
def LineState.presenceChecked : LineState → Bool
  | .purge | .heatup | .ready | .run | .brk => true
  | .cold | .cooldown | .lockout => false

/-- Row 0's mask names every present zone (R61). -/
def coversPresence (s : State) (t : List Row) : Bool :=
  match t with
  | [] => false
  | r :: _ => Zone.all.all fun z => !s.present z || r.uses z

/-- What a COMMIT finds wrong with the shadow copy (R60, R61). -/
def commitFault (s : State) : Option (Nat × TableFault) :=
  match tableFault s.params.crawlSpeed s.store.shadow with
  | some f => some f
  | none =>
    if s.line.state.presenceChecked && !coversPresence s s.store.shadow then some (0, .presence) else none

/-! ### Carrying out a commit -/

/-- The ceiling bounded without a change of the grant row; GRANT HELD if it fell (R68, R69, R120). -/
def boundCeiling (b : Int) (s : State) : State :=
  if b < s.planner.ceiling then sendUnasked .held (s.withPlanner { s.planner with ceiling := b }) else s

/-- A zone takes row 0's values at a commit in READY (R132). -/
def zoneFromRow (r : Row) (z : Zone) (s : State) : State :=
  match r.zones.get z with
  | some x => retargetZone z x.air x.feedforward r.ramp s
  | none => s

/-- A commit carried out in READY (R68). -/
def commitReady (r : Row) (s : State) : State :=
  let s := flushTransit (s.withPlanner { s.planner with inForce := s.planner.inForce.fromRow r })
  let s := forCircuits (fun c => setSetpoint c (r.chill.get c)) (forZones (zoneFromRow r) s)
  boundCeiling r.high s

/-- The grant row lowered to a row. -/
def lowerGrantRow (j : Nat) (s : State) : State :=
  s.withPlanner { s.planner with grantRow := s.planner.grantRow.map (min j) }

/-- The ceiling bounded by the band high of the grant row (R69). -/
def boundByGrantRow (s : State) : State :=
  match s.planner.grantRow.bind fun g => s.store.active[g]? with
  | some r => boundCeiling r.high s
  | none => s

/-- The row a commit in RUN reconciles with (R69). -/
def commitRow (s : State) : Option Nat :=
  match s.usableSpeed with
  | some v => rowForSpeed s.store.active s.planner.target v
  | none => some (rowSet s.store.active s.planner.target)

/-- A commit carried out in RUN (R69). -/
def commitRun (s : State) : State :=
  match commitRow s with
  | none => s
  | some j =>
    let s := boundByGrantRow (lowerGrantRow j s)
    match s.store.active[j]? with
    | none => s
    | some r => installPlan (.built s .commit .adjust none j (adjustSteps s j r)) s

/-- The pending commit is carried out (R67). -/
def carryOut (s : State) : State :=
  let s := s.withStore { s.store with active := s.store.shadow, status := .done }
  match s.line.state with
  | .ready => match s.store.active with | r :: _ => commitReady r s | [] => s
  | .run => commitRun s
  | .cold | .purge | .heatup | .brk | .cooldown | .lockout => s

/-- The store's test for a safe point while a commit is pending (R66). -/
def settleStore (s : State) : State := if s.store.status = .pending ∧ s.safePoint = true then carryOut s else s

/-! ### The end of an event -/

/-- What ends an event's work: the store's test, the drive stage, the GRANT frames owed behind it, the fault entries (log 7). -/
def closeEvent (s : State) : State := sweepFaults (payGrants (driveStage (settleStore s)))

/-- The end of an event (log 8). -/
def finish (s : State) : State := arbitrate (closeEvent s)

end Sys2Proof.Machine
end

