-- ==== Sys2Proof/Machine/Supervisor.lean ====
section
/-! DEFINITION. The safety supervisor's judgements (R169 to R177) and master supervision (R179, R180). -/

namespace Sys2Proof.Machine

/-! ### Flags and crossings (R169, R170, R172, R176) -/

/-- A zone's flags replaced. -/
def setFlags (z : Zone) (f : ZoneFlags) (s : State) : State :=
  s.withSupervisor { s.supervisor with flags := s.supervisor.flags.set z f }

/-- A zone's warn flag judged; a crossing in READY or RUN warns (R170). -/
def judgeWarn (z : Zone) (s : State) : State :=
  let f := s.supervisor.flags.get z
  let h := warnHolds s.params (s.zones.get z)
  let s := setFlags z { f with warn := h } s
  if h && !f.warn && s.line.state.granted then lelWarning s else s

/-- A zone's trip flag judged; a crossing trips (R172; in COLD the report changes nothing). -/
def judgeTrip (z : Zone) (s : State) : State :=
  let f := s.supervisor.flags.get z
  let h := tripHolds s.params (s.zones.get z)
  let s := setFlags z { f with trip := h } s
  if h && !f.trip then trip .lelTrip s else s

/-- A zone's hot flag judged; a crossing trips (R176). -/
def judgeHot (z : Zone) (s : State) : State :=
  let f := s.supervisor.flags.get z
  let h := hotHolds s.params (s.zones.get z)
  let s := setFlags z { f with hot := h } s
  if h && !f.hot then trip .overTemp s else s

/-- Work done for a zone if it is present. -/
def ifPresent (f : Zone → State → State) (z : Zone) (s : State) : State := if s.present z then f z s else s

/-- The three flags of a present zone judged (R169; their order log 13). -/
def judgeZone (z : Zone) (s : State) : State := ifPresent (fun z s => judgeHot z (judgeTrip z (judgeWarn z s))) z s

/-! ### The relief watch (R171) -/

/-- The clearance at the clear timer's expiry (R171). -/
def clearRelief (s : State) : State :=
  clearCause .lelRelief (s.withSupervisor { s.supervisor with reliefHeld := false, clearTimer := none })

/-- The clear timer replaced. -/
def setClearTimer (t : Timer) (s : State) : State := s.withSupervisor { s.supervisor with clearTimer := t }

/-- The clear test while the relief watch is HELD (R171). -/
def clearJudged (s : State) : State :=
  if !s.supervisor.reliefHeld then s
  else if !s.clearTest then setClearTimer none s
  else if s.supervisor.clearTimer.isSome then s
  else if s.params.lelClearTime = 0 then clearRelief s
  else setClearTimer (some (seconds s.params.lelClearTime)) s

/-! ### Flame and airflow (R173 to R175) -/

/-- A zone's grace timer replaced. -/
def setGrace (z : Zone) (t : Timer) (s : State) : State :=
  s.withSupervisor { s.supervisor with grace := s.supervisor.grace.set z t }

/-- The sent demand of a role's drive record, 0 where it has none. -/
def State.sentDemand (s : State) (r : Role) : Int :=
  match s.roleChannel r with
  | some (_, e) => (e.drive.map DriveRec.sent).getD 0
  | none => 0

/-- R173's conditions for a lost flame to start its grace. -/
def flameMissed (z : Zone) (s : State) : Bool :=
  s.present z && (s.zones.get z).ignition == .proven && s.line.state.permitClosed &&
    decide (0 < s.sentDemand (.burner z)) && (s.supervisor.grace.get z).isNone

/-- A FLAME transition taken by the supervisor (R173, R174). -/
def superviseFlame (z : Zone) (active : Bool) (s : State) : State :=
  if active then
    let s := setGrace z none s
    if s.line.state.permitClosed then s else trip .flameUnexpected s
  else if flameMissed z s then
    if s.params.flameGrace = 0 then trip .flameFail s else setGrace z (some s.params.flameGrace) s
  else s

/-- An AIRFLOW transition taken by the supervisor (R175). -/
def superviseAirflow (z : Zone) (active : Bool) (s : State) : State :=
  if active || !s.present z then s
  else if s.line.state.permitClosed then trip .airflowLoss s
  else if s.line.state = .cooldown then raiseFault .airflowLoss s
  else s

/-- What the supervisor does at a transition of a role (R31, R175). -/
def superviseLevel (r : Role) (active : Bool) (s : State) : State :=
  match r with
  | .flame z => superviseFlame z active s
  | .airflow z => superviseAirflow z active s
  | _ => s

/-! ### Master supervision (R179, R180) -/

/-- The supervision record after a BEAT, and whether it skipped (R179's table). -/
def Supervisor.beat (reload : Nat) (seq : Byte) (v : Supervisor) : Supervisor × Bool :=
  match v.lastSeq with
  | none => ({ v with count := some reload, advanceRun := 0, lastSeq := some seq }, false)
  | some last =>
    if seq = last then ({ v with advanceRun := 0 }, false)
    else if seq = last + 1 then
      ({ v with count := some reload, advanceRun := min 3 (v.advanceRun + 1), lastSeq := some seq }, false)
    else ({ v with count := some reload, advanceRun := 0, lastSeq := some seq }, true)

/-- A BEAT taken by the supervisor: a third advance in a row ends the loss (R179). -/
def superviseBeat (seq : Byte) (s : State) : State :=
  let r := s.supervisor.beat s.params.supervisionCount seq
  let s := s.withSupervisor r.1
  let s := if r.2 then s.withSat { s.sat with beatSkip := satInc s.sat.beatSkip } else s
  if r.1.advanceRun = 3 ∧ r.1.lost then
    clearCause .masterLost (s.withSupervisor { s.supervisor with lost := false })
  else s

/-- The count reaches 0: the loss of the master (R180); a push is refused outside READY and RUN (R152). -/
def masterRunOut (s : State) : State :=
  let wasLost := s.supervisor.lost
  let s := s.withSupervisor { s.supervisor with advanceRun := 0, lost := true }
  if wasLost then s else push .masterLost (raiseFault .masterLost s)

/-- An armed count above 0 decreased by 1 (R180). -/
def superviseInterval (s : State) : State :=
  match s.supervisor.count with
  | some (n + 1) =>
    let s := s.withSupervisor { s.supervisor with count := some n }
    if n = 0 then masterRunOut s else s
  | _ => s

end Sys2Proof.Machine
end

