-- ==== Sys2Proof/Machine/Tracker.lean ====
section
/-! DEFINITION. The speed tracker (chapter 3). -/

namespace Sys2Proof.Machine

/-- Tolerance during acquisition (R46). -/
def agreeTolerance (predecessor : Int) : Int := max 5 (predecessor * 2 / 100)

/-- Lock tolerance (R47). -/
def lockTolerance (speed : Int) : Int := max 20 (speed * 10 / 100)

/-- Two speeds lie within a tolerance. -/
def near (a b tolerance : Int) : Bool := decide (((a - b).natAbs : Int) ≤ tolerance)

/-- What a reading or expiry makes the tracker report (R50). -/
inductive TrackerReport
  /-- Nothing. -/
  | quiet
  /-- A reading taken while LOCKED, with the new speed. -/
  | taken
  /-- A reading taken at an entry into LOCKED, with the clearance R51 asks for. -/
  | locked
  /-- The loss of the usable speed. -/
  | lost
deriving DecidableEq, Repr

/-- Acquisition begun from a reading (R45, R47). -/
def Tracker.acquire (v : Int) (t : Tracker) : Tracker :=
  { t with state := .acquiring, count := 1, predecessor := some v, rejections := 0, age := some 0 }

/-- A GOOD reading in ACQUIRING (R46). -/
def Tracker.count4 (v : Int) (t : Tracker) : Tracker × TrackerReport :=
  let agrees := match t.predecessor with | some p => near v p (agreeTolerance p) | none => false
  let n := if agrees then t.count + 1 else 1
  if n = 4 then
    ({ t with state := .locked, speed := v, predecessor := none, count := 0, rejections := 0, age := some 0 }, .locked)
  else ({ t with count := n, predecessor := some v, age := some 0 }, .quiet)

/-- A GOOD reading in LOCKED or STALE (R47). -/
def Tracker.compare (v : Int) (t : Tracker) : Tracker × TrackerReport :=
  if near v t.speed (lockTolerance t.speed) then
    ({ t with state := .locked, speed := v, rejections := 0, age := some 0 },
      if t.state = .stale then .locked else .taken)
  else if t.rejections + 1 = 3 then (t.acquire v, .lost)
  else ({ t with rejections := t.rejections + 1 }, .quiet)

/-- A GOOD reading within range (R45 to R47). -/
def Tracker.good (v : Int) (t : Tracker) : Tracker × TrackerReport :=
  match t.state with
  | .noSpeed | .lost => (t.acquire v, .quiet)
  | .acquiring => t.count4 v
  | .locked | .stale => t.compare v

/-- A SUSPECT reading (R45 to R47). -/
def Tracker.suspect (t : Tracker) : Tracker :=
  match t.state with
  | .acquiring => { t with count := 0, predecessor := none }
  | .noSpeed | .locked | .stale | .lost => t

/-- Whether a tracker state makes the speed usable (R50). -/
def TrackerState.usable : TrackerState → Bool
  | .locked | .stale => true
  | .noSpeed | .acquiring | .lost => false

/-- The loss reported by leaving a usable state (R50). -/
def lossFrom (st : TrackerState) : TrackerReport := if st.usable then .lost else .quiet

/-- A FAILED reading (R49). -/
def Tracker.fail (t : Tracker) : Tracker × TrackerReport :=
  match t.state with
  | .lost => (t, .quiet)
  | .noSpeed | .acquiring | .locked | .stale =>
    ({ t with state := .lost, count := 0, predecessor := none, rejections := 0, age := none }, lossFrom t.state)

/-- A speed reading of a quality (R44). -/
def Tracker.reading (v : Int) (quality : Nat) (t : Tracker) : Tracker × TrackerReport :=
  match handledQuality 0 1200 v quality with
  | 0 => t.good v
  | 1 => (t.suspect, .quiet)
  | _ => t.fail

/-- The age timer at 250 ms (R48). -/
def Tracker.at250 (t : Tracker) : Tracker :=
  match t.state with
  | .locked => { t with state := .stale }
  | .acquiring => { t with count := 0, predecessor := none }
  | .noSpeed | .stale | .lost => t

/-- The age timer at 1000 ms (R48). -/
def Tracker.at1000 (t : Tracker) : Tracker × TrackerReport :=
  match t.state with
  | .stale => ({ t with state := .lost, rejections := 0, age := none }, .lost)
  | .noSpeed | .acquiring | .locked | .lost => (t, .quiet)

/-- A speed reported to the planner: crossing test, then the WHEN_SLOWED head (R50; their order log 14). -/
def speedReport (s : State) : State := speedReportToPlan (crossingTest s)

/-- What follows the tracker's change (R50, R51). -/
def trackerReport (r : TrackerReport) (s : State) : State :=
  match r with
  | .quiet => s
  | .taken => speedReport s
  | .locked => clearCause .speedLost (speedReport s)
  | .lost => if s.line.state = .run then speedLost s else s

/-- The tracker changed, with what follows. -/
def trackerStep (r : Tracker × TrackerReport) (s : State) : State := trackerReport r.2 (s.withTracker r.1)

/-- A READING on the SPEED channel (R44). -/
def speedReading (v : Int) (quality : Nat) (s : State) : State :=
  let s := if outOfRange 0 1200 v quality then countKindMismatch s else s
  trackerStep (s.tracker.reading v quality) s

/-- What a GOOD position reading calls for by its advance and the speed's usability (R53). -/
inductive AdvanceUse
  | none | passed | rejected
deriving DecidableEq, Repr

/-- The advance between two counts, modulo 65536 (R53). -/
def advanceFrom (last new : Nat) : Nat := (new + 65536 - last) % 65536

/-- R53's table. -/
def advanceUse (advance : Nat) (usable : Bool) : AdvanceUse :=
  if advance = 0 then .none
  else if advance ≤ 32767 then (if usable then .passed else .none)
  else .rejected

/-- A GOOD position count measured from the last one (R53, R54). -/
def positionFrom (last count : Nat) (s : State) : State :=
  match advanceUse (advanceFrom last count) s.usableSpeed.isSome with
  | .none => s
  | .passed => advanceTransit (advanceFrom last count) s
  | .rejected => s.withSat { s.sat with positionReject := satInc s.sat.positionReject }

/-- A READING on the POSITION channel (R53). -/
def positionReading (count quality : Nat) (s : State) : State :=
  if quality ≠ 0 then s
  else
    let last := s.tracker.lastPosition
    let s := s.withTracker { s.tracker with lastPosition := some count }
    match last with
    | none => s
    | some l => positionFrom l count s

end Sys2Proof.Machine
end

