-- ==== Sys2Proof/Machine/Levels.lean ====
section
/-! DEFINITION. The event unit (R28 to R33), what the blocks do with a confirmed transition (R31), and the routing of
READING and LEVEL frames by role (R23). -/

namespace Sys2Proof.Machine

/-- The state a raw level points to (R28, R30). -/
def pointsTo (activeHigh raw : Bool) : Confirmed := if raw = activeHigh then .active else .inactive

/-- The confirmed transition made by a change of confirmed state, with true for ACTIVE (R31). -/
def transitionOf (old new : Confirmed) : Option Bool :=
  if old = new then none
  else match new with
    | .active => some true
    | .inactive => if old = .active then some false else none
    | .unknown => none

/-- A level record brought to a new raw level whose pointed state is `p`, by the confirm time: settled where it points to
the confirmed state, changed at once or after the time otherwise; from UNKNOWN an inactive level settles at once (R29,
R30). -/
def LevelRec.moved (time : Nat) (p : Confirmed) (lvl : Bool) (r : LevelRec) : LevelRec :=
  if p = r.confirmed then { r with raw := some lvl, timer := none }
  else if time = 0 ∨ (r.confirmed = .unknown ∧ p = .inactive) then { raw := some lvl, confirmed := p, timer := none }
  else { r with raw := some lvl, timer := some time }

/-- A LEVEL frame on a level record (R29, R30). -/
def LevelRec.taken (e : Entry) (lvl : Bool) (r : LevelRec) : LevelRec :=
  if r.raw = some lvl then r else r.moved e.confirmTime (pointsTo e.activeHigh lvl) lvl

/-- The confirm timer's expiry on a level record (R29, R30). -/
def LevelRec.expired (activeHigh : Bool) (r : LevelRec) : LevelRec :=
  match r.raw with
  | some lvl => { r with confirmed := pointsTo activeHigh lvl, timer := none }
  | none => { r with timer := none }

/-- One LEVEL frame for each channel of a forward set, in its order (R33). -/
def forwardLevels (active : Bool) (chs : List Nat) (s : State) : State := insertAll (chs.map (.level · active)) s

/-- The zone loop at a FLAME transition to ACTIVE (R133). -/
def proveZone (z : Zone) (s : State) : State :=
  s.withZone z ((s.zones.get z).flameProven s.loopParams s.line.state)

/-- The purge test where the line is in PURGE (R79). -/
def purgeTested (s : State) : State := if s.line.state = .purge then purgeJudged s else s

/-- A confirmed transition reported to the blocks of its role (R31). -/
def reportTransition (r : Role) (active : Bool) (s : State) : State :=
  match r with
  | .flame z => let s := superviseFlame z active s; if active then proveZone z s else s
  | .airflow z => purgeTested (superviseAirflow z active s)
  | .brk _ => if active then webBreak s else s
  | _ => s

/-- A channel's level record changed: the record stored, and a confirmed transition reported and forwarded (R31, R33). -/
def changeLevel (ch : Nat) (e : Entry) (old new : LevelRec) (s : State) : State :=
  let s := s.withEntry ch { e with level := some new }
  match transitionOf old.confirmed new.confirmed with
  | some active => forwardLevels active e.forward (reportTransition e.role active s)
  | none => s

/-- A LEVEL handed to the event unit (R29, R30). -/
def levelHanded (ch : Nat) (e : Entry) (lvl : Bool) (s : State) : State :=
  match e.level with
  | some r => changeLevel ch e r (r.taken e lvl) s
  | none => s

/-! ### Readings handed to the loops (R124, R139, R169 to R177) -/

/-- An air or LEL reading's range (R124). -/
def airRange : Int × Int := (-500, 5000)

/-- An LEL reading's range (R124). -/
def lelRange : Int × Int := (0, 1000)

/-- The supervisor on a zone reading of a handled quality: the flags at a GOOD one, the sensor test at a FAILED one
(R169, R177). -/
def superviseReading (z : Zone) (quality : Nat) (s : State) : State :=
  match quality with
  | 0 => judgeZone z s
  | 1 => s
  | _ => if s.present z then sensorJudged s else s

/-- A reading out of its range counted (R44, R124, R139). -/
def countRange (range : Int × Int) (v : Int) (quality : Nat) (s : State) : State :=
  if outOfRange range.1 range.2 v quality then countKindMismatch s else s

/-- A READING on the ZONE_AIR channel of a zone (R124). -/
def airReading (z : Zone) (v : Int) (quality : Nat) (s : State) : State :=
  let q := handledQuality airRange.1 airRange.2 v quality
  let s := countRange airRange v quality s
  let r := s.zones.get z
  superviseReading z q (s.withZone z { r with air := r.air.handed v q })

/-- A READING on the LEL channel of a zone (R124), with the clear test at a GOOD one of a present zone (R171). -/
def lelReading (z : Zone) (v : Int) (quality : Nat) (s : State) : State :=
  let q := handledQuality lelRange.1 lelRange.2 v quality
  let s := countRange lelRange v quality s
  let r := s.zones.get z
  let s := superviseReading z q (s.withZone z { r with lel := r.lel.handed v q })
  if q = 0 ∧ s.present z = true then clearJudged s else s

/-- A READING on the CHILL_WEB channel of a circuit (R139). -/
def webReading (c : Circuit) (v : Int) (quality : Nat) (s : State) : State :=
  let q := handledQuality airRange.1 airRange.2 v quality
  let s := countRange airRange v quality s
  let r := s.circuits.get c
  s.withCircuit c { r with web := r.web.handed v q }

/-! ### Routing (R23) -/

/-- A READING routed by its channel's role (R23). -/
def routeReading (ch : Nat) (value : Half) (quality : Nat) (s : State) : State :=
  match (s.entry ch).map Entry.role with
  | none | some .none => s
  | some (.zoneAir z) => airReading z value.toInt quality s
  | some (.lel z) => lelReading z value.toInt quality s
  | some (.chillWeb c) => webReading c value.toInt quality s
  | some .speed => speedReading value.toInt quality s
  | some .position => positionReading value.toNat quality s
  | some _ => countKindMismatch s

/-- A LEVEL routed by its channel's role (R23). -/
def routeLevel (ch : Nat) (lvl : Bool) (s : State) : State :=
  match s.entry ch with
  | none => s
  | some e =>
    match e.role.roleClass with
    | .none => s
    | .level => levelHanded ch e lvl s
    | .sample | .drive => countKindMismatch s

end Sys2Proof.Machine
end

