-- ==== Sys2Proof/Machine/Timers.lean ====
section
/-! DEFINITION. The expiries that the opcode table lists as rows. Each acts only if its timer has run out (log 2) and
changes nothing otherwise. -/

namespace Sys2Proof.Machine

/-- An event's work where its timer has run out, with what ends the event; nothing otherwise (log 2). -/
def whenDue (due : Bool) (work : State → State) (s : State) : State := if due then finish (work s) else s

/-- RING_SILENT set at the silence timer's expiry (R18). -/
def silenceWork (s : State) : State := s.withLink { s.link with silence := none, ringSilent := true }

/-- The level record of a channel whose confirm timer has run out. -/
def confirmDue (s : State) (ch : Nat) : Option (Entry × LevelRec) :=
  match s.entry ch with
  | some e =>
    match e.level with
    | some r => if timerDue r.timer then some (e, r) else none
    | none => none
  | none => none

/-- The confirmed state becomes the one the raw level points to (R29, R30). -/
def confirmWork (ch : Nat) (s : State) : State :=
  match confirmDue s ch with
  | some (e, r) => changeLevel ch e r (r.expired e.activeHigh) s
  | none => s

/-- The drive record of a channel whose refresh timer has run out. -/
def refreshDue (s : State) (ch : Nat) : Option (Entry × DriveRec) :=
  match s.entry ch with
  | some e =>
    match e.drive with
    | some d => if d.refresh = 0 then some (e, d) else none
    | none => none
  | none => none

/-- The unprompted ORIGINATED DEMAND (R37). -/
def refreshWork (ch : Nat) (s : State) : State :=
  match refreshDue s ch with
  | some (e, d) => originate ch e d s
  | none => s

/-- The age timer has reached a mark. -/
def ageReached (mark : Nat) (s : State) : Bool := match s.tracker.age with | some a => decide (mark ≤ a) | none => false

/-- The purge test at the purge timer's expiry (R79). -/
def purgeWork (s : State) : State :=
  if s.purgeTest then enterHeatup s else s.withLine { s.line with purge := none }

/-- The cooldown timer repeats, and the cooldown test is made (R87). -/
def cooldownWork (s : State) : State := cooldownJudged (s.withLine { s.line with cooldown := some Config.cooldownMs })

/-- The settle timer by the settle condition after a band report in HEATUP (R82). -/
def settleJudged (s : State) : State :=
  if s.line.state = .heatup then
    let timer :=
      if s.settleCondition then
        (if s.line.settle.isNone then some (seconds s.params.settleTime) else s.line.settle)
      else none
    s.withLine { s.line with settle := timer }
  else s

/-- The work of a control period (R126; the order of the blocks log 12): a MIN_FIRE written since the last one acts (R130), then
the loops and the drive stage, the band report, the supervisor. The chill loops step before the band report's steps can fire, whose
setpoints they work to from the next period (R142). The sensor test is due by the line state in which the supervisor begins, so that
a trip of a flag, which enters LOCKOUT, leaves a failing test its own entry (R177, R178). -/
def controlWork (s : State) : State :=
  let s := s.withLine { s.line with control := some Config.controlMs, priorMinFire := none }
  let s := followDrives (forCircuits circuitPeriod (forZones zonePeriod s))
  let s := bandReportToPlan (settleJudged s)
  sensorTested s.line.state.permitClosed (clearJudged (forZones judgeZone s))

/-- The trigger, head timer and clock of a RUNNING plan's head. -/
def runningHead (s : State) : Option (Plan × Trigger) :=
  match s.planner.plan with
  | none => none
  | some p => if p.frozen then none else (p.steps[p.head]?).map fun t => (p, t.trigger)

/-- The head timer has reached an AFTER head's delay (R103). -/
def afterDue (s : State) : Bool :=
  match runningHead s with
  | some (p, .after d) => decide (tenthsMs d ≤ p.headTimer)
  | _ => false

/-- The trigger clock has reached a WHEN_READY head's soak time (R104). -/
def soakDue (s : State) : Bool :=
  match runningHead s with
  | some (p, .whenReady soak) => match p.clock with | some c => decide (tenthsMs soak ≤ c) | none => false
  | _ => false

/-- The trigger clock has reached a WHEN_SLOWED head's delay (R105). -/
def slowedDue (s : State) : Bool :=
  match runningHead s with
  | some (p, .whenSlowed _ d) => match p.clock with | some c => decide (tenthsMs d ≤ c) | none => false
  | _ => false

/-- A WHEN_READY head's timer has reached READY_TIMEOUT (R107). -/
def stallDue (s : State) : Bool :=
  match runningHead s with
  | some (p, .whenReady _) => decide (p.readyLimit ≤ p.headTimer)
  | _ => false

/-- The head of the plan fires, its time having run out (R103 to R105). -/
def fireWork (s : State) : State := match s.planner.plan with | some p => fireDue p s | none => s

/-- The plan stalls (R107). -/
def stallWork (s : State) : State := match s.planner.plan with | some p => stallPlan p s | none => s

/-- A zone's ignition timer has run out while it is IGNITING (R134). -/
def ignitionDue (z : Zone) (s : State) : Bool :=
  timerDue (s.zones.get z).ignitionTimer && (s.zones.get z).ignition == .igniting

/-- The zone FAILED, its burner cut, and the trip IGNITION_FAIL (R134, R178). -/
def ignitionWork (z : Zone) (s : State) : State :=
  let r : ZoneRec := { s.zones.get z with ignition := .failed, ignitionTimer := none }
  trip .ignitionFail (s.withZone z (r.withBurner s.loopParams s.line.state))

/-- The grace of a zone has run out: FLAME_FAIL (R173). -/
def graceWork (z : Zone) (s : State) : State := trip .flameFail (setGrace z none s)

/-- The supervision interval repeats, and an armed count runs down (R180). -/
def intervalWork (s : State) : State :=
  superviseInterval (s.withSupervisor { s.supervisor with interval := some Config.intervalMs })

/-! ### The rows -/

/-- RING_SILENCE_EXPIRY (R18). -/
def execRingSilenceExpiry (s : State) : Host.Outcome State Fault Refusal :=
  .next (whenDue (timerDue s.link.silence) silenceWork s)

/-- CONFIRM_TIMER_EXPIRY (R30). -/
def execConfirmTimerExpiry (ch : Byte) (s : State) : Host.Outcome State Fault Refusal :=
  .next (whenDue (confirmDue s ch.toNat).isSome (confirmWork ch.toNat) s)

/-- REFRESH_TIMER_EXPIRY (R37). -/
def execRefreshTimerExpiry (ch : Byte) (s : State) : Host.Outcome State Fault Refusal :=
  .next (whenDue (refreshDue s ch.toNat).isSome (refreshWork ch.toNat) s)

/-- AGE_TIMER_250 (R48). -/
def execAgeTimer250 (s : State) : Host.Outcome State Fault Refusal :=
  .next (whenDue (ageReached Config.staleMs s) (fun s => s.withTracker s.tracker.at250) s)

/-- AGE_TIMER_1000 (R48). -/
def execAgeTimer1000 (s : State) : Host.Outcome State Fault Refusal :=
  .next (whenDue (ageReached Config.lostMs s) (fun s => trackerStep s.tracker.at1000 s) s)

/-- PURGE_TIMER_EXPIRY (R79). -/
def execPurgeTimerExpiry (s : State) : Host.Outcome State Fault Refusal :=
  .next (whenDue (timerDue s.line.purge) purgeWork s)

/-- SETTLE_TIMER_EXPIRY (R83). -/
def execSettleTimerExpiry (s : State) : Host.Outcome State Fault Refusal :=
  .next (whenDue (timerDue s.line.settle && s.line.state == .heatup) readyFromHeatup s)

/-- COOLDOWN_TIMER_EXPIRY (R87). -/
def execCooldownTimerExpiry (s : State) : Host.Outcome State Fault Refusal :=
  .next (whenDue (timerDue s.line.cooldown) cooldownWork s)

/-- CONTROL_PERIOD (R126). -/
def execControlPeriod (s : State) : Host.Outcome State Fault Refusal :=
  .next (whenDue (timerDue s.line.control) controlWork s)

/-- HEAD_TIMER_AFTER (R103). -/
def execHeadTimerAfter (s : State) : Host.Outcome State Fault Refusal := .next (whenDue (afterDue s) fireWork s)

/-- SOAK_COMPLETE (R104). -/
def execSoakComplete (s : State) : Host.Outcome State Fault Refusal := .next (whenDue (soakDue s) fireWork s)

/-- SLOWED_DELAY_EXPIRY (R105). -/
def execSlowedDelayExpiry (s : State) : Host.Outcome State Fault Refusal := .next (whenDue (slowedDue s) fireWork s)

/-- READY_TIMEOUT (R107). -/
def execReadyTimeout (s : State) : Host.Outcome State Fault Refusal := .next (whenDue (stallDue s) stallWork s)

/-- IGNITION_TIMER_EXPIRY (R134). -/
def execIgnitionTimerExpiry (z : Zone) (s : State) : Host.Outcome State Fault Refusal :=
  .next (whenDue (ignitionDue z s) (ignitionWork z) s)

/-- CLEAR_TIMER_EXPIRY (R171). -/
def execClearTimerExpiry (s : State) : Host.Outcome State Fault Refusal :=
  .next (whenDue (timerDue s.supervisor.clearTimer) clearRelief s)

/-- GRACE_TIMER_EXPIRY (R173). -/
def execGraceTimerExpiry (z : Zone) (s : State) : Host.Outcome State Fault Refusal :=
  .next (whenDue (timerDue (s.supervisor.grace.get z)) (graceWork z) s)

/-- SUPERVISION_INTERVAL (R180). -/
def execSupervisionInterval (s : State) : Host.Outcome State Fault Refusal :=
  .next (whenDue (timerDue s.supervisor.interval) intervalWork s)

end Sys2Proof.Machine
end

