-- ==== Sys2Proof/Machine/Reads.lean ====
section
/-! DEFINITION. The replies of the read orders, as data octets (R190 to R195). -/

namespace Sys2Proof.Machine

/-! ### Codes of named values (R190) -/

/-- Line state codes. -/
def LineState.code : LineState → Nat
  | .cold => 0 | .purge => 1 | .heatup => 2 | .ready => 3 | .run => 4 | .brk => 5 | .cooldown => 6 | .lockout => 7

/-- Press mode codes, NONE all ones. -/
def PressMode.code : PressMode → Nat
  | .stopped => 0 | .crawl => 1 | .print => 2 | .splice => 3 | .none => 0xFF

/-- Tracker state codes. -/
def TrackerState.code : TrackerState → Nat
  | .noSpeed => 0 | .acquiring => 1 | .locked => 2 | .stale => 3 | .lost => 4

/-- Commit status codes. -/
def CommitStatus.code : CommitStatus → Nat
  | .none => 0 | .pending => 1 | .done => 2 | .withdrawn => 3

/-- Plan origin codes. -/
def Origin.code : Origin → Nat
  | .asked => 0 | .crossing => 1 | .commit => 2 | .resume => 3

/-- Plan ordering codes. -/
def Ordering3.code : Ordering3 → Nat
  | .raise => 0 | .lower => 1 | .adjust => 2

/-- Context cause codes. -/
def Cause.code : Cause → Nat
  | .splice => 1 | .speedLost => 2 | .lelRelief => 3 | .masterLost => 4 | .brk => 5

/-- Codes of a reading's quality in a record. -/
def Quality.code : Quality → Nat
  | .good => 0 | .failed => 2 | .none => 0xFF

/-- Codes of a confirmed level state, 3 where the role is not mapped. -/
def confirmedCode : Option Confirmed → Nat
  | some .unknown => 0 | some .inactive => 1 | some .active => 2 | none => 3

/-- Band status codes. -/
def Band.code : Band → Nat
  | .inBand => 0 | .low => 1 | .high => 2

/-- Ignition state codes. -/
def Ignition.code : Ignition → Nat
  | .off => 0 | .igniting => 1 | .proven => 2 | .failed => 3

/-- Role codes. -/
def Role.code : Role → Nat
  | .none => 0 | .zoneAir _ => 1 | .lel _ => 2 | .chillWeb _ => 3 | .speed => 4 | .position => 5 | .flame _ => 6
  | .airflow _ => 7 | .brk _ => 8 | .forward => 9 | .burner _ => 10 | .fan _ => 11 | .exhaust => 12 | .chillValve _ => 13

/-- A role's index, 0 where it has none (R193). -/
def Role.index : Role → Nat
  | .zoneAir z | .lel z | .flame z | .airflow z | .burner z | .fan z => zoneNumber z
  | .chillWeb c | .chillValve c => circuitNumber c
  | .brk d => detectorNumber d
  | .none | .speed | .position | .forward | .exhaust => 0

/-! ### Replies -/

/-- A timer in whole seconds, rounded up, or stopped (R73, R191). -/
def secondsField (t : Timer) : List Byte := optField2 (t.map fun ms => (((ms + 999) / 1000 : Nat) : Int))

/-- The code of the entry a FAULT_TAKE would take, 0 for none (R185, R191). -/
def nextFault (f : Faults) : Option FaultCode :=
  FaultCode.all.find? fun e => f.pending &&& e.bit != 0 && f.taken &&& e.bit == 0

/-- READ_STATUS's four plan octets (R191). -/
def planStatus : Option Plan → List Byte
  | none => [0xFF, 0xFF, 0xFF, 0xFF]
  | some p => field1 p.origin.code ++ field1 p.ordering.code ++ flagField p.frozen ++ field1 p.head

/-- READ_STATUS's data after the status octet (R191). -/
def statusData (s : State) : List Byte :=
  field1 s.line.state.code ++ field1 s.line.mode.code ++
    [maskOctet [s.supervisor.permit, s.faults.out, s.link.ringSilent, s.line.settle.isSome, s.planner.plan.isSome]] ++
    secondsField s.line.purge ++ field1 s.tracker.state.code ++ field2 s.tracker.speed ++ field2 s.planner.ceiling ++
    optField1 s.planner.grantRow ++ field1 s.planner.target ++ planStatus s.planner.plan ++ field1 s.stack.length ++
    field1 ((s.stack.head?.map fun r => r.cause.code).getD 0) ++ field1 s.store.status.code ++
    [maskOctet ((Zone.all.map s.present) ++ (Circuit.all.map s.circuitPresent))] ++ [s.holds] ++
    field1 s.transit.length ++ field2 s.planner.inForce.chill.c1 ++ field2 s.planner.inForce.chill.c2 ++
    field1 (((nextFault s.faults).map FaultCode.code).getD 0) ++ [addrOctet s.link.own] ++
    field1 s.params.managerAddress

/-- Reading, quality and age of a sensor record (R190). -/
def sensorData (f : Config.TenthsField) (r : Sensor) : List Byte :=
  optField2 r.reading ++ field1 r.quality.code ++ tenthsField f r.age

/-- READ_ZONE's data after the status (R136, R194). -/
def zoneData (z : Zone) (s : State) : List Byte :=
  let r := s.zones.get z
  field1 (zoneNumber z) ++ flagField (s.present z) ++ sensorData .airAge r.air ++ sensorData .lelAge r.lel ++
    field2 r.current ++ field2 r.target ++ field1 r.ramp.toNat ++ field2 r.feedforward ++ field2 r.trim ++
    field2 r.burner ++ field1 r.band.code ++ field2 (heldTenths r.inBandTime) ++ field1 r.ignition.code ++
    tenthsField .ignition r.ignitionTimer ++ field1 (confirmedCode (s.confirmedOf (.flame z))) ++
    field1 (confirmedCode (s.confirmedOf (.airflow z)))

/-- READ_CHILL's data after the status (R149, R194). -/
def chillData (c : Circuit) (s : State) : List Byte :=
  let r := s.circuits.get c
  field1 (circuitNumber c) ++ flagField (s.circuitPresent c) ++ sensorData .webAge r.web ++ field2 r.setpoint ++
    field2 r.valve ++ field1 r.band.code

/-- One transit entry (R194). -/
def transitEntryData (e : TransitEntry) : List Byte :=
  field2 e.remaining ++ field1 (e.row % 16 + match e.circuit with | .c1 => 0 | .c2 => 16) ++ field2 e.setpoint

/-- READ_TRANSIT's data after the status (R149, R194). -/
def transitData (s : State) : List Byte := field1 s.transit.length ++ (s.transit.map transitEntryData).flatten

/-- A request's speed and tag, all ones for none (R190). -/
def requestData (q : Option Request) : List Byte :=
  optField2 (q.map Request.speed) ++ (match q with | some r => [r.tag] | none => [0xFF])

/-- One context record (R194). -/
def contextData (r : Context) : List Byte :=
  field1 r.cause.code ++ flagField r.cleared ++ field2 r.ceiling ++ field1 r.grantRow ++ field1 r.target ++
    requestData r.request ++ flagField (!r.planFrozen)

/-- READ_STACK's data after the status (R167, R194). -/
def stackData (s : State) : List Byte := field1 s.stack.length ++ (s.stack.map contextData).flatten

/-- A step's kind, subject, and three values (R194); a value the kind lacks is absent, all ones (R190, log 30). -/
def stepKindData (k : StepKind) (done : Bool) : List Byte :=
  match k with
  | .setExhaust v => field1 0 ++ field1 0 ++ flagField done ++ field2 v ++ optField2 none ++ optField1 none
  | .setFan z v => field1 1 ++ field1 (zoneNumber z) ++ flagField done ++ field2 v ++ optField2 none ++ optField1 none
  | .setZone z a f r =>
    field1 2 ++ field1 (zoneNumber z) ++ flagField done ++ field2 a ++ field2 f ++ field1 r.toNat
  | .queueChill c sp row => field1 3 ++ field1 (circuitNumber c) ++ flagField done ++ field2 sp ++ field2 row ++ optField1 none
  | .grant v row => field1 4 ++ field1 0 ++ flagField done ++ field2 v ++ field2 row ++ optField1 none

/-- A trigger, its speed and its time in tenths (R194); a speed the trigger lacks is absent, all ones. -/
def triggerData : Trigger → List Byte
  | .after d => field1 0 ++ optField2 none ++ field2 d
  | .whenReady soak => field1 1 ++ optField2 none ++ field2 soak
  | .whenSlowed v d => field1 2 ++ field2 v ++ field2 d

/-- One step record, 13 octets (R194). -/
def stepData (t : PlanStep) : List Byte := stepKindData t.kind t.done ++ triggerData t.trigger

/-- Step records in one READ_PLAN reply at most: two of 13 octets after the header, within 48 octets (R194). -/
def stepsCarried : Nat := 2

/-- READ_PLAN's data after the status (R121, R194). -/
def planData (first : Nat) (s : State) : List Byte :=
  match s.planner.plan with
  | none => [0xFF]
  | some p =>
    let steps := (p.steps.drop first).take stepsCarried
    field1 p.origin.code ++ field1 p.ordering.code ++ flagField p.frozen ++ requestData p.request ++ field1 p.target ++
      field1 p.steps.length ++ field1 p.head ++ tenthsField .headTimer (some p.headTimer) ++
      tenthsField .triggerClock p.clock ++ field1 steps.length ++ (steps.map stepData).flatten

/-- The level fields of READ_MAP, all ones without a level record (R193). -/
def levelData : Option LevelRec → List Byte
  | none => [0xFF, 0xFF, 0xFF, 0xFF]
  | some r =>
    (match r.raw with | some b => flagField b | none => [0xFF]) ++ field1 (confirmedCode (some r.confirmed)) ++
      optField2 (r.timer.map fun t => (t : Int))

/-- The drive fields of READ_MAP, all ones without a drive record (R193). -/
def driveData : Option DriveRec → List Byte
  | none => [0xFF, 0xFF, 0xFF, 0xFF, 0xFF, 0xFF, 0xFF]
  | some d => field2 d.computed ++ field2 d.sent ++ flagField d.held.isSome ++ optField2 d.held

/-- The forward set of READ_MAP in three places (R193). -/
def forwardData (l : List Nat) : List Byte := field1 l.length ++ ((l.map some ++ [none, none, none]).take 3).flatMap optField1

/-- READ_MAP's data after the status (R193). -/
def mapData (ch : Nat) (e : Entry) : List Byte :=
  field1 ch ++ field1 e.role.code ++ field1 e.role.index ++ field1 e.holdGroup ++ flagField e.activeHigh ++
    field1 e.confirmTime ++ forwardData e.forward ++ levelData e.level ++ driveData e.drive

/-- The zones a row names, in ascending order. -/
def Row.zoneFields (r : Row) : List ZoneRow := Zone.all.filterMap fun z => r.zones.get z

/-- A row block (R192). -/
def rowBlock (r : Row) : List Byte :=
  field2 r.low ++ field2 r.high ++ [maskOctet (Zone.all.map r.uses)] ++ field2 r.exhaust ++ field2 r.chill.c1 ++
    field2 r.chill.c2 ++ field1 r.ramp ++ field1 r.soak ++ field1 r.lead ++
    (r.zoneFields.map fun x => field2 x.air ++ field2 x.feedforward ++ field2 x.fan).flatten

/-- READ_ROW's data after the status (R59, R192). -/
def rowData (t : List Row) (status : CommitStatus) (k : Nat) : List Byte :=
  field1 t.length ++ field1 status.code ++
    match t[k]? with
    | some r => [1] ++ rowBlock r
    | none => [0]

/-- A mask of sixteen, low octet first. -/
def maskData (m : Half) : List Byte := [lowOctet m, highOctet m]

/-- READ_FAULTS's data after the status (R185, R194). -/
def faultsData (s : State) : List Byte :=
  maskData s.faults.pending ++ maskData s.faults.taken ++ maskData s.faults.enable ++ maskData s.conditionMask

/-- READ_COUNTS's data after the status: the fourteen counters in R19's order (R194). -/
def countsData (s : State) : List Byte :=
  [s.link.wrap.rxGood, s.link.wrap.txThrough, s.link.wrap.rxConsumed, s.link.wrap.rxStripped, s.link.wrap.throughDrop,
    s.link.wrap.txInserted, s.sat.rxCheckErr, s.sat.insertLoss, s.sat.orderDrop, s.sat.beatSkip, s.sat.kindMismatch,
    s.sat.positionReject, s.sat.stackLoss, s.sat.transitForced]

/-! ### Parameters (R195) -/

/-- A parameter's value by id; 0 outside 1 to 30, where no order reads it. -/
def Params.get (p : Params) (id : Nat) : Nat :=
  match id with
  | 1 => p.purgeTime | 2 => p.crawlSpeed | 3 => p.breakBurner | 4 => p.breakFan | 5 => p.breakValve | 6 => p.coolFan
  | 7 => p.minFire | 8 => p.bandWidth | 9 => p.deadband | 10 => p.trimStep | 11 => p.trimLimit | 12 => p.settleTime
  | 13 => p.ignitionTime | 14 => p.flameGrace | 15 => p.readyTimeout | 16 => p.airBeforeHeat | 17 => p.exhaustLag
  | 18 => p.lelWarn | 19 => p.lelTrip | 20 => p.lelHyst | 21 => p.lelClearTime | 22 => p.reliefPercent
  | 23 => p.overTemp | 24 => p.coolLimit | 25 => p.sensorStale | 26 => p.chillMinValve | 27 => p.pathLength
  | 28 => p.supervisionCount | 29 => p.managerAddress | 30 => p.retain | _ => 0

/-- The parameters with one of them replaced. -/
def Params.set (p : Params) (id v : Nat) : Params :=
  match id with
  | 1 => { p with purgeTime := v } | 2 => { p with crawlSpeed := v } | 3 => { p with breakBurner := v }
  | 4 => { p with breakFan := v } | 5 => { p with breakValve := v } | 6 => { p with coolFan := v }
  | 7 => { p with minFire := v } | 8 => { p with bandWidth := v } | 9 => { p with deadband := v }
  | 10 => { p with trimStep := v } | 11 => { p with trimLimit := v } | 12 => { p with settleTime := v }
  | 13 => { p with ignitionTime := v } | 14 => { p with flameGrace := v } | 15 => { p with readyTimeout := v }
  | 16 => { p with airBeforeHeat := v } | 17 => { p with exhaustLag := v } | 18 => { p with lelWarn := v }
  | 19 => { p with lelTrip := v } | 20 => { p with lelHyst := v } | 21 => { p with lelClearTime := v }
  | 22 => { p with reliefPercent := v } | 23 => { p with overTemp := v } | 24 => { p with coolLimit := v }
  | 25 => { p with sensorStale := v } | 26 => { p with chillMinValve := v } | 27 => { p with pathLength := v }
  | 28 => { p with supervisionCount := v } | 29 => { p with managerAddress := v } | 30 => { p with retain := v }
  | _ => p

/-- A parameter's range; none for an id outside 1 to 30. -/
def paramRange (id : Nat) : Option (Nat × Nat) :=
  match id with
  | 1 => some (30, 900) | 2 => some (0, 80) | 3 => some (0, 400) | 4 => some (0, 1000) | 5 => some (0, 1000)
  | 6 => some (0, 1000) | 7 => some (0, 300) | 8 => some (10, 300) | 9 => some (0, 100) | 10 => some (1, 50)
  | 11 => some (0, 500) | 12 => some (1, 120) | 13 => some (2, 30) | 14 => some (0, 3000) | 15 => some (10, 900)
  | 16 => some (0, 30) | 17 => some (0, 60) | 18 => some (50, 400) | 19 => some (100, 600) | 20 => some (10, 100)
  | 21 => some (0, 120) | 22 => some (10, 100) | 23 => some (1000, 4500) | 24 => some (300, 1500) | 25 => some (1, 10)
  | 26 => some (0, 500) | 27 => some (50, 3000) | 28 => some (2, 255) | 29 => some (0, 62) | 30 => some (0, 1)
  | _ => none

/-- A parameter id and value, as READ_PARAM and WRITE_PARAM reply them (R195). A value exceeds 255 in some parameters, so
the field takes two octets for every id. -/
def paramData (p : Params) (id : Nat) : List Byte := field1 id ++ field2 (p.get id)

end Sys2Proof.Machine
end

