-- ==== Sys2Proof/Machine/Writes.lean ====
section
/-! DEFINITION. The bodies of the write orders: what each checks, its effect and its reply data (R24 to R26, R32, R39,
R58, R64, R65, R76 to R94, R148, R184, R185, R189, R195, R20). -/

namespace Sys2Proof.Machine

/-- What an order leaves: the state, and the data of its REPLY with the status first. -/
structure Answer where
  state : State
  data : List Byte

/-- An order refused or answered with a status alone. -/
def Answer.status (st : Status) (s : State) : Answer := { state := s, data := [st.octet] }

/-- An order answered DONE with data. -/
def Answer.done (data : List Byte) (s : State) : Answer := { state := s, data := Status.done.octet :: data }

/-! ### WRITE_MAP (R24, R193) -/

/-- A role from its code and index; a role without an index carries index 0 (R190, R193). -/
def roleOf (code index : Nat) : Option Role :=
  match code with
  | 0 => if index = 0 then some .none else none
  | 1 => (zoneOf index).map .zoneAir
  | 2 => (zoneOf index).map .lel
  | 3 => (circuitOf index).map .chillWeb
  | 4 => if index = 0 then some .speed else none
  | 5 => if index = 0 then some .position else none
  | 6 => (zoneOf index).map .flame
  | 7 => (zoneOf index).map .airflow
  | 8 => (detectorOf index).map .brk
  | 9 => if index = 0 then some .forward else none
  | 10 => (zoneOf index).map .burner
  | 11 => (zoneOf index).map .fan
  | 12 => if index = 0 then some .exhaust else none
  | 13 => (circuitOf index).map .chillValve
  | _ => none

/-- The five fields a WRITE_MAP gives an entry (R24). -/
structure MapFields where
  role : Role
  holdGroup : Nat
  activeHigh : Bool
  confirmTime : Nat
  forward : List Nat
deriving DecidableEq, Repr

/-- A forward set in range: at most 3 channel IDs, none twice, none the entry's own (R24). -/
def forwardFits (ch : Nat) (l : List Nat) : Bool :=
  decide (l.length ≤ 3) && l.all (fun c => decide (c < Config.channelCount) && c != ch) && decide l.Nodup

/-- The fields read from a WRITE_MAP's octets after the channel; none for BAD_ARGUMENT (R193, R24 case 1). -/
def mapFields (ch : Nat) : List Byte → Option MapFields
  | role :: index :: hold :: active :: time :: count :: ids =>
    match roleOf role.toNat index.toNat with
    | none => none
    | some r =>
      let forward := ids.map BitVec.toNat
      if ids.length = count.toNat ∧ hold.toNat ≤ 8 ∧ active.toNat ≤ 1 ∧ forwardFits ch forward = true then
        some { role := r, holdGroup := hold.toNat, activeHigh := active == 1, confirmTime := time.toNat, forward := forward }
      else none
  | _ => none

/-- A whole WRITE_MAP read; none for BAD_ARGUMENT. -/
def parseMap : List Byte → Option (Nat × MapFields)
  | ch :: rest =>
    if ch.toNat < Config.channelCount then (mapFields ch.toNat rest).map fun f => (ch.toNat, f) else none
  | [] => none

/-- The level record of a role when it is written (R25). -/
def freshLevel (r : Role) : Option LevelRec :=
  if r.roleClass = .level then some { raw := none, confirmed := .unknown, timer := none } else none

/-- The drive record of a role when it is written, before its computed demand takes its source's value (R34). -/
def freshDrive (r : Role) : Option DriveRec :=
  if r.roleClass = .drive then some { computed := 0, sent := 0, held := none, refresh := Config.refreshMs, owed := false }
  else none

/-- An entry with its runtime records as a write of its role, or a SOFT_RESET that keeps it, makes them (R25, R42). -/
def Entry.renewed (e : Entry) : Entry := { e with level := freshLevel e.role, drive := freshDrive e.role }

/-- A level record under a new active level (R32). -/
def LevelRec.rederived (activeHigh : Bool) (r : LevelRec) : LevelRec :=
  match r.raw with
  | none => { r with timer := none }
  | some lvl => { r with confirmed := pointsTo activeHigh lvl, timer := none }

/-- An entry after a taken WRITE_MAP (R24 to R26, R32). -/
def Entry.written (f : MapFields) (e : Entry) : Entry :=
  let e' := { e with
    role := f.role, holdGroup := f.holdGroup, activeHigh := f.activeHigh, confirmTime := f.confirmTime,
    forward := f.forward }
  if f.role ≠ e.role then e'.renewed
  else if f.activeHigh ≠ e.activeHigh then { e' with level := e.level.map (LevelRec.rederived f.activeHigh) }
  else e'

/-- What a block forgets when a sample role is written to a channel or taken from one (R52, R125, R139). -/
def forgetRole (r : Role) (s : State) : State :=
  match r with
  | .zoneAir z => s.withZone z { s.zones.get z with air := .init }
  | .lel z => s.withZone z { s.zones.get z with lel := .init }
  | .chillWeb c => s.withCircuit c { s.circuits.get c with web := .init }
  | .speed => s.withTracker { Tracker.init with lastPosition := s.tracker.lastPosition }
  | .position => s.withTracker { s.tracker with lastPosition := none }
  | _ => s

/-- The supervisor on a re-derived FLAME or AIRFLOW channel: the confirmed transition it matches (R175, log 28). -/
def superviseRederived (old new : Entry) (s : State) : State :=
  match old.level, new.level with
  | some a, some b =>
    match transitionOf a.confirmed b.confirmed with
    | some active => superviseLevel new.role active s
    | none => s
  | _, _ => s

/-- The effect of a taken WRITE_MAP, the purge test last (R24, R52, R79, R125, R175). -/
def writeMapTaken (ch : Nat) (f : MapFields) (e : Entry) (s : State) : State :=
  let e' := e.written f
  let s := s.withEntry ch e'
  purgeTested (if f.role ≠ e.role then forgetRole f.role (forgetRole e.role s) else superviseRederived e e' s)

/-- Another channel holds a role that only one may hold (R22, R24). -/
def roleTaken (ch : Nat) (r : Role) (s : State) : Bool :=
  r != .none && r != .forward && (match s.roleChannel r with | some (c, _) => c != ch | none => false)

/-- WRITE_MAP (R24). -/
def writeMapBody (data : List Byte) (s : State) : Answer :=
  match parseMap data with
  | none => .status .badArgument s
  | some (ch, f) =>
    match s.entry ch with
    | none => .status .badArgument s
    | some e =>
      if f.role ≠ e.role ∧ s.line.state ≠ .cold ∧ s.line.state ≠ .lockout then .status .refusedState s
      else if roleTaken ch f.role s then .status .badArgument s
      else .status .done (writeMapTaken ch f e s)

/-! ### WRITE_ROW, COMMIT, WITHDRAW (R58, R64, R65, R192) -/

/-- A signed field of two octets from a place on. -/
def fieldAt (b : List Byte) (i : Nat) : Int := (halfOf (octetAt b i) (octetAt b (i + 1))).toInt

/-- The zones a mask octet names, in ascending order. -/
def maskZones (m : Byte) : List Zone := Zone.all.filter fun z => m.getLsbD (zoneNumber z - 1)

/-- The fields of the zones named, six octets each from place `i` on. -/
def zoneRowsAt (b : List Byte) : Nat → List Zone → PerZone (Option ZoneRow)
  | _, [] => .const none
  | i, z :: zs =>
    (zoneRowsAt b (i + 6) zs).set z
      (some { air := fieldAt b i, feedforward := fieldAt b (i + 2), fan := fieldAt b (i + 4) })

/-- A row block read; none where the mask names more than zones 1 to 4 or the length is not the mask's (R58, R192). -/
def parseRow (b : List Byte) : Option Row :=
  let m := octetAt b 4
  let zones := maskZones m
  if m.toNat ≤ 15 ∧ b.length = 14 + 6 * zones.length then
    some
      { low := fieldAt b 0, high := fieldAt b 2, exhaust := fieldAt b 5, chill := ⟨fieldAt b 7, fieldAt b 9⟩,
        ramp := (octetAt b 11).toNat, soak := (octetAt b 12).toNat, lead := (octetAt b 13).toNat,
        zones := zoneRowsAt b 14 zones }
  else none

/-- A pending commit withdrawn; any other status stands (R58, R64, R65). -/
def Store.withdrawn (t : Store) : Store := if t.status = .pending then { t with status := .withdrawn } else t

/-- The shadow copy written, which withdraws a pending commit (R58). -/
def writeShadow (rows : List Row) (s : State) : State := s.withStore { s.store with shadow := rows }.withdrawn

/-- WRITE_ROW (R58). -/
def writeRowBody (data : List Byte) (s : State) : Answer :=
  match data with
  | [] => .status .badArgument s
  | i :: block =>
    let k := i.toNat
    if Config.tableCapacity ≤ k then .status .badArgument s
    else if block = [] then .status .done (writeShadow (s.store.shadow.take k) s)
    else
      match parseRow block with
      | none => .status .badArgument s
      | some r =>
        if k < s.store.shadow.length then .status .done (writeShadow (s.store.shadow.set k r) s)
        else if k = s.store.shadow.length then .status .done (writeShadow (s.store.shadow ++ [r]) s)
        else .status .badArgument s

/-- A COMMIT reply: the status, a row index and a reason code (R188). -/
def commitReply (st : Status) (row code : Nat) : List Byte := [st.octet] ++ field1 row ++ field1 code

/-- COMMIT (R64); the safe-point test is made at the end of the event. -/
def commitBody (s : State) : Answer :=
  match commitFault s with
  | some (row, f) => { state := s.withStore s.store.withdrawn, data := commitReply .badTable row f.code }
  | none => { state := s.withStore { s.store with status := .pending }, data := commitReply .pending 0 0 }

/-- WITHDRAW (R65). -/
def withdrawBody (s : State) : Answer := .status .done (s.withStore s.store.withdrawn)

/-! ### WRITE_PARAM (R195) -/

/-- Row 0's band high bounds CRAWL_SPEED where the copy has a row 0 (R70). -/
def crawlFits (v : Nat) (t : List Row) : Bool := match t with | r :: _ => decide ((v : Int) ≤ r.high) | [] => true

/-- The cross-conditions of R195. -/
def paramFits (id v : Nat) (s : State) : Bool :=
  match id with
  | 2 => crawlFits v s.store.active && (s.store.status != .pending || crawlFits v s.store.shadow)
  | 18 => decide (v + 50 ≤ s.params.lelTrip)
  | 19 => decide (s.params.lelWarn + 50 ≤ v)
  | 29 => v != s.link.own.toNat
  | _ => true

/-- The parameters replaced. -/
def setParams (p : Params) (s : State) : State := s.withAgent { s.agent with params := p }

/-- A present zone's burner demand taken afresh (R130). -/
def refreshBurner (z : Zone) (s : State) : State :=
  ifPresent (fun z s => s.withZone z ((s.zones.get z).withBurner s.loopParams s.line.state)) z s

/-- A present circuit's valve demand takes BREAK_VALVE (R141). -/
def refreshValve (c : Circuit) (s : State) : State :=
  if s.circuitPresent c then s.withCircuit c { s.circuits.get c with valve := s.params.breakValve } else s

/-- What a taken write of a parameter does at once beside the value, by the rules that read it (R120, R130, R141, R172,
R176); the drive stage follows the demands that parameters give at the end of the event. -/
def paramEffect (id v : Nat) (s : State) : State :=
  match id with
  | 2 => if s.line.state = .ready then boundCeiling v s else s
  | 3 => if s.line.state = .brk then forZones refreshBurner s else s
  | 5 => if s.line.state = .brk ∨ s.line.state = .lockout then forCircuits refreshValve s else s
  | 18 => forZones (ifPresent judgeWarn) s
  | 19 => forZones (ifPresent judgeTrip) s
  | 23 => forZones (ifPresent judgeHot) s
  | _ => s

/-- What a write of MIN_FIRE leaves acting until the next control period: in HEATUP, READY and RUN the value that acts now (R130),
and elsewhere nothing (log 33). -/
def keepMinFire (id : Nat) (s : State) : State :=
  if id = 7 then
    s.withLine { s.line with priorMinFire := if s.line.state.controlled then some s.loopParams.minFire else none }
  else s

/-- A taken WRITE_PARAM; one of the value already held changes nothing (R195, log 29). -/
def writeParamTaken (id v : Nat) (s : State) : State :=
  if s.params.get id = v then s else paramEffect id v (setParams (s.params.set id v) (keepMinFire id s))

/-- WRITE_PARAM (R195). -/
def writeParamBody (data : List Byte) (s : State) : Answer :=
  match data with
  | [i, lo, hi] =>
    let id := i.toNat
    let v := (halfOf lo hi).toNat
    match paramRange id with
    | none => .status .badArgument s
    | some (least, most) =>
      if v < least ∨ most < v ∨ paramFits id v s = false then .status .badArgument s
      else if id = 27 ∧ s.line.state ≠ .cold then .status .refusedState s
      else
        let s := writeParamTaken id v s
        .done (paramData s.params id) s
  | _ => .status .badArgument s

/-! ### LINE (R76, R77, R86, R92, R94) -/

/-- A LINE reply: the status, a reason code and a reason index (R76). -/
def lineAnswer (st : Status) (code index : Nat) (s : State) : Answer :=
  { state := s, data := [st.octet] ++ field1 code ++ field1 index }

/-- A LINE command refused for the line state, or taken (R76). -/
def linePlain (st : Status) (s : State) : Answer := lineAnswer st 0 0 s

/-- The reasons of a refused START (R77). -/
inductive StartFault
  | partialZone (z : Zone) | partialChill (c : Circuit) | noExhaust | noSpeed | noPosition | noZone
  | noTable | tableMask (z : Zone) | tripPresent
deriving DecidableEq, Repr

/-- A reason's code (R77). -/
def StartFault.code : StartFault → Nat
  | .partialZone _ => 1 | .partialChill _ => 2 | .noExhaust => 3 | .noSpeed => 4 | .noPosition => 5 | .noZone => 6
  | .noTable => 7 | .tableMask _ => 8 | .tripPresent => 9

/-- A reason's index (R77). -/
def StartFault.index : StartFault → Nat
  | .partialZone z | .tableMask z => zoneNumber z
  | .partialChill c => circuitNumber c
  | .noExhaust | .noSpeed | .noPosition | .noZone | .noTable | .tripPresent => 0

/-- A reason's reply status (R77). -/
def StartFault.status : StartFault → Status
  | .tripPresent => .refusedState
  | .noTable | .tableMask _ => .badTable
  | .partialZone _ | .partialChill _ | .noExhaust | .noSpeed | .noPosition | .noZone => .badArgument

/-- A role is held by some channel. -/
def State.mapped (s : State) (r : Role) : Bool := (s.roleChannel r).isSome

/-- The six roles of a zone (R27). -/
def zoneRoles (z : Zone) : List Role := [.zoneAir z, .lel z, .burner z, .fan z, .flame z, .airflow z]

/-- The two roles of a circuit (R27). -/
def circuitRoles (c : Circuit) : List Role := [.chillWeb c, .chillValve c]

/-- Every one of the roles is mapped (R27). -/
def State.complete (s : State) (l : List Role) : Bool := l.all s.mapped

/-- Some but not all of the roles are mapped (R27). -/
def State.incomplete (s : State) (l : List Role) : Bool := l.any s.mapped && !s.complete l

/-- The map check of START (R27). -/
def mapFault (s : State) : Option StartFault :=
  match Zone.all.find? fun z => s.incomplete (zoneRoles z) with
  | some z => some (.partialZone z)
  | none =>
    match Circuit.all.find? fun c => s.incomplete (circuitRoles c) with
    | some c => some (.partialChill c)
    | none =>
      if !s.mapped .exhaust then some .noExhaust
      else if !s.mapped .speed then some .noSpeed
      else if !s.mapped .position then some .noPosition
      else if Zone.all.any fun z => s.complete (zoneRoles z) then none
      else some .noZone

/-- The table check of START against the complete zones (R71). -/
def startTableFault (s : State) : Option StartFault :=
  match s.store.active with
  | [] => some .noTable
  | r :: _ => (Zone.all.find? fun z => s.complete (zoneRoles z) && !r.uses z).map .tableMask

/-- The first of START's checks that fails (R77). -/
def startFault (s : State) : Option StartFault :=
  if s.tripCondition then some .tripPresent
  else match mapFault s with
    | some f => some f
    | none => startTableFault s

/-- The presence set fixed (R27); a zone or circuit that is not in it has its record as after reset but for its readings,
and its flags clear (R123, R138, R169, log 25). -/
def fixPresence (s : State) : State :=
  let zones : PerZone Bool := (PerZone.const ()).map fun z _ => s.complete (zoneRoles z)
  let circuits : PerCircuit Bool := (PerCircuit.const ()).map fun c _ => s.complete (circuitRoles c)
  let s := s.withLine { s.line with zonesPresent := zones, circuitsPresent := circuits }
  let s := s.withZones (s.zones.map fun z r => if zones.get z then r else r.idle)
  let s := s.withCircuits (s.circuits.map fun c r => if circuits.get c then r else r.idle)
  s.withSupervisor
    { s.supervisor with
      flags := s.supervisor.flags.map fun z f => if zones.get z then f else ⟨false, false, false⟩ }

/-- START (R77). -/
def startBody (s : State) : Answer :=
  if s.line.state = .cold ∨ s.line.state = .cooldown then
    match startFault s with
    | some f => lineAnswer f.status f.code f.index s
    | none => linePlain .done (enterPurge (fixPresence s))
  else linePlain .refusedState s

/-- The states in which STOP is taken (R86). -/
def LineState.stops : LineState → Bool
  | .purge | .heatup | .ready | .brk => true
  | .cold | .run | .cooldown | .lockout => false

/-- STOP (R86). -/
def stopBody (s : State) : Answer :=
  if s.line.state.stops then linePlain .done (enterCooldown s) else linePlain .refusedState s

/-- Every mapped BREAK channel is confirmed INACTIVE (R92). -/
def breaksInactive (s : State) : Bool := s.channels.all Entry.breakInactive

/-- RESTART (R92). -/
def restartBody (s : State) : Answer :=
  if s.line.state = .brk ∧ breaksInactive s = true then linePlain .done (enterHeatup (emptyStack s))
  else linePlain .refusedState s

/-- CLEAR_LOCKOUT (R94). -/
def clearLockoutBody (s : State) : Answer :=
  if s.line.state = .lockout ∧ s.tripCondition = false then linePlain .done (enterCold s)
  else linePlain .refusedState s

/-- LINE (R76). -/
def lineBody (data : List Byte) (s : State) : Answer :=
  match data.map BitVec.toNat with
  | [1] => startBody s
  | [2] => stopBody s
  | [3] => restartBody s
  | [4] => clearLockoutBody s
  | _ => linePlain .badArgument s

/-! ### SET_HOLD, SET_FAULT_ENABLE, FAULT_TAKE, READ_COUNTS (R39, R184, R185, R20) -/

/-- SET_HOLD (R39); holds begin and end at the end of the event. -/
def setHoldBody (data : List Byte) (s : State) : Answer :=
  match data with
  | [m] => .status .done (s.withHolds m)
  | _ => .status .badArgument s

/-- SET_FAULT_ENABLE (R184). -/
def setFaultEnableBody (data : List Byte) (s : State) : Answer :=
  match data with
  | [lo, hi] => .status .done (s.withFaults ({ s.faults with enable := halfOf lo hi } : Faults).driven)
  | _ => .status .badArgument s

/-- FAULT_TAKE (R185). That the still-pending octet beside code 0, where no entry is taken, is 0 is the model's choice (log 34). -/
def faultTakeBody (s : State) : Answer :=
  match nextFault s.faults with
  | none => .done (field1 0 ++ flagField false) s
  | some e =>
    let s := sweepFaults (s.withFaults { s.faults with taken := s.faults.taken ||| e.bit })
    .done (field1 e.code ++ flagField (s.faults.pending &&& e.bit != 0)) s

/-- READ_COUNTS (R20). -/
def readCountsBody (s : State) : Answer := .done (countsData s) (s.withSat ⟨0, 0, 0, 0, 0, 0, 0, 0⟩)

/-- SOFT_RESET taken in COLD and LOCKOUT (R196). -/
def softResetBody (s : State) : Answer :=
  if s.line.state = .cold ∨ s.line.state = .lockout then .status .done s else .status .refusedState s

end Sys2Proof.Machine
end

