-- ==== Sys2Proof/Machine/Orders.lean ====
section
/-! DEFINITION. The management agent: taking an ORDER through the reply slot (R187 to R189), the read orders' bodies, the
REPLY's insertion, and the SOFT_RESET taking effect (R196, R197). -/

namespace Sys2Proof.Machine

/-! ### Read orders (R136, R149, R121, R167, R193, R59, R195, R185, R191) -/

/-- A read order without arguments. -/
def readPlain (reply : State → List Byte) (data : List Byte) (s : State) : Answer :=
  match data with
  | [] => .done (reply s) s
  | _ => .status .badArgument s

/-- An order without arguments. -/
def withoutData (body : State → Answer) (data : List Byte) (s : State) : Answer :=
  match data with
  | [] => body s
  | _ => .status .badArgument s

/-- READ_ZONE (R136). -/
def readZoneBody (data : List Byte) (s : State) : Answer :=
  match data with
  | [b] => match zoneOf b.toNat with
    | some z => .done (zoneData z s) s
    | none => .status .badArgument s
  | _ => .status .badArgument s

/-- READ_CHILL (R149). -/
def readChillBody (data : List Byte) (s : State) : Answer :=
  match data with
  | [b] => match circuitOf b.toNat with
    | some c => .done (chillData c s) s
    | none => .status .badArgument s
  | _ => .status .badArgument s

/-- READ_PLAN (R121). -/
def readPlanBody (data : List Byte) (s : State) : Answer :=
  match data with
  | [b] => if b.toNat ≤ 15 then .done (planData b.toNat s) s else .status .badArgument s
  | _ => .status .badArgument s

/-- READ_MAP (R193). -/
def readMapBody (data : List Byte) (s : State) : Answer :=
  match data with
  | [b] => match s.entry b.toNat with
    | some e => .done (mapData b.toNat e) s
    | none => .status .badArgument s
  | _ => .status .badArgument s

/-- READ_ROW (R59). -/
def readRowBody (data : List Byte) (s : State) : Answer :=
  match data with
  | [c, i] =>
    if 1 < c.toNat ∨ Config.tableCapacity ≤ i.toNat then .status .badArgument s
    else .done (rowData (if c.toNat = 0 then s.store.active else s.store.shadow) s.store.status i.toNat) s
  | _ => .status .badArgument s

/-- READ_PARAM (R195). -/
def readParamBody (data : List Byte) (s : State) : Answer :=
  match data with
  | [i] => if (paramRange i.toNat).isSome then .done (paramData s.params i.toNat) s else .status .badArgument s
  | _ => .status .badArgument s

/-! ### Deciding an ORDER (R188) -/

/-- The body of a known order code (chapter 11's table of orders). -/
def orderBody (code : Nat) (data : List Byte) (s : State) : Answer :=
  match code with
  | 0x01 => readPlain statusData data s
  | 0x02 => readZoneBody data s
  | 0x03 => readChillBody data s
  | 0x04 => readPlain transitData data s
  | 0x05 => readPlanBody data s
  | 0x06 => readPlain stackData data s
  | 0x07 => readMapBody data s
  | 0x08 => readRowBody data s
  | 0x09 => readParamBody data s
  | 0x0A => readPlain faultsData data s
  | 0x20 => writeMapBody data s
  | 0x21 => writeRowBody data s
  | 0x22 => match data with
    | [] => commitBody s
    | _ => { state := s, data := commitReply .badArgument 0 0 }
  | 0x23 => withoutData withdrawBody data s
  | 0x24 => writeParamBody data s
  | 0x25 => lineBody data s
  | 0x26 => setHoldBody data s
  | 0x27 => setFaultEnableBody data s
  | 0x28 => withoutData faultTakeBody data s
  | 0x29 => withoutData readCountsBody data s
  | 0x2A => withoutData softResetBody data s
  | _ => .status .unknownOrder s

/-- A write order (chapter 11's table: codes 0x20 to 0x2A). -/
def isWriteOrder (code : Nat) : Bool := decide (0x20 ≤ code) && decide (code ≤ 0x2A)

/-- The manager address check fails (R188, R189). -/
def managerRefuses (src : Addr) (code : Nat) (s : State) : Bool :=
  isWriteOrder code && s.params.managerAddress != 0 && src.toNat != s.params.managerAddress

/-- The data of a NOT_MANAGER reply: a LINE and a COMMIT reply carry three octets whatever their status (R76, R188). -/
def notManagerData (code : Nat) : List Byte :=
  if code = 0x22 ∨ code = 0x25 then [Status.notManager.octet, 0, 0] else [Status.notManager.octet]

/-- An ORDER taken into a FREE slot, decided (R188). A code that is not known fails first, in orderBody's last case. -/
def decideOrder (src : Addr) (code : Nat) (data : List Byte) (s : State) : Answer :=
  if managerRefuses src code s then { state := s, data := notManagerData code } else orderBody code data s

/-! ### The SOFT_RESET taking effect (R197) -/

/-- The map entry a SOFT_RESET leaves (R42). -/
def Entry.softReset (retain : Bool) (e : Entry) : Entry := if retain then e.renewed else .init

/-- The store a SOFT_RESET leaves (R72). -/
def Store.softReset (retain : Bool) (t : Store) : Store :=
  if retain then { t with status := .none } else { active := [], shadow := [], status := .none }

/-- Every block takes its SOFT_RESET values under RETAIN as it stands (R197). -/
def softResetEffect (s : State) : State :=
  let retain := s.params.retain == 1
  { link := { s.link with through := s.link.through.map fun f => { f with subst := none } }
    outlet := { s.outlet with queue := [], dest := .none, owed := [] }
    sat := ⟨0, 0, 0, 0, 0, 0, 0, 0⟩
    channels := s.channels.map (Entry.softReset retain)
    holds := 0
    tracker := .init
    store := s.store.softReset retain
    line := { state := .cold, mode := .none, purge := none, settle := none, cooldown := none,
              zonesPresent := .const false, circuitsPresent := .const false, control := some Config.controlMs,
              priorMinFire := none }
    planner := .init
    zones := .const .init
    circuits := .const .init
    transit := []
    stack := []
    supervisor := .init (some Config.intervalMs)
    faults := { pending := 0, taken := 0, enable := if retain then s.faults.enable else 0xFFFF, out := false }
    agent := { slot := .free, params := if retain then s.params else .init }
    freeCount := s.freeCount
    pending := s.pending }

/-! ### The REPLY -/

/-- The order code of SOFT_RESET. -/
def softResetCode : Byte := 0x2A

/-- A REPLY's data answer a SOFT_RESET that was taken. -/
def resetTaken (code : Byte) (data : List Byte) : Bool := code == softResetCode && data == [Status.done.octet]

/-- The slot replaced. -/
def setSlot (x : Slot) (s : State) : State := s.withAgent { s.agent with slot := x }

/-- The REPLY inserted: the slot OCCUPIED, or RESET_PENDING for a SOFT_RESET taken; a REPLY lost for want of room leaves
the slot FREE, and the SOFT_RESET it answers takes effect (R187, R196). -/
def reply (dst : Addr) (code tag : Byte) (data : List Byte) (s : State) : State :=
  let f : OwnFrame := .reply dst code tag data
  let lost := (queueInsert f s.outlet.queue).isNone
  let s := insertFrame f s
  if lost then (if resetTaken code data then softResetEffect s else s)
  else setSlot (if resetTaken code data then .resetPending else .occupied) s

/-- An ORDER handed to the agent: discarded while the slot is not FREE (R187), else decided and carried out, its event's
work ended, and its REPLY inserted last (log 9). -/
def takeOrder (src : Addr) (code tag : Byte) (data : List Byte) (s : State) : State :=
  if s.agent.slot = .free then
    let a := decideOrder src code.toNat data s
    reply src code tag a.data (closeEvent a.state)
  else closeEvent (s.withSat { s.sat with orderDrop := satInc s.sat.orderDrop })

end Sys2Proof.Machine
end

