-- ==== Sys2Proof/Machine/Ask.lean ====
section
/-! DEFINITION. The planner's answer to an ASK (R114 to R116). -/

namespace Sys2Proof.Machine

/-- A GRANT step's speed replaced in a WAITING GRANT step (R116). -/
def PlanStep.regranted (v : Int) (t : PlanStep) : PlanStep :=
  match t.kind with
  | .grant _ j => { t with kind := .grant v j }
  | _ => t

/-- The plan retagged (R116). -/
def Plan.retagged (v : Int) (tag : Byte) (p : Plan) : Plan :=
  { p with request := some { speed := v, tag := tag }, steps := p.steps.map (PlanStep.regranted v) }

/-- A plan's GRANT step is WAITING. -/
def Plan.grantWaits (p : Plan) : Bool :=
  p.steps.any fun t => !t.done && (match t.kind with | .grant _ _ => true | _ => false)

/-- Case 5 of R114: a RAISE toward the same row with its GRANT step WAITING, asked for a speed above the ceiling. -/
def retags (j : Nat) (v : Int) (s : State) : Bool :=
  match s.planner.plan with
  | some p => p.ordering == .raise && p.target == j && p.grantWaits && decide (s.planner.ceiling < v)
  | none => false

/-- Case 6 of R114: the existing plan ends and a new one is built (R115). -/
def buildAsked (v : Int) (tag : Byte) (j : Nat) (r : Row) (s : State) : State :=
  let s := discardPlan s
  let req : Option Request := some { speed := v, tag := tag }
  if s.planner.ceiling < v then
    installPlan (.built s .asked .raise req j (raiseSteps s j r v)) (sendGrant .pending tag s)
  else
    let granting := decide (v < s.planner.ceiling)
    let steps := lowerSteps s j r v granting
    installPlan (.built s .asked .lower req j steps) (if granting then s else sendGrant .granted tag s)

/-- The planner's answer by the first case of R114 that applies; `v` is none for a speed out of range under R8. -/
def answerAsk (v : Option Int) (tag : Byte) (s : State) : State :=
  if !s.line.state.granted then sendGrant .refused tag s
  else if !s.stack.isEmpty then sendGrant .held tag s
  else
    match v with
    | none => sendGrant .refused tag s
    | some v =>
      match rowForRequest s.store.active v with
      | none => sendGrant .refused tag s
      | some j =>
        if s.line.state = .ready ∧ v ≤ s.planner.ceiling then sendGrant .granted tag s
        else if retags j v s then
          sendGrant .pending tag (s.withPlan (s.planner.plan.map (Plan.retagged v tag)))
        else
          match s.store.active[j]? with
          | some r => buildAsked v tag j r s
          | none => sendGrant .refused tag s

/-- The GRANT destination record at an ASK (R13). -/
def destFromAsk (src : Addr) (s : State) : State := s.withOutlet { s.outlet with dest := .ask src }

/-- The last tag set (R99). -/
def setLastTag (tag : Byte) (s : State) : State := s.withPlanner { s.planner with lastTag := tag }

/-- An ASK consumed: the GRANT destination record, the last tag, then the answer (R8, R13, R99, R114). -/
def takeAsk (src : Addr) (tag : Byte) (value : Half) (s : State) : State :=
  let v := value.toInt
  let s := setLastTag tag (destFromAsk src s)
  if 0 ≤ v ∧ v ≤ 1200 then answerAsk (some v) tag s else answerAsk none tag (countKindMismatch s)

end Sys2Proof.Machine
end

