-- ==== Sys2Proof/Machine/Ring.lean ====
section
/-! DEFINITION. The ring interface: the part's own frames as octets (R12), reception and classification (R3, R6 to R10),
the end of a transmission (R11, R15, R38), RESET and the bypass switch (R4, R5). -/

namespace Sys2Proof.Machine

/-! ### The part's own frames on the wire (R12) -/

/-- Kind octets. -/
def kindBeat : Byte := 0x11
/-- Kind octet of READING. -/
def kindReading : Byte := 0x12
/-- Kind octet of LEVEL. -/
def kindLevel : Byte := 0x13
/-- Kind octet of DEMAND. -/
def kindDemand : Byte := 0x14
/-- Kind octet of ASK. -/
def kindAsk : Byte := 0x21
/-- Kind octet of GRANT. -/
def kindGrant : Byte := 0x22
/-- Kind octet of ORDER. -/
def kindOrder : Byte := 0x31
/-- Kind octet of REPLY. -/
def kindReply : Byte := 0x32

/-- The aux octet of a GRANT by its status (chapter 1, "Frame kinds"). -/
def GrantStatus.octet : GrantStatus → Byte
  | .granted => 0 | .pending => 1 | .refused => 2 | .held => 3

/-- An own frame as octets, from the own address (R12). -/
def OwnFrame.octets (own : Addr) : OwnFrame → List Byte
  | .demand ch v =>
    fixedFrame kindDemand (addrOctet own) (addrOctet allStations) (BitVec.ofNat 8 ch) (BitVec.ofInt 16 v) 2
  | .level ch active =>
    fixedFrame kindLevel (addrOctet own) (addrOctet allStations) (BitVec.ofNat 8 ch) 0 (if active then 1 else 0)
  | .grant dst tag c st =>
    fixedFrame kindGrant (addrOctet own) (addrOctet dst) tag (BitVec.ofInt 16 c) st.octet
  | .reply dst code tag data => variableFrame kindReply (addrOctet own) (addrOctet dst) code tag data

/-- The octets leaving the downstream port. -/
def State.onWire (s : State) : Option (List Byte) :=
  match s.outlet.port with
  | none => none
  | some .through => s.link.through.head?.map ThroughFrame.octets
  | some (.inserted f) => some (f.octets s.link.own)

/-! ### Counting -/

/-- The wrapping counters changed. -/
def countWrap (f : WrapCounts → WrapCounts) (s : State) : State := s.withLink { s.link with wrap := f s.link.wrap }

/-- A good frame's arrival: RX_GOOD, the silence timer restarted, RING_SILENT cleared (R6, R18). -/
def countGood (s : State) : State :=
  s.withLink
    { s.link with
      silence := some Config.silenceMs, ringSilent := false
      wrap := { s.link.wrap with rxGood := wrapInc s.link.wrap.rxGood } }

/-- A check error counted, with RING_CHECK at the step from 254 to 255 (R3, R20). -/
def checkErrorWork (s : State) : State :=
  let n := s.sat.rxCheckErr
  let s := s.withSat { s.sat with rxCheckErr := satInc n }
  if n = 254 then raiseFault .ringCheck s else s

/-! ### The through buffer (R10, R11) -/

/-- A frame joins the through buffer, or is dropped; the arbiter decides at once (R6, R11, R16). -/
def joinThrough (f : ThroughFrame) (s : State) : State :=
  if s.link.through.length < Config.throughCapacity then
    arbitrate (s.withLink { s.link with through := s.link.through ++ [f] })
  else countWrap (fun w => { w with throughDrop := wrapInc w.throughDrop }) s

/-- A DEMAND rewritten: its value and origin replaced, and a fresh check (R10). -/
def rewriteDemand (octets : List Byte) (v : Int) : List Byte :=
  fixedFrame (octetAt octets 0) (octetAt octets 1) (octetAt octets 2) (octetAt octets 3) (BitVec.ofInt 16 v) 1

/-- The drive record of a channel. -/
def driveOf (s : State) (ch : Nat) : Option (Entry × DriveRec) :=
  match s.entry ch with
  | some e => e.drive.map fun d => (e, d)
  | none => none

/-- A DEMAND enters the through buffer, rewritten where its channel has a drive record, which restarts the refresh timer;
one that finds the buffer full is dropped as it is (R10, R37). -/
def joinDemand (octets : List Byte) (s : State) : State :=
  let ch := (octetAt octets 3).toNat
  match driveOf s ch with
  | none => joinThrough { octets := octets, subst := none } s
  | some (e, d) =>
    if s.link.through.length < Config.throughCapacity then
      joinThrough { octets := rewriteDemand octets d.sent, subst := some (ch, d.sent) }
        (s.withEntry ch { e with drive := some { d with refresh := Config.refreshMs } })
    else joinThrough { octets := octets, subst := none } s

/-- A frame of case 3 or 4 of R6 at the through buffer. -/
def forwardFrame (octets : List Byte) (s : State) : State :=
  if frameKind (octetAt octets 0) = .demand then joinDemand octets s
  else joinThrough { octets := octets, subst := none } s

/-! ### Copying (R9, R13, R95) -/

/-- The GRANT destination record at a BEAT (R13). -/
def destFromBeat (src : Addr) (s : State) : State :=
  match s.outlet.dest with
  | .ask _ => s
  | .none | .beat _ => s.withOutlet { s.outlet with dest := .beat src }

/-- The press mode of a BEAT's aux octet (R9). -/
def pressModeOf : Nat → Option PressMode
  | 0 => some .stopped | 1 => some .crawl | 2 => some .print | 3 => some .splice | _ => none

/-- The press mode taken by the line controller (R95). -/
def takeMode (m : PressMode) (s : State) : State :=
  let old := s.line.mode
  if m = old then s
  else
    let s := s.withLine { s.line with mode := m }
    if m = .splice then push .splice s
    else if old = .splice then clearCause .splice s
    else s

/-- A BEAT copied: the destination record, the supervisor, then the line controller (R9, R13, R95, R179; log 15). -/
def copyBeat (src : Addr) (seq aux : Byte) (s : State) : State :=
  let s := superviseBeat seq (destFromBeat src s)
  match pressModeOf aux.toNat with
  | some m => takeMode m s
  | none => countKindMismatch s

/-- A READING copied to the channel map (R9, R23). -/
def copyReading (ch : Byte) (value : Half) (aux : Byte) (s : State) : State :=
  if aux.toNat ≤ 2 then routeReading ch.toNat value aux.toNat s else countKindMismatch s

/-- A LEVEL copied to the channel map (R9, R23). -/
def copyLevel (ch aux : Byte) (s : State) : State :=
  if aux.toNat ≤ 1 then routeLevel ch.toNat (aux == 1) s else countKindMismatch s

/-- A frame of case 3 or 4 of R6 copied by its kind (R9). -/
def copyFrame (octets : List Byte) (s : State) : State :=
  let third := octetAt octets 3
  let value := halfOf (octetAt octets 4) (octetAt octets 5)
  let aux := octetAt octets 6
  match frameKind (octetAt octets 0) with
  | .beat => copyBeat (addrOf (octetAt octets 1)) third aux s
  | .reading => copyReading third value aux s
  | .level => copyLevel third aux s
  | .demand | .ask | .grant | .order | .reply | .other => s

/-! ### Classification (R3, R6) -/

/-- The ends of a good frame (R6). -/
inductive FrameEnd
  | stripped | asked | ordered | passed
deriving DecidableEq, Repr

/-- R6's cases by source, kind and destination. -/
def frameEnd (own : Addr) (octets : List Byte) : FrameEnd :=
  if addrOf (octetAt octets 1) = own then .stripped
  else if addrOf (octetAt octets 2) = own then
    match frameKind (octetAt octets 0) with
    | .ask => .asked
    | .order => .ordered
    | .beat | .reading | .level | .demand | .grant | .reply | .other => .passed
  else .passed

/-- A consumed frame counted (R8). -/
def countConsumed (s : State) : State := countWrap (fun w => { w with rxConsumed := wrapInc w.rxConsumed }) s

/-- A stripped frame (R7). -/
def stripWork (s : State) : State := countWrap (fun w => { w with rxStripped := wrapInc w.rxStripped }) s

/-- An ASK addressed to the part (R8). -/
def askWork (octets : List Byte) (s : State) : State :=
  takeAsk (addrOf (octetAt octets 1)) (octetAt octets 3) (halfOf (octetAt octets 4) (octetAt octets 5)) (countConsumed s)

/-- An ORDER addressed to the part (R8, R187). -/
def orderWork (octets : List Byte) (s : State) : State :=
  takeOrder (addrOf (octetAt octets 1)) (octetAt octets 3) (octetAt octets 4) (orderData octets) (countConsumed s)

/-- A good frame classified and handled, to the end of its event (R6). -/
def classify (octets : List Byte) (s : State) : State :=
  match frameEnd s.link.own octets with
  | .stripped => finish (stripWork (countGood s))
  | .asked => finish (askWork octets (countGood s))
  | .ordered => arbitrate (orderWork octets (countGood s))
  | .passed => finish (copyFrame octets (forwardFrame octets (countGood s)))

/-- The octets between two delimiters arrive at the receiver (R1, R3, R6). While the bypass switch is closed no frame
reaches it (R4, R5). -/
def receive (octets : List Byte) (s : State) : State :=
  if s.link.phase = .joined then
    if goodFrame octets then classify octets s else finish (checkErrorWork s)
  else s

/-! ### The end of a transmission (R11, R15, R16, R38) -/

/-- A through frame has left: it is removed and counted (R11). -/
def throughLeft (s : State) : State :=
  s.withLink
    { s.link with
      through := s.link.through.tail
      wrap := { s.link.wrap with txThrough := wrapInc s.link.wrap.txThrough } }

/-- The drive stage's correction of a substituted DEMAND that has left (R38). -/
def correctDemand (sub : Option (Nat × Int)) (s : State) : State :=
  match sub with
  | none => s
  | some (ch, v) =>
    match driveOf s ch with
    | some (e, d) => if d.sent = v then s else originate ch e d s
    | none => s

/-- The REPLY that answers a taken SOFT_RESET (R196). -/
def OwnFrame.isResetReply : OwnFrame → Bool
  | .reply _ code _ data => resetTaken code data
  | .demand _ _ | .level _ _ | .grant .. => false

/-- The port free. -/
def freePort (s : State) : State := s.withOutlet { s.outlet with port := none }

/-- The last octet of the frame in transmission has left (R11, R15, R196). -/
def txDoneWork (s : State) : State :=
  match s.outlet.port with
  | none => s
  | some .through => correctDemand (s.link.through.head?.bind ThroughFrame.subst) (throughLeft (freePort s))
  | some (.inserted f) =>
    let s := countWrap (fun w => { w with txInserted := wrapInc w.txInserted }) (freePort s)
    if f.isResetReply ∧ s.agent.slot = .resetPending then softResetEffect s else s

/-! ### The rows -/

/-- RESET_ASSERT (R5): all state lost, the part in bypass. Its commands waiting are not the part's. -/
def execResetAssert (s : State) : Host.Outcome State Fault Refusal :=
  .next { State.powerOn .asserted 0 none none with freeCount := s.freeCount, pending := s.pending }

/-- A strap reading that is a valid address (R4). -/
def validAddress (a : Addr) : Bool := decide (1 ≤ a.toNat) && decide (a.toNat ≤ 62)

/-- RESET_RELEASE (R4, R198): power-on values, and with a valid address the two timers. -/
def execResetRelease (straps : Addr) (s : State) : Host.Outcome State Fault Refusal :=
  if s.link.phase = .asserted then
    .next
      { (if validAddress straps then
            State.powerOn .waitingGap straps (some Config.controlMs) (some Config.intervalMs)
          else State.powerOn .inert straps none none) with
        freeCount := s.freeCount, pending := s.pending }
  else .next s

/-- BYPASS_OPEN (R4): the part joins the ring and the ring silence timer starts (R18). -/
def execBypassOpen (s : State) : Host.Outcome State Fault Refusal :=
  if s.link.phase = .waitingGap then
    .next (s.withLink { s.link with phase := .joined, silence := some Config.silenceMs })
  else .next s

/-- TX_FRAME_DONE (R11): the port free, the counter, and the arbiter's next decision. -/
def execTxFrameDone (s : State) : Host.Outcome State Fault Refusal :=
  .next (if s.outlet.port.isSome then finish (txDoneWork s) else s)

/-- CHECK_ERROR (R3). -/
def execCheckError (octets : List Byte) (s : State) : Host.Outcome State Fault Refusal := .next (receive octets s)

/-- STRIP (R7). -/
def execStrip (octets : List Byte) (s : State) : Host.Outcome State Fault Refusal := .next (receive octets s)

/-- THROUGH_FRAME (R6). -/
def execThroughFrame (octets : List Byte) (s : State) : Host.Outcome State Fault Refusal := .next (receive octets s)

/-- BEAT (R9). -/
def execBeat (src dst seq : Byte) (value : Half) (aux : Byte) (s : State) : Host.Outcome State Fault Refusal :=
  .next (receive (fixedFrame kindBeat src dst seq value aux) s)

/-- READING (R23). -/
def execReading (src dst ch : Byte) (value : Half) (aux : Byte) (s : State) : Host.Outcome State Fault Refusal :=
  .next (receive (fixedFrame kindReading src dst ch value aux) s)

/-- LEVEL (R30). -/
def execLevel (src dst ch : Byte) (value : Half) (aux : Byte) (s : State) : Host.Outcome State Fault Refusal :=
  .next (receive (fixedFrame kindLevel src dst ch value aux) s)

/-- DEMAND (R10). -/
def execDemand (src dst ch : Byte) (value : Half) (aux : Byte) (s : State) : Host.Outcome State Fault Refusal :=
  .next (receive (fixedFrame kindDemand src dst ch value aux) s)

/-- ASK (R114). -/
def execAsk (src dst tag : Byte) (value : Half) (aux : Byte) (s : State) : Host.Outcome State Fault Refusal :=
  .next (receive (fixedFrame kindAsk src dst tag value aux) s)

end Sys2Proof.Machine
end

