-- ==== Sys2Proof/Machine/Management.lean ====
section
/-! DEFINITION. The rows of the opcode table that are orders: each an ORDER frame arriving at the receiver, with its own
order code (chapter 11's table of orders), handled by R6 and R188. -/

namespace Sys2Proof.Machine

/-- An ORDER frame arrives (chapter 1, "Frame layout"). -/
def receiveOrder (src dst code tag : Byte) (data : List Byte) (s : State) : State :=
  receive (variableFrame kindOrder src dst code tag data) s

/-- READ_STATUS (R191). -/
def execReadStatus (src dst tag : Byte) (data : List Byte) (s : State) : Host.Outcome State Fault Refusal :=
  .next (receiveOrder src dst 0x01 tag data s)

/-- READ_ZONE (R136). -/
def execReadZone (src dst tag : Byte) (data : List Byte) (s : State) : Host.Outcome State Fault Refusal :=
  .next (receiveOrder src dst 0x02 tag data s)

/-- READ_CHILL (R149). -/
def execReadChill (src dst tag : Byte) (data : List Byte) (s : State) : Host.Outcome State Fault Refusal :=
  .next (receiveOrder src dst 0x03 tag data s)

/-- READ_TRANSIT (R149). -/
def execReadTransit (src dst tag : Byte) (data : List Byte) (s : State) : Host.Outcome State Fault Refusal :=
  .next (receiveOrder src dst 0x04 tag data s)

/-- READ_PLAN (R121). -/
def execReadPlan (src dst tag : Byte) (data : List Byte) (s : State) : Host.Outcome State Fault Refusal :=
  .next (receiveOrder src dst 0x05 tag data s)

/-- READ_STACK (R167). -/
def execReadStack (src dst tag : Byte) (data : List Byte) (s : State) : Host.Outcome State Fault Refusal :=
  .next (receiveOrder src dst 0x06 tag data s)

/-- READ_MAP (R193). -/
def execReadMap (src dst tag : Byte) (data : List Byte) (s : State) : Host.Outcome State Fault Refusal :=
  .next (receiveOrder src dst 0x07 tag data s)

/-- READ_ROW (R59). -/
def execReadRow (src dst tag : Byte) (data : List Byte) (s : State) : Host.Outcome State Fault Refusal :=
  .next (receiveOrder src dst 0x08 tag data s)

/-- READ_PARAM (R195). -/
def execReadParam (src dst tag : Byte) (data : List Byte) (s : State) : Host.Outcome State Fault Refusal :=
  .next (receiveOrder src dst 0x09 tag data s)

/-- READ_FAULTS (R185). -/
def execReadFaults (src dst tag : Byte) (data : List Byte) (s : State) : Host.Outcome State Fault Refusal :=
  .next (receiveOrder src dst 0x0A tag data s)

/-- WRITE_MAP (R24). -/
def execWriteMap (src dst tag : Byte) (data : List Byte) (s : State) : Host.Outcome State Fault Refusal :=
  .next (receiveOrder src dst 0x20 tag data s)

/-- WRITE_ROW (R58). -/
def execWriteRow (src dst tag : Byte) (data : List Byte) (s : State) : Host.Outcome State Fault Refusal :=
  .next (receiveOrder src dst 0x21 tag data s)

/-- COMMIT (R64). -/
def execCommit (src dst tag : Byte) (data : List Byte) (s : State) : Host.Outcome State Fault Refusal :=
  .next (receiveOrder src dst 0x22 tag data s)

/-- WITHDRAW (R65). -/
def execWithdraw (src dst tag : Byte) (data : List Byte) (s : State) : Host.Outcome State Fault Refusal :=
  .next (receiveOrder src dst 0x23 tag data s)

/-- WRITE_PARAM (R195). -/
def execWriteParam (src dst tag : Byte) (data : List Byte) (s : State) : Host.Outcome State Fault Refusal :=
  .next (receiveOrder src dst 0x24 tag data s)

/-- START: LINE with command 1 (R77). -/
def execStart (src dst tag : Byte) (s : State) : Host.Outcome State Fault Refusal :=
  .next (receiveOrder src dst 0x25 tag [1] s)

/-- STOP: LINE with command 2 (R86). -/
def execStop (src dst tag : Byte) (s : State) : Host.Outcome State Fault Refusal :=
  .next (receiveOrder src dst 0x25 tag [2] s)

/-- RESTART: LINE with command 3 (R92). -/
def execRestart (src dst tag : Byte) (s : State) : Host.Outcome State Fault Refusal :=
  .next (receiveOrder src dst 0x25 tag [3] s)

/-- CLEAR_LOCKOUT: LINE with command 4 (R94). -/
def execClearLockout (src dst tag : Byte) (s : State) : Host.Outcome State Fault Refusal :=
  .next (receiveOrder src dst 0x25 tag [4] s)

/-- SET_HOLD (R39). -/
def execSetHold (src dst tag : Byte) (data : List Byte) (s : State) : Host.Outcome State Fault Refusal :=
  .next (receiveOrder src dst 0x26 tag data s)

/-- SET_FAULT_ENABLE (R184). -/
def execSetFaultEnable (src dst tag : Byte) (data : List Byte) (s : State) : Host.Outcome State Fault Refusal :=
  .next (receiveOrder src dst 0x27 tag data s)

/-- FAULT_TAKE (R185). -/
def execFaultTake (src dst tag : Byte) (data : List Byte) (s : State) : Host.Outcome State Fault Refusal :=
  .next (receiveOrder src dst 0x28 tag data s)

/-- READ_COUNTS (R20). -/
def execReadCounts (src dst tag : Byte) (data : List Byte) (s : State) : Host.Outcome State Fault Refusal :=
  .next (receiveOrder src dst 0x29 tag data s)

/-- SOFT_RESET (R196). -/
def execSoftReset (src dst tag : Byte) (data : List Byte) (s : State) : Host.Outcome State Fault Refusal :=
  .next (receiveOrder src dst 0x2A tag data s)

/-- UNKNOWN_ORDER (R188). -/
def execUnknownOrder (code src dst tag : Byte) (data : List Byte) (s : State) : Host.Outcome State Fault Refusal :=
  .next (receiveOrder src dst code tag data s)

/-- LINE_BAD_COMMAND (R76). -/
def execLineBadCommand (src dst tag : Byte) (data : List Byte) (s : State) : Host.Outcome State Fault Refusal :=
  .next (receiveOrder src dst 0x25 tag data s)

end Sys2Proof.Machine
end

