-- ==== Sys2Proof/Machine/Dispatch.lean ====
section
/-! DEFINITION. One arm per constructor of Instr: the command's meaning on everything but the queue. -/

namespace Sys2Proof.Machine

/-- The effect of a command, by its row's meaning. -/
def exec (i : Instr) (s : State) : Host.Outcome State Fault Refusal :=
  match i with
  | .resetAssert => Sys2Proof.Machine.execResetAssert s
  | .resetRelease straps => Sys2Proof.Machine.execResetRelease straps s
  | .bypassOpen => Sys2Proof.Machine.execBypassOpen s
  | .checkError octets => Sys2Proof.Machine.execCheckError octets s
  | .strip octets => Sys2Proof.Machine.execStrip octets s
  | .throughFrame octets => Sys2Proof.Machine.execThroughFrame octets s
  | .beat src dst seq value aux => Sys2Proof.Machine.execBeat src dst seq value aux s
  | .reading src dst ch value aux => Sys2Proof.Machine.execReading src dst ch value aux s
  | .level src dst ch value aux => Sys2Proof.Machine.execLevel src dst ch value aux s
  | .demand src dst ch value aux => Sys2Proof.Machine.execDemand src dst ch value aux s
  | .ask src dst tag value aux => Sys2Proof.Machine.execAsk src dst tag value aux s
  | .txFrameDone => Sys2Proof.Machine.execTxFrameDone s
  | .ringSilenceExpiry => Sys2Proof.Machine.execRingSilenceExpiry s
  | .confirmTimerExpiry ch => Sys2Proof.Machine.execConfirmTimerExpiry ch s
  | .refreshTimerExpiry ch => Sys2Proof.Machine.execRefreshTimerExpiry ch s
  | .ageTimer250 => Sys2Proof.Machine.execAgeTimer250 s
  | .ageTimer1000 => Sys2Proof.Machine.execAgeTimer1000 s
  | .purgeTimerExpiry => Sys2Proof.Machine.execPurgeTimerExpiry s
  | .settleTimerExpiry => Sys2Proof.Machine.execSettleTimerExpiry s
  | .cooldownTimerExpiry => Sys2Proof.Machine.execCooldownTimerExpiry s
  | .controlPeriod => Sys2Proof.Machine.execControlPeriod s
  | .headTimerAfter => Sys2Proof.Machine.execHeadTimerAfter s
  | .soakComplete => Sys2Proof.Machine.execSoakComplete s
  | .slowedDelayExpiry => Sys2Proof.Machine.execSlowedDelayExpiry s
  | .readyTimeout => Sys2Proof.Machine.execReadyTimeout s
  | .ignitionTimerExpiry z => Sys2Proof.Machine.execIgnitionTimerExpiry z s
  | .clearTimerExpiry => Sys2Proof.Machine.execClearTimerExpiry s
  | .graceTimerExpiry z => Sys2Proof.Machine.execGraceTimerExpiry z s
  | .supervisionInterval => Sys2Proof.Machine.execSupervisionInterval s
  | .readStatus src dst tag data => Sys2Proof.Machine.execReadStatus src dst tag data s
  | .readZone src dst tag data => Sys2Proof.Machine.execReadZone src dst tag data s
  | .readChill src dst tag data => Sys2Proof.Machine.execReadChill src dst tag data s
  | .readTransit src dst tag data => Sys2Proof.Machine.execReadTransit src dst tag data s
  | .readPlan src dst tag data => Sys2Proof.Machine.execReadPlan src dst tag data s
  | .readStack src dst tag data => Sys2Proof.Machine.execReadStack src dst tag data s
  | .readMap src dst tag data => Sys2Proof.Machine.execReadMap src dst tag data s
  | .readRow src dst tag data => Sys2Proof.Machine.execReadRow src dst tag data s
  | .readParam src dst tag data => Sys2Proof.Machine.execReadParam src dst tag data s
  | .readFaults src dst tag data => Sys2Proof.Machine.execReadFaults src dst tag data s
  | .writeMap src dst tag data => Sys2Proof.Machine.execWriteMap src dst tag data s
  | .writeRow src dst tag data => Sys2Proof.Machine.execWriteRow src dst tag data s
  | .commit src dst tag data => Sys2Proof.Machine.execCommit src dst tag data s
  | .withdraw src dst tag data => Sys2Proof.Machine.execWithdraw src dst tag data s
  | .writeParam src dst tag data => Sys2Proof.Machine.execWriteParam src dst tag data s
  | .start src dst tag => Sys2Proof.Machine.execStart src dst tag s
  | .stop src dst tag => Sys2Proof.Machine.execStop src dst tag s
  | .restart src dst tag => Sys2Proof.Machine.execRestart src dst tag s
  | .clearLockout src dst tag => Sys2Proof.Machine.execClearLockout src dst tag s
  | .setHold src dst tag data => Sys2Proof.Machine.execSetHold src dst tag data s
  | .setFaultEnable src dst tag data => Sys2Proof.Machine.execSetFaultEnable src dst tag data s
  | .faultTake src dst tag data => Sys2Proof.Machine.execFaultTake src dst tag data s
  | .readCounts src dst tag data => Sys2Proof.Machine.execReadCounts src dst tag data s
  | .softReset src dst tag data => Sys2Proof.Machine.execSoftReset src dst tag data s
  | .unknownOrder code src dst tag data => Sys2Proof.Machine.execUnknownOrder code src dst tag data s
  | .lineBadCommand src dst tag data => Sys2Proof.Machine.execLineBadCommand src dst tag data s

end Sys2Proof.Machine
end

