-- ==== Sys2Proof/Machine/Tick.lean ====
section
/-! DEFINITION. One millisecond of the part's clock: every running timer and age moves on, and the expiries that fall due
join the queue, in a free order where several fall together (logs 1 to 3). -/

namespace Sys2Proof.Machine

/-- A channel's timers one millisecond on (R30, R37). -/
def Entry.tick (e : Entry) : Entry :=
  { e with
    level := e.level.map fun r => { r with timer := timerTick r.timer }
    drive := e.drive.map fun d => { d with refresh := d.refresh - 1 } }

/-- A sensor record's age one millisecond on (R123, R138). -/
def Sensor.tick (r : Sensor) : Sensor := { r with age := ageTick r.age }

/-- A zone record's times one millisecond on. -/
def ZoneRec.tick (r : ZoneRec) : ZoneRec :=
  { r with air := r.air.tick, lel := r.lel.tick, ignitionTimer := timerTick r.ignitionTimer }

/-- A circuit record's age one millisecond on. -/
def CircuitRec.tick (r : CircuitRec) : CircuitRec := { r with web := r.web.tick }

/-- The line record's timers one millisecond on. -/
def Line.tick (l : Line) : Line :=
  { l with
    purge := timerTick l.purge, settle := timerTick l.settle, cooldown := timerTick l.cooldown
    control := timerTick l.control }

/-- A plan's times one millisecond on: they stand while it is FROZEN (R103 to R105). -/
def Plan.tick (p : Plan) : Plan :=
  if p.frozen then p else { p with headTimer := p.headTimer + 1, clock := p.clock.map (· + 1) }

/-- The supervision record's timers one millisecond on. -/
def Supervisor.tick (v : Supervisor) : Supervisor :=
  { v with
    clearTimer := timerTick v.clearTimer, grace := v.grace.map fun _ t => timerTick t, interval := timerTick v.interval }

/-- Every running timer and age one millisecond on. -/
def advanceTimers (s : State) : State :=
  { s with
    link := { s.link with silence := timerTick s.link.silence }
    channels := s.channels.map Entry.tick
    tracker := { s.tracker with age := ageTick s.tracker.age }
    line := s.line.tick
    planner := { s.planner with plan := s.planner.plan.map Plan.tick }
    zones := s.zones.map fun _ r => r.tick
    circuits := s.circuits.map fun _ r => r.tick
    supervisor := s.supervisor.tick }

/-- An expiry if it is due. -/
def expiryIf (due : Bool) (i : Instr) : List Instr := if due then [i] else []

/-- The expiries of one channel. -/
def channelExpiries (ch : Nat) (e : Entry) : List Instr :=
  expiryIf (match e.level with | some r => timerDue r.timer | none => false) (.confirmTimerExpiry (BitVec.ofNat 8 ch)) ++
    expiryIf (match e.drive with | some d => d.refresh == 0 | none => false) (.refreshTimerExpiry (BitVec.ofNat 8 ch))

/-- The expiries of the channels from `n` on. -/
def channelsExpiries : Nat → List Entry → List Instr
  | _, [] => []
  | n, e :: es => channelExpiries n e ++ channelsExpiries (n + 1) es

/-- The tracker's age has just reached 250 ms in ACQUIRING, or stands there in LOCKED (R48). -/
def due250 (t : Tracker) : Bool :=
  match t.state, t.age with
  | .locked, some a => decide (Config.staleMs ≤ a)
  | .acquiring, some a => decide (a = Config.staleMs)
  | _, _ => false

/-- The tracker's age stands at 1000 ms in STALE (R48). -/
def due1000 (t : Tracker) : Bool :=
  match t.state, t.age with
  | .stale, some a => decide (Config.lostMs ≤ a)
  | _, _ => false

/-- The expiries of one zone. -/
def zoneExpiries (s : State) (z : Zone) : List Instr :=
  expiryIf (ignitionDue z s) (.ignitionTimerExpiry z) ++
    expiryIf (timerDue (s.supervisor.grace.get z)) (.graceTimerExpiry z)

/-- The expiries that are due, one for each timer. -/
def dueExpiries (s : State) : List Instr :=
  expiryIf (timerDue s.link.silence) .ringSilenceExpiry ++ channelsExpiries 0 s.channels ++
    expiryIf (due250 s.tracker) .ageTimer250 ++ expiryIf (due1000 s.tracker) .ageTimer1000 ++
    expiryIf (timerDue s.line.purge) .purgeTimerExpiry ++ expiryIf (timerDue s.line.settle) .settleTimerExpiry ++
    expiryIf (timerDue s.line.cooldown) .cooldownTimerExpiry ++ expiryIf (timerDue s.line.control) .controlPeriod ++
    expiryIf (afterDue s) .headTimerAfter ++ expiryIf (soakDue s) .soakComplete ++
    expiryIf (slowedDue s) .slowedDelayExpiry ++ expiryIf (stallDue s) .readyTimeout ++
    Zone.all.flatMap (zoneExpiries s) ++
    expiryIf (timerDue s.supervisor.clearTimer) .clearTimerExpiry ++
    expiryIf (timerDue s.supervisor.interval) .supervisionInterval

/-- Expiries that fall together put in a free order: the one at a free place first, then the others alike; the first
argument bounds the run by their number (log 3). -/
def arrange : Nat → Nat → List Instr → List Instr
  | 0, _, l => l
  | _ + 1, _, [] => []
  | _ + 1, _, [i] => [i]
  | k + 1, n, i :: j :: l =>
    let all := i :: j :: l
    let place := Config.pickExpiry n % all.length
    all.getD place i :: arrange k (n + 1) (all.eraseIdx place)

/-- One millisecond (log 1). -/
def tick (s : State) : State :=
  let s := advanceTimers s
  let due := dueExpiries s
  { s with pending := s.pending ++ arrange due.length s.freeCount due, freeCount := s.freeCount + due.length }

end Sys2Proof.Machine
end

