-- ==== Sys2Proof/Safety.lean ====
section
/-! DEFINITION. The vocabulary of the statements: which blocks a command changes, what the part sends, when the part is at
rest between events, and the invariants that every step keeps. -/

namespace Sys2Proof.Machine

/-! ### Blocks and frames -/

/-- The blocks of State. -/
inductive Block
  | link | outlet | sat | channels | holds | tracker | store | line | planner | zones | circuits | transit | stack
  | supervisor | faults | agent | freeCount | pending
deriving DecidableEq, Repr

/-- A block is the same in two states. -/
def State.same (s t : State) : Block → Prop
  | .link => t.link = s.link
  | .outlet => t.outlet = s.outlet
  | .sat => t.sat = s.sat
  | .channels => t.channels = s.channels
  | .holds => t.holds = s.holds
  | .tracker => t.tracker = s.tracker
  | .store => t.store = s.store
  | .line => t.line = s.line
  | .planner => t.planner = s.planner
  | .zones => t.zones = s.zones
  | .circuits => t.circuits = s.circuits
  | .transit => t.transit = s.transit
  | .stack => t.stack = s.stack
  | .supervisor => t.supervisor = s.supervisor
  | .faults => t.faults = s.faults
  | .agent => t.agent = s.agent
  | .freeCount => t.freeCount = s.freeCount
  | .pending => t.pending = s.pending

/-- Every block but those listed is unchanged. -/
def OnlyChanges (bs : List Block) (s t : State) : Prop := ∀ b, b ∉ bs → s.same t b

/-- A frame of the part's own waits in the insert queue or is leaving the port. -/
def Sends (f : OwnFrame) (t : State) : Prop := f ∈ t.outlet.queue ∨ t.outlet.port = some (.inserted f)

/-! ### Commands as what they bring -/

/-- An ORDER's fields (chapter 1, "Frame layout"). -/
structure OrderFields where
  code : Byte
  src : Byte
  dst : Byte
  tag : Byte
  data : List Byte
deriving DecidableEq, Repr

/-- The ORDER a command brings, with the order code of chapter 11's table; none for a command that is no order. -/
def orderFields : Instr → Option OrderFields
  | .readStatus src dst tag data => some ⟨0x01, src, dst, tag, data⟩
  | .readZone src dst tag data => some ⟨0x02, src, dst, tag, data⟩
  | .readChill src dst tag data => some ⟨0x03, src, dst, tag, data⟩
  | .readTransit src dst tag data => some ⟨0x04, src, dst, tag, data⟩
  | .readPlan src dst tag data => some ⟨0x05, src, dst, tag, data⟩
  | .readStack src dst tag data => some ⟨0x06, src, dst, tag, data⟩
  | .readMap src dst tag data => some ⟨0x07, src, dst, tag, data⟩
  | .readRow src dst tag data => some ⟨0x08, src, dst, tag, data⟩
  | .readParam src dst tag data => some ⟨0x09, src, dst, tag, data⟩
  | .readFaults src dst tag data => some ⟨0x0A, src, dst, tag, data⟩
  | .writeMap src dst tag data => some ⟨0x20, src, dst, tag, data⟩
  | .writeRow src dst tag data => some ⟨0x21, src, dst, tag, data⟩
  | .commit src dst tag data => some ⟨0x22, src, dst, tag, data⟩
  | .withdraw src dst tag data => some ⟨0x23, src, dst, tag, data⟩
  | .writeParam src dst tag data => some ⟨0x24, src, dst, tag, data⟩
  | .start src dst tag => some ⟨0x25, src, dst, tag, [1]⟩
  | .stop src dst tag => some ⟨0x25, src, dst, tag, [2]⟩
  | .restart src dst tag => some ⟨0x25, src, dst, tag, [3]⟩
  | .clearLockout src dst tag => some ⟨0x25, src, dst, tag, [4]⟩
  | .setHold src dst tag data => some ⟨0x26, src, dst, tag, data⟩
  | .setFaultEnable src dst tag data => some ⟨0x27, src, dst, tag, data⟩
  | .faultTake src dst tag data => some ⟨0x28, src, dst, tag, data⟩
  | .readCounts src dst tag data => some ⟨0x29, src, dst, tag, data⟩
  | .softReset src dst tag data => some ⟨0x2A, src, dst, tag, data⟩
  | .unknownOrder code src dst tag data => some ⟨code, src, dst, tag, data⟩
  | .lineBadCommand src dst tag data => some ⟨0x25, src, dst, tag, data⟩
  | _ => none

/-- The octets a frame command brings to the receiver; none for a command that is no frame. -/
def frameOf : Instr → Option (List Byte)
  | .checkError octets | .strip octets | .throughFrame octets => some octets
  | .beat src dst seq value aux => some (fixedFrame kindBeat src dst seq value aux)
  | .reading src dst ch value aux => some (fixedFrame kindReading src dst ch value aux)
  | .level src dst ch value aux => some (fixedFrame kindLevel src dst ch value aux)
  | .demand src dst ch value aux => some (fixedFrame kindDemand src dst ch value aux)
  | .ask src dst tag value aux => some (fixedFrame kindAsk src dst tag value aux)
  | i => (orderFields i).map fun o => variableFrame kindOrder o.src o.dst o.code o.tag o.data

/-- The part is on the ring, with the bypass switch open (R4). -/
abbrev State.onRing (s : State) : Prop := s.link.phase = .joined

/-- An ORDER or ASK reaches the part: it is on the ring, and the frame is addressed to it by another station (R6, R8). -/
abbrev Reaches (src dst : Byte) (s : State) : Prop :=
  s.onRing ∧ addrOf src ≠ s.link.own ∧ addrOf dst = s.link.own

/-- The state in which a consumed frame is handled: counted in RX_GOOD and RX_CONSUMED, the silence timer restarted and
RING_SILENT clear (R6, R8, R18). -/
def arrived (s : State) : State := countConsumed (countGood s)

/-- The reply slot once a REPLY is inserted by a part at rest whose event inserts nothing else: an idle port starts it at
once, which frees the slot (R16, R187). -/
def slotAfterReply (s : State) : Slot := if s.outlet.port.isNone then .free else .occupied

/-- A write order is open to a source (R189). -/
abbrev ManagerAdmits (src : Byte) (s : State) : Prop :=
  s.params.managerAddress = 0 ∨ (addrOf src).toNat = s.params.managerAddress

/-- An ORDER is answered with reply data `d` by an event that inserts nothing else: the frame counted and the REPLY sent to
its source. -/
structure Answered (o : OrderFields) (d : List Byte) (s t : State) : Prop where
  link : t.link = (arrived s).link
  sends : Sends (.reply (addrOf o.src) o.code o.tag d) t
  slot : t.agent.slot = slotAfterReply s

/-- A frame passes the part: it is on the ring, and another station sent the frame (R6; kinds that are never consumed). -/
abbrev Passes (src : Byte) (s : State) : Prop := s.onRing ∧ addrOf src ≠ s.link.own

/-- A channel holds a role. -/
def HoldsRole (ch : Byte) (r : Role) (s : State) : Prop := ∃ e, s.entry ch.toNat = some e ∧ e.role = r

/-- The ring's receiving side after a good frame that is neither stripped nor consumed (R6, R11, R18): `f` joins the through
buffer, or is dropped where the buffer is full. -/
def linkAfter (f : ThroughFrame) (s : State) : Link :=
  if s.link.through.length < Config.throughCapacity then
    { (countGood s).link with through := s.link.through ++ [f] }
  else
    { (countGood s).link with
      wrap := { (countGood s).link.wrap with throughDrop := wrapInc s.link.wrap.throughDrop } }

/-- An idle port of a part at rest sends a frame that joins the through buffer at once (R16). -/
def outletAfter (s : State) : Outlet :=
  if s.link.through.length < Config.throughCapacity ∧ s.outlet.port = none then
    { s.outlet with port := some .through, runCount := min (s.outlet.runCount + 1) Config.runLimit }
  else s.outlet

/-- The timer of an expiry command has run out (log 2); true of a command that is no expiry. -/
def runOut (s : State) : Instr → Bool
  | .ringSilenceExpiry => timerDue s.link.silence
  | .confirmTimerExpiry ch => (confirmDue s ch.toNat).isSome
  | .refreshTimerExpiry ch => (refreshDue s ch.toNat).isSome
  | .ageTimer250 => ageReached Config.staleMs s
  | .ageTimer1000 => ageReached Config.lostMs s
  | .purgeTimerExpiry => timerDue s.line.purge
  | .settleTimerExpiry => timerDue s.line.settle && s.line.state == .heatup
  | .cooldownTimerExpiry => timerDue s.line.cooldown
  | .controlPeriod => timerDue s.line.control
  | .headTimerAfter => afterDue s
  | .soakComplete => soakDue s
  | .slowedDelayExpiry => slowedDue s
  | .readyTimeout => stallDue s
  | .ignitionTimerExpiry z => ignitionDue z s
  | .clearTimerExpiry => timerDue s.supervisor.clearTimer
  | .graceTimerExpiry z => timerDue (s.supervisor.grace.get z)
  | .supervisionInterval => timerDue s.supervisor.interval
  | _ => true

/-- A frame is sent, or its event found the insert queue full, which INSERT_LOSS counts until it stands at 255 (R14). -/
def SentOrLost (f : OwnFrame) (s t : State) : Prop :=
  Sends f t ∨ t.sat.insertLoss ≠ s.sat.insertLoss ∨ t.sat.insertLoss = 255

/-- A step's place in a plan: the exhaust, the fans, the zones, the grant and the chill steps of a RAISE or ADJUST plan (R109,
R111); the grant, the zones, the fans, the exhaust and the chill steps of a LOWER plan (R110); each kind by its index. -/
def stepPlace (lower : Bool) : StepKind → Nat
  | .setExhaust _ => if lower then 20 else 0
  | .setFan z _ => 10 + zoneNumber z
  | .setZone z _ _ _ => (if lower then 0 else 20) + zoneNumber z
  | .grant _ _ => if lower then 0 else 30
  | .queueChill c _ _ => 40 + circuitNumber c

/-- A list of steps holds a kind. -/
def Holds (l : List PlanStep) (k : StepKind) : Prop := ∃ t ∈ l, t.kind = k

/-- A GRANT step of the plan is WAITING. -/
def GrantWaits (p : Plan) : Prop := ∃ t ∈ p.steps, t.done = false ∧ ∃ v j, t.kind = .grant v j

/-- A step of a plan as it was built. -/
abbrev PlanStep.shape (t : PlanStep) : StepKind × Trigger := (t.kind, t.trigger)

/-- The conditions under which a FLAME lost starts its zone's grace (R173). -/
abbrev graceStarts (z : Zone) (s : State) : Prop :=
  s.present z = true ∧ (s.zones.get z).ignition = .proven ∧ s.line.state.permitClosed = true ∧
    0 < s.sentDemand (.burner z) ∧ s.supervisor.grace.get z = none

/-- The head step of a RUNNING plan, with its plan. -/
def HeadIs (p : Plan) (g : Trigger) (t : State) : Prop :=
  t.planner.plan = some p ∧ p.frozen = false ∧ ∃ x, p.steps[p.head]? = some x ∧ x.trigger = g

/-- The burner demand that R130's table gives a zone by its record as it stands, with the MIN_FIRE that acts: until the control
period after a write of it in HEATUP, READY or RUN, the one from before. -/
def dueBurner (z : Zone) (s : State) : Int :=
  let r := s.zones.get z
  let least : Nat := s.line.priorMinFire.getD s.params.minFire
  if s.line.state.controlled then
    if r.ignition = .igniting ∨ r.ignition = .proven then min 1000 (max (least : Int) (r.feedforward + r.trim)) else 0
  else if s.line.state = .brk then s.params.breakBurner else 0

/-- A circuit's record once a transit entry has set its setpoint, with the band status judged against it (R142, R145). -/
def landed (p : Params) (r : CircuitRec) (v : Int) : CircuitRec :=
  { r with
    setpoint := v
    band := match r.web.currentValue p with
      | none => .low
      | some w => if |w - v| ≤ p.bandWidth then .inBand else if v < w then .high else .low }

/-- An expiry falls due: its timer stands at its end (R18, R30, R37, R48, R79, R83, R87, R103 to R105, R107, R126, R134, R171,
R173, R180). -/
def fallsDue (t : State) : Instr → Prop
  | .ringSilenceExpiry => t.link.silence = some 0
  | .confirmTimerExpiry ch => ∃ e r, t.entry ch.toNat = some e ∧ e.level = some r ∧ r.timer = some 0
  | .refreshTimerExpiry ch => ∃ e d, t.entry ch.toNat = some e ∧ e.drive = some d ∧ d.refresh = 0
  | .ageTimer250 =>
    (t.tracker.state = .locked ∧ ∃ a, t.tracker.age = some a ∧ 250 ≤ a) ∨
      (t.tracker.state = .acquiring ∧ t.tracker.age = some 250)
  | .ageTimer1000 => t.tracker.state = .stale ∧ ∃ a, t.tracker.age = some a ∧ 1000 ≤ a
  | .purgeTimerExpiry => t.line.purge = some 0
  | .settleTimerExpiry => t.line.settle = some 0
  | .cooldownTimerExpiry => t.line.cooldown = some 0
  | .controlPeriod => t.line.control = some 0
  | .headTimerAfter => ∃ p d, HeadIs p (.after d) t ∧ 100 * d ≤ p.headTimer
  | .soakComplete => ∃ p soak c, HeadIs p (.whenReady soak) t ∧ p.clock = some c ∧ 100 * soak ≤ c
  | .slowedDelayExpiry => ∃ p v d c, HeadIs p (.whenSlowed v d) t ∧ p.clock = some c ∧ 100 * d ≤ c
  | .readyTimeout => ∃ p soak, HeadIs p (.whenReady soak) t ∧ p.readyLimit ≤ p.headTimer
  | .ignitionTimerExpiry z => (t.zones.get z).ignitionTimer = some 0 ∧ (t.zones.get z).ignition = .igniting
  | .clearTimerExpiry => t.supervisor.clearTimer = some 0
  | .graceTimerExpiry z => t.supervisor.grace.get z = some 0
  | .supervisionInterval => t.supervisor.interval = some 0
  | _ => False

/-- What both resets leave in the blocks whose values RETAIN does not bear on (R21, R42, R55, R122, R137, R150, R168, R186, R198;
chapters 4 and 5, "Values after reset"). -/
structure Fresh (t : State) : Prop where
  line : t.line.state = .cold ∧ t.line.mode = .none ∧ t.line.purge = none ∧ t.line.settle = none ∧ t.line.cooldown = none ∧
    t.line.priorMinFire = none
  presence : (∀ z, t.present z = false) ∧ ∀ c, t.circuitPresent c = false
  tracker : t.tracker =
    { state := .noSpeed, speed := 0, predecessor := none, count := 0, rejections := 0, age := none, lastPosition := none }
  commit : t.store.status = .none
  grant : t.planner.ceiling = 0 ∧ t.planner.grantRow = none ∧ t.planner.target = 0 ∧ t.planner.plan = none ∧
    t.planner.lastTag = 0 ∧ t.planner.overspeed = false
  inForce : t.planner.inForce.exhaust = 0 ∧ (∀ c, t.planner.inForce.chill.get c = 0) ∧
    ∀ z, t.planner.inForce.zones.get z = { fan := 0, air := 0, feedforward := 0, ramp := 0 }
  zones : ∀ z, t.zones.get z =
    { air := { reading := none, quality := .none, age := none }, lel := { reading := none, quality := .none, age := none },
      current := 0, target := 0, ramp := 1, feedforward := 0, trim := 0, burner := 0, band := .low, inBandTime := 0,
      ignition := .off, ignitionTimer := none }
  circuits : ∀ c, t.circuits.get c =
    { web := { reading := none, quality := .none, age := none }, setpoint := 0, valve := 0, band := .low }
  queues : t.transit = [] ∧ t.stack = [] ∧ t.outlet.queue = [] ∧ t.outlet.dest = .none ∧ t.outlet.owed = []
  supervisor : t.supervisor.reliefHeld = false ∧ t.supervisor.clearTimer = none ∧
    (∀ z, t.supervisor.flags.get z = { warn := false, trip := false, hot := false } ∧ t.supervisor.grace.get z = none) ∧
    t.supervisor.count = none ∧ t.supervisor.lastSeq = none ∧ t.supervisor.advanceRun = 0 ∧ t.supervisor.lost = false ∧
    t.supervisor.permit = false
  faults : t.faults.pending = 0 ∧ t.faults.taken = 0 ∧ t.faults.out = false
  counts : t.sat = ⟨0, 0, 0, 0, 0, 0, 0, 0⟩
  holds : t.holds = 0
  slot : t.agent.slot = .free

/-- The map and what RETAIN keeps, as power-on and a SOFT_RESET with RETAIN at 0 leave them: 128 entries of role NONE without
records, an empty table, every fault enabled, the parameters at their defaults (R42, R72, R184, R195). -/
structure Unconfigured (t : State) : Prop where
  channels : t.channels.length = 128 ∧ ∀ e ∈ t.channels, e =
    { role := .none, holdGroup := 0, activeHigh := true, confirmTime := 0, forward := [], level := none, drive := none }
  store : t.store.active = [] ∧ t.store.shadow = []
  enable : t.faults.enable = 0xFFFF
  params : t.params = .init

/-! ### At rest -/

/-- Every drive record follows its source, and its hold, and owes the ring nothing (R35, R36, R39 to R41). -/
def drivesFollow (s : State) : Bool :=
  s.channels.all fun e =>
    match e.drive with
    | none => true
    | some d => d.follow (demandSource s e.role) (s.underHold e) == d && !d.owed

/-- No commit is pending at a safe point (R66). -/
def storeSettled (s : State) : Bool := !(s.store.status == .pending && s.safePoint)

/-- No entry is pending and taken with its condition absent (R183), and the FAULT output follows (R184). -/
def faultsSettled (s : State) : Bool :=
  decide (s.faults.pending &&& s.faults.taken &&& ~~~ s.conditionMask = 0) && s.faults.out == s.faults.output

/-- The port is idle only with nothing to send (R16). -/
def portSettled (s : State) : Bool := s.outlet.port.isSome || (s.link.through.isEmpty && s.outlet.queue.isEmpty)

/-- No GRANT frame is owed behind the event's DEMAND frames (log 7). -/
def grantsPaid (s : State) : Bool := s.outlet.owed.isEmpty

/-- No work of an earlier event is left over. -/
def State.atRest (s : State) : Bool :=
  drivesFollow s && storeSettled s && faultsSettled s && portSettled s && grantsPaid s

/-- An ORDER is taken: it reaches the part at rest, its data fits a frame, and the reply slot is FREE (R187). -/
structure Taken (o : OrderFields) (s : State) : Prop where
  reaches : Reaches o.src o.dst s
  fits : o.data.length ≤ Config.dataLimit
  free : s.agent.slot = .free
  rest : s.atRest = true

/-- An order command is taken, and its REPLY will find room in the insert queue. -/
def TakenAlone (c : Instr) (s : State) : Prop :=
  ∃ o, orderFields c = some o ∧ Taken o s ∧ s.outlet.queue.length < Config.insertCapacity

/-- An order command is taken, from a source that write orders are open to. -/
def TakenWrite (c : Instr) (s : State) : Prop := ∃ o, orderFields c = some o ∧ Taken o s ∧ ManagerAdmits o.src s

/-- An order that changes nothing: its next state differs from the one before in the ring's counts, in the REPLY of data `d`
and in the reply slot alone. -/
def Reports (c : Instr) (d : List Byte) (s : State) : Prop :=
  ∃ o t, orderFields c = some o ∧ exec c s = .next t ∧ Answered o d s t ∧ OnlyChanges [.link, .outlet, .agent] s t ∧
    t.params = s.params

/-- An order that is carried out: its next state, with the frame counted, and its REPLY of data `d` sent or lost. -/
def Carries (c : Instr) (d : List Byte) (s t : State) : Prop :=
  ∃ o, orderFields c = some o ∧ exec c s = .next t ∧ t.link = (arrived s).link ∧
    SentOrLost (.reply (addrOf o.src) o.code o.tag d) s t

/-! ### Invariants -/

/-- What follows the line state: the permit (R74), the grant (R75, R98), the plan (R84), the line's timers (R78, R82, R87), the
context stack (R152, R165). -/
structure LineSound (s : State) : Prop where
  permit : s.supervisor.permit = s.line.state.permitClosed
  grant : s.planner.grantRow.isSome = s.line.state.granted
  ceiling : s.line.state.granted = false → s.planner.ceiling = 0
  plan : s.planner.plan.isSome = true → s.line.state = .run
  purge : s.line.purge.isSome = true → s.line.state = .purge
  settle : s.line.settle.isSome = true → s.line.state = .heatup
  cooldown : s.line.cooldown.isSome = true → s.line.state = .cooldown
  stack : s.stack ≠ [] → s.line.state.granted = true ∨ s.line.state = .brk

/-- The capacities of the queues (R11, R14, R16, R143, R151), of the map (R22), of the table's two copies (R56) and of a plan
(R101). -/
structure Bounded (s : State) : Prop where
  through : s.link.through.length ≤ Config.throughCapacity
  queue : s.outlet.queue.length ≤ Config.insertCapacity
  run : s.outlet.runCount ≤ Config.runLimit
  transit : s.transit.length ≤ Config.transitCapacity
  stack : s.stack.length ≤ Config.stackCapacity
  channels : s.channels.length = Config.channelCount
  active : s.store.active.length ≤ Config.tableCapacity
  shadow : s.store.shadow.length ≤ Config.tableCapacity
  plan : ∀ p, s.planner.plan = some p → p.steps.length ≤ 16

/-- Waiting frames with a key differ in it (R14). -/
abbrev keysDiffer (q : List OwnFrame) : Prop := (q.filterMap OwnFrame.key).Nodup

/-- No two context records have the same cause (R151). -/
abbrev causesDiffer (s : State) : Prop := (s.stack.map Context.cause).Nodup

/-- R19: RX_GOOD equals, modulo 256, the sum of the four ends and of the frames held. -/
abbrev goodConserved (s : State) : Prop :=
  s.link.wrap.rxGood =
    s.link.wrap.txThrough + s.link.wrap.rxConsumed + s.link.wrap.rxStripped + s.link.wrap.throughDrop +
      BitVec.ofNat 8 s.link.through.length

/-- A frame leaves as a through frame only from the buffer (R11). -/
abbrev throughHeld (s : State) : Prop := s.outlet.port = some .through → s.link.through ≠ []

/-- The steps of the plan before its head are DONE and the others WAITING, and the head is at most the step count (R101,
R106). -/
def planOrdered (s : State) : Prop :=
  ∀ p, s.planner.plan = some p →
    p.head ≤ p.steps.length ∧ ∀ i t, p.steps[i]? = some t → (t.done = true ↔ i < p.head)

/-- What keeps a plan within its capacity (R101, R163): it holds at most 12 steps; its exhaust steps carry its target row's
demand; and where the restore would append one, at most 11. -/
def planSized (s : State) : Prop :=
  ∀ p, s.planner.plan = some p →
    p.steps.length ≤ 12 ∧
      ∀ r, s.store.active[p.target]? = some r →
        (∀ t v, t ∈ p.steps → t.kind = .setExhaust v → v = r.exhaust) ∧
          (s.planner.inForce.exhaust ≠ r.exhaust → p.exhaustWaits = false → p.steps.length ≤ 11)

/-- A table is empty or satisfies V1 to V6 (R67). -/
def tableSound (crawl : Nat) (t : List Row) : Prop := t = [] ∨ tableFault crawl t = none

/-- The active table is sound, and so is a shadow copy whose commit is pending (R64, R67, R70). -/
structure StoreSound (s : State) : Prop where
  active : tableSound s.params.crawlSpeed s.store.active
  shadow : s.store.status = .pending → tableFault s.params.crawlSpeed s.store.shadow = none

/-- R98, with what it rests on: the ceiling never exceeds the band high of the grant row, READY has grant row 0, a table
stands from PURGE to BREAK, and a plan's WAITING GRANT step is for its target row and, with a request, for a speed within it. -/
structure GrantSound (s : State) : Prop where
  within : ∀ g, s.planner.grantRow = some g → ∃ r, s.store.active[g]? = some r ∧ s.planner.ceiling ≤ r.high
  ready : s.line.state = .ready → s.planner.grantRow = some 0
  table : s.line.state.presenceChecked = true → s.store.active ≠ []
  plan : ∀ p t v j, s.planner.plan = some p → t ∈ p.steps → t.done = false → t.kind = .grant v j →
    j = p.target ∧ (p.request.isSome = true → ∃ r, s.store.active[j]? = some r ∧ v ≤ r.high)

/-- Every parameter lies within its range, and LEL_TRIP at least 50 above LEL_WARN (R172, R195). -/
def paramsSound (p : Params) : Prop :=
  (∀ id lo hi, paramRange id = some (lo, hi) → lo ≤ p.get id ∧ p.get id ≤ hi) ∧ p.lelWarn + 50 ≤ p.lelTrip

end Sys2Proof.Machine
end

