-- ==== Sys2Proof/WellFormed.lean ====
section
/-! DEFINITION. When a command is one its row describes, by its operands alone. The machine gives every command a
meaning, well formed or not: a frame command whose operands belong to another row is handled as the frame it is (R6). -/

namespace Sys2Proof

/-- Kinds that the rows BEAT, READING, LEVEL and DEMAND have to themselves. -/
def Instr.ownRowKind (k : Machine.FrameKind) : Bool :=
  k == .beat || k == .reading || k == .level || k == .demand

/-- R188's table of order codes. -/
def knownOrderCode (code : Byte) : Bool :=
  decide (1 ≤ code.toNat) && decide (code.toNat ≤ 0x0A) ||
    decide (0x20 ≤ code.toNat) && decide (code.toNat ≤ 0x2A)

/-- R76's four line commands as data octets. -/
def lineCommandData (data : List Byte) : Bool :=
  match data with
  | [c] => decide (1 ≤ c.toNat) && decide (c.toNat ≤ 4)
  | _ => false

/-- A channel ID is 0 to 127 (chapter 2). -/
def channelId (ch : Byte) : Bool := decide (ch.toNat < Config.channelCount)

/-- An ORDER carries 0 to 48 data octets (R1). -/
def orderLength (data : List Byte) : Bool := decide (data.length ≤ Config.dataLimit)

/-- The check of one command's operands against its row. -/
def Instr.wellFormed : Instr → Bool
  | .resetAssert | .resetRelease _ | .bypassOpen => true
  | .checkError octets => !Machine.goodFrame octets
  | .strip octets => Machine.goodFrame octets
  | .throughFrame octets =>
    Machine.goodFrame octets && !Instr.ownRowKind (Machine.frameKind (Machine.octetAt octets 0))
  | .beat .. | .reading .. | .level .. | .demand .. | .ask .. => true
  | .txFrameDone | .ringSilenceExpiry => true
  | .confirmTimerExpiry ch | .refreshTimerExpiry ch => channelId ch
  | .ageTimer250 | .ageTimer1000 | .purgeTimerExpiry | .settleTimerExpiry | .cooldownTimerExpiry => true
  | .controlPeriod | .headTimerAfter | .soakComplete | .slowedDelayExpiry | .readyTimeout => true
  | .ignitionTimerExpiry _ | .clearTimerExpiry | .graceTimerExpiry _ | .supervisionInterval => true
  | .readStatus _ _ _ data | .readZone _ _ _ data | .readChill _ _ _ data | .readTransit _ _ _ data
  | .readPlan _ _ _ data | .readStack _ _ _ data | .readMap _ _ _ data | .readRow _ _ _ data
  | .readParam _ _ _ data | .readFaults _ _ _ data | .writeMap _ _ _ data | .writeRow _ _ _ data
  | .commit _ _ _ data | .withdraw _ _ _ data | .writeParam _ _ _ data | .setHold _ _ _ data
  | .setFaultEnable _ _ _ data | .faultTake _ _ _ data | .readCounts _ _ _ data
  | .softReset _ _ _ data => orderLength data
  | .start .. | .stop .. | .restart .. | .clearLockout .. => true
  | .unknownOrder code _ _ _ data => !knownOrderCode code && orderLength data
  | .lineBadCommand _ _ _ data => !lineCommandData data && orderLength data

end Sys2Proof
end

