-- ==== Sys2Proof/Certificates/Slice0/Obligations.lean ====
section
/-! DEFINITION. The statements for the provers, in the order of the spec's chapters. `s.atRest` says that no work of an
earlier event is left over (Safety.lean); reset has it and every step keeps it, as two of the statements say. -/

open Sys2Proof Sys2Proof.Machine

/-! ### The queue and the clock -/

/-- A step runs the command at the front of the queue on the queue's rest (log 6). -/
def Obligations.StepRunsFrontCommand : Prop :=
  ∀ (c : Instr) (q : List Instr) (s : State), step (s.withPending (c :: q)) = exec c (s.withPending q)

/-- Every command in every state answers a next state, and leaves the queue of commands and the model's free counter. That an
expiry that is not due, or a frame that cannot occur in the state, answers one with nothing changed (logs 2 and 19), and the
queue and the counter themselves (logs 3, 6 and 27), are the model's choices, not rules of the spec. -/
def Obligations.EveryCommandCompletes : Prop :=
  ∀ (c : Instr) (s : State), ∃ t, exec c s = .next t ∧ t.pending = s.pending ∧ t.freeCount = s.freeCount

/-- On an empty queue a millisecond passes (logs 1 to 3: the model's choice): every running timer loses a millisecond and every
running age gains one, the times of a FROZEN plan stand (R103 to R105), and nothing else of the part changes. The expiries whose
timers then stand at their end join the queue, each once, in an order the model leaves free (log 3), and no other command does. An
expiry command whose timer has not run out changes nothing (log 2: the model's choice). -/
def Obligations.EmptyQueuePassesMillisecond : Prop :=
  (∀ s : State, s.pending = [] →
    let less (x : Timer) : Timer := x.map (· - 1)
    let more (x : Age) : Age := x.map (· + 1)
    let aged (x : Sensor) : Sensor := { x with age := more x.age }
    ∃ t, step s = .next t ∧
      OnlyChanges [.link, .channels, .tracker, .line, .planner, .zones, .circuits, .supervisor, .freeCount, .pending] s t ∧
      t.link = { s.link with silence := less s.link.silence } ∧
      t.channels = s.channels.map (fun e =>
        { e with
          level := e.level.map fun r => { r with timer := less r.timer }
          drive := e.drive.map fun d => { d with refresh := d.refresh - 1 } }) ∧
      t.tracker = { s.tracker with age := more s.tracker.age } ∧
      t.line = { s.line with
        purge := less s.line.purge, settle := less s.line.settle, cooldown := less s.line.cooldown
        control := less s.line.control } ∧
      t.planner = { s.planner with
        plan := s.planner.plan.map fun p =>
          if p.frozen then p else { p with headTimer := p.headTimer + 1, clock := p.clock.map (· + 1) } } ∧
      (∀ z, t.zones.get z =
        { s.zones.get z with
          air := aged (s.zones.get z).air, lel := aged (s.zones.get z).lel
          ignitionTimer := less (s.zones.get z).ignitionTimer }) ∧
      (∀ k, t.circuits.get k = { s.circuits.get k with web := aged (s.circuits.get k).web }) ∧
      t.supervisor = { s.supervisor with
        clearTimer := less s.supervisor.clearTimer, grace := t.supervisor.grace, interval := less s.supervisor.interval } ∧
      (∀ z, t.supervisor.grace.get z = less (s.supervisor.grace.get z)) ∧
      t.pending.Perm (dueExpiries (advanceTimers s)) ∧
      (s.channels.length = 128 → t.pending.Nodup ∧ ∀ c, c ∈ t.pending ↔ fallsDue t c)) ∧
    ∀ (c : Instr) (s : State), runOut s c = false → exec c s = .next s

/-! ### Reset and the ring -/

/-- RESET: its assertion loses all state (R5; the values while it lasts log 23); its release samples the straps and starts
every block from its power-on values (R4, R21, R42, R55, R72, R96, R122, R137, R150, R168, R186, R195, R198), with both timers for
a valid address and with none for 0 and 63. -/
def Obligations.ResetStartsFromPowerOn : Prop :=
  (∀ s : State, ∃ t, exec .resetAssert s = .next t ∧ t.link.phase = .asserted ∧ t.supervisor.permit = false ∧
      t.faults.out = false ∧ t.link.through = [] ∧ t.outlet.queue = [] ∧ t.outlet.port = none ∧ Fresh t ∧
      Unconfigured t) ∧
    ∀ (a : Addr) (s : State), s.link.phase = .asserted →
      ∃ t, exec (.resetRelease a) s = .next t ∧ Fresh t ∧ Unconfigured t ∧ t.link.own = a ∧ t.link.through = [] ∧
        t.link.wrap = ⟨0, 0, 0, 0, 0, 0⟩ ∧ t.link.silence = none ∧ t.link.ringSilent = false ∧ t.outlet.port = none ∧
        t.outlet.runCount = 0 ∧ t.pending = s.pending ∧
        (1 ≤ a.toNat → a.toNat ≤ 62 →
          t.link.phase = .waitingGap ∧ t.line.control = some 200 ∧ t.supervisor.interval = some 10) ∧
        (a.toNat = 0 ∨ a.toNat = 63 → t.link.phase = .inert ∧ t.line.control = none ∧ t.supervisor.interval = none)

/-- At the first gap after a release with a valid address the part takes its place on the ring and the ring silence timer
starts (R4, R18); in every other condition BYPASS_OPEN changes nothing, and no frame reaches a part whose bypass switch is
closed (R4, R5; log 19). At the ring silence timer's expiry RING_SILENT is set, and nothing else changes (R18). -/
def Obligations.RingOpensAndFallsSilent : Prop :=
  (∀ s : State, s.link.phase = .waitingGap →
    exec .bypassOpen s = .next (s.withLink { s.link with phase := .joined, silence := some 50 })) ∧
    (∀ s : State, s.link.phase ≠ .waitingGap → exec .bypassOpen s = .next s) ∧
    (∀ (c : Instr) (o : List Byte) (s : State), frameOf c = some o → ¬ s.onRing → exec c s = .next s) ∧
    ∀ s : State, s.link.silence = some 0 → s.atRest = true →
      exec .ringSilenceExpiry s = .next (s.withLink { s.link with silence := none, ringSilent := true })

/-- Every well-formed frame command but CHECK_ERROR spells a good frame (R1 to R3), and CHECK_ERROR does not. -/
def Obligations.FrameCommandsSpellGoodFrames : Prop :=
  ∀ (c : Instr) (o : List Byte), frameOf c = some o → c.wellFormed = true →
    goodFrame o = !(match c with | .checkError _ => true | _ => false)

/-- A check error is discarded: RX_CHECK_ERR counts it and at the step from 254 to 255 RING_CHECK is raised; nothing else
changes (R3, R19, R20, R183, R184). -/
def Obligations.CheckErrorsAreDiscarded : Prop :=
  ∀ (c : Instr) (o : List Byte) (s : State), frameOf c = some o → s.onRing → goodFrame o = false → s.atRest = true →
    ∃ t, exec c s = .next t ∧ OnlyChanges [.sat, .faults] s t ∧
      t.sat = { s.sat with rxCheckErr := if s.sat.rxCheckErr = 255 then 255 else s.sat.rxCheckErr + 1 } ∧
      (s.sat.rxCheckErr ≠ 254 → t.faults = s.faults) ∧
      (s.sat.rxCheckErr = 254 →
        t.faults.pending = s.faults.pending ||| 0x8000 ∧ t.faults.taken = s.faults.taken &&& ~~~ 0x8000 ∧
          t.faults.enable = s.faults.enable)

/-- R7: a good frame from the part's own address is counted and removed, and nothing else happens; as every good frame it
restarts the ring silence timer and is counted in RX_GOOD (R6). -/
def Obligations.OwnFramesAreStripped : Prop :=
  ∀ (c : Instr) (o : List Byte) (s : State), frameOf c = some o → s.onRing → goodFrame o = true → s.atRest = true →
    addrOf (octetAt o 1) = s.link.own →
      exec c s = .next (s.withLink
        { s.link with
          silence := some 50, ringSilent := false
          wrap := { s.link.wrap with rxGood := s.link.wrap.rxGood + 1, rxStripped := s.link.wrap.rxStripped + 1 } })

/-- A good frame of another station that is neither consumed, copied nor a DEMAND goes untouched to the through buffer's
tail, or is dropped where the buffer holds 8; nothing else changes (R6, R11, R16). -/
def Obligations.OtherFramesPassUntouched : Prop :=
  ∀ (c : Instr) (o : List Byte) (s : State), frameOf c = some o → s.onRing → goodFrame o = true → s.atRest = true →
    frameEnd s.link.own o = .passed → Instr.ownRowKind (frameKind (octetAt o 0)) = false →
      exec c s = .next ((s.withLink (linkAfter ⟨o, none⟩ s)).withOutlet (outletAfter s))

/-- A DEMAND on a channel with a drive record leaves with the part's sent demand and origin SUBSTITUTED, which restarts the
refresh timer; on another channel it passes untouched; a DEMAND that finds the through buffer full is dropped, and no refresh
timer restarts (R6, R10, R11, R37). -/
def Obligations.DemandsCarryThePartsDemand : Prop :=
  ∀ (src dst ch : Byte) (value : Half) (aux : Byte) (s : State), Passes src s → s.atRest = true →
    let untouched : ThroughFrame := ⟨fixedFrame kindDemand src dst ch value aux, none⟩
    ((∀ e d, s.entry ch.toNat = some e → e.drive = some d →
        s.link.through.length < Config.throughCapacity →
          let f : ThroughFrame :=
            ⟨fixedFrame kindDemand src dst ch (BitVec.ofInt 16 d.sent) 1, some (ch.toNat, d.sent)⟩
          exec (.demand src dst ch value aux) s = .next
            (((s.withEntry ch.toNat { e with drive := some { d with refresh := 500 } }).withLink (linkAfter f s)).withOutlet
              (outletAfter s))) ∧
      ((s.entry ch.toNat).bind Entry.drive = none ∨ Config.throughCapacity ≤ s.link.through.length →
        exec (.demand src dst ch value aux) s = .next
          ((s.withLink (linkAfter untouched s)).withOutlet (outletAfter s))))

/-- At TX_FRAME_DONE the frame in transmission is counted and the port is free for the arbiter's next decision: a through
frame leaves the buffer, and a substituted DEMAND that no longer carries the sent demand is followed by a correcting one; an
inserted frame that is not the REPLY of a SOFT_RESET that waits for it is counted alone; an idle port has nothing to end (R11,
R15, R16, R38; the last is the model's reading, log 19, and so is that the arbiter decides once the correcting DEMAND is inserted,
log 8). -/
def Obligations.TransmissionsEnd : Prop :=
  ∀ s : State, s.atRest = true →
    let free := s.withOutlet { s.outlet with port := none }
    let left := free.withLink
      { s.link with
        through := s.link.through.tail, wrap := { s.link.wrap with txThrough := s.link.wrap.txThrough + 1 } }
    (s.outlet.port = none → exec .txFrameDone s = .next s) ∧
    (∀ f, s.outlet.port = some (.inserted f) → f.isResetReply = false ∨ s.agent.slot ≠ .resetPending →
      exec .txFrameDone s = .next (arbitrate (free.withLink
        { s.link with wrap := { s.link.wrap with txInserted := s.link.wrap.txInserted + 1 } }))) ∧
    (s.outlet.port = some .through →
      (s.link.through.head?.bind ThroughFrame.subst) = none ∨
          (∃ ch v, (s.link.through.head?.bind ThroughFrame.subst) = some (ch, v) ∧
            (s.entry ch).bind Entry.drive = none) →
        exec .txFrameDone s = .next (arbitrate left)) ∧
    (∀ ch v e d, s.outlet.port = some .through → (s.link.through.head?.bind ThroughFrame.subst) = some (ch, v) →
      s.entry ch = some e → e.drive = some d →
        exec .txFrameDone s = .next (arbitrate
          (if d.sent = v then left
            else insertFrame (.demand ch d.sent)
              (left.withEntry ch { e with drive := some { d with refresh := 500 } }))))

/-- The arbiter's choice while the port is free, row by row of R16's table. -/
def Obligations.ArbiterChoosesByTable : Prop :=
  ∀ s : State, s.outlet.port = none →
    let t := arbitrate s
    (s.link.through = [] → s.outlet.queue = [] → t = s) ∧
    (∀ f q, s.outlet.queue = f :: q →
      (s.link.through = [] ∨ (f :: q).length ≤ 7 ∧ 4 ≤ s.outlet.runCount ∨
          8 ≤ (f :: q).length ∧ 1 ≤ s.outlet.runCount) →
        t.outlet.port = some (.inserted f) ∧ t.outlet.queue = q ∧ t.outlet.runCount = 0) ∧
    (s.link.through ≠ [] →
      (s.outlet.queue = [] ∨ s.outlet.queue.length ≤ 7 ∧ s.outlet.runCount ≤ 3 ∨
          8 ≤ s.outlet.queue.length ∧ s.outlet.runCount = 0) →
        t.outlet.port = some .through ∧ t.outlet.queue = s.outlet.queue ∧ t.link.through = s.link.through ∧
          t.outlet.runCount = min (s.outlet.runCount + 1) 4)

/-- A block's insertion (R14): a waiting frame of the same key is replaced in place; any other frame joins the tail of a
queue of fewer than 32; elsewhere it is lost and INSERT_LOSS counts it. -/
def Obligations.InsertionsReplaceOrJoin : Prop :=
  ∀ (f : OwnFrame) (s : State),
    (∀ p g q, s.outlet.queue = p ++ g :: q → f.key ≠ none → g.key = f.key → (∀ x ∈ p, x.key ≠ f.key) →
      insertFrame f s = s.withOutlet { s.outlet with queue := p ++ f :: q }) ∧
    (f.key = none ∨ (∀ x ∈ s.outlet.queue, x.key ≠ f.key) →
      (s.outlet.queue.length < 32 → insertFrame f s = s.withOutlet { s.outlet with queue := s.outlet.queue ++ [f] }) ∧
      (32 ≤ s.outlet.queue.length →
        insertFrame f s = s.withSat
          { s.sat with insertLoss := if s.sat.insertLoss = 255 then 255 else s.sat.insertLoss + 1 }))

/-- R19: RX_GOOD equals, modulo 256, the sum of TX_THROUGH, RX_CONSUMED, RX_STRIPPED, THROUGH_DROP and the frames in the
through buffer, and every step keeps it so; a frame leaves as a through frame only from the buffer (R11). -/
def Obligations.GoodFramesAreConserved : Prop :=
  ∀ s t : State, goodConserved s → throughHeld s → step s = .next t → goodConserved t ∧ throughHeld t

/-! ### Channels, levels and demands -/

/-- A LEVEL frame on a channel with a level record moves that record as R29 and R30 say, and leaves the entry's other fields
but its drive record alone. -/
def Obligations.LevelsMoveTheRecord : Prop :=
  ∀ (src dst ch : Byte) (value : Half) (aux : Byte) (s : State) (e : Entry) (r : LevelRec),
    Passes src s → aux.toNat ≤ 1 → s.entry ch.toNat = some e → e.role.roleClass = .level → e.level = some r →
    let seen := aux == 1
    let points : Confirmed := if seen = e.activeHigh then .active else .inactive
    let quiet := r.confirmed = .unknown ∧ points = .inactive
    ∃ t e' r', exec (.level src dst ch value aux) s = .next t ∧ t.entry ch.toNat = some e' ∧
      e' = { e with level := some r', drive := e'.drive } ∧
      (r.raw = some seen → r' = r) ∧
      (r.raw ≠ some seen → points = r.confirmed → r' = { raw := some seen, confirmed := r.confirmed, timer := none }) ∧
      (r.raw ≠ some seen → points ≠ r.confirmed → quiet ∨ e.confirmTime = 0 →
        r' = { raw := some seen, confirmed := points, timer := none }) ∧
      (r.raw ≠ some seen → points ≠ r.confirmed → ¬ quiet → e.confirmTime ≠ 0 →
        r' = { raw := some seen, confirmed := r.confirmed, timer := some e.confirmTime })

/-- When a confirm timer expires, the confirmed state becomes the one the raw level points to (R29, R30); on a FORWARD
channel a confirmed transition is forwarded, one LEVEL for each channel of the forward set in its order, and nothing else
changes (R31, R33). A confirmed transition on another channel is reported to the blocks of its role (R31). A BREAK going ACTIVE
raises WEB_BREAK; in READY and RUN the line enters BREAK, with a BREAK record on top of the stack, no plan, no transit entry, no
grant and a GRANT HELD, and elsewhere nothing else changes (R89, R90, R91). A FLAME going INACTIVE starts its zone's grace under
R173's conditions, or trips at once where FLAME_GRACE is 0; going ACTIVE it ends the grace, proves an IGNITING zone, whose burner
demand, standing as R130 gives it, keeps its value also where a written MIN_FIRE waits for its control period (R133), and trips
where the permit is open (R174). An AIRFLOW going INACTIVE in a present zone trips where the permit is closed and raises its
entry alone in COOLDOWN (R175); in PURGE every AIRFLOW transition is followed by the purge test (R79). -/
def Obligations.ConfirmTimersSettleTheLevel : Prop :=
  ∀ (ch : Byte) (s : State) (e : Entry) (r : LevelRec) (raw : Bool),
    s.entry ch.toNat = some e → e.level = some r → r.timer = some 0 → r.raw = some raw →
    let points : Confirmed := if raw = e.activeHigh then .active else .inactive
    let k := s.planner
    ∃ t e', exec (.confirmTimerExpiry ch) s = .next t ∧ t.entry ch.toNat = some e' ∧
      e'.level = some { raw := some raw, confirmed := points, timer := none } ∧
      (e.role = .forward → s.atRest = true → s.outlet.port ≠ none → s.outlet.queue.length + e.forward.length ≤ 32 →
        OnlyChanges [.channels, .outlet] s t ∧
          ((points = r.confirmed ∨ r.confirmed = .unknown ∧ points = .inactive) → t.outlet = s.outlet) ∧
          (points ≠ r.confirmed → ¬ (r.confirmed = .unknown ∧ points = .inactive) →
            t.outlet =
              { s.outlet with
                queue := s.outlet.queue ++ e.forward.map fun target => OwnFrame.level target (points == .active) })) ∧
      (s.atRest = true → ∀ d, e.role = .brk d → points = .active → r.confirmed ≠ .active →
        t.faults.pending &&& FaultCode.webBreak.bit ≠ 0 ∧
        (s.line.state.granted = false → t.line = s.line ∧ t.planner = k ∧ t.stack = s.stack ∧ t.supervisor = s.supervisor) ∧
        (s.line.state.granted = true →
          t.line = { s.line with state := .brk, purge := none, settle := none, cooldown := none } ∧
          t.supervisor = { s.supervisor with permit := true } ∧ t.transit = [] ∧ t.store = s.store ∧ t.params = s.params ∧
          t.planner = { k with plan := none, grantRow := none, ceiling := 0 } ∧
          SentOrLost (.grant s.outlet.dest.address k.lastTag 0 .held) s t ∧
          ((∀ x ∈ s.stack, x.cause ≠ .brk) → s.stack.length < 4 →
            t.stack =
              { cause := .brk, cleared := false, ceiling := k.ceiling, grantRow := k.grantRow.getD 0, target := k.target,
                request := k.plan.bind Plan.request, planFrozen := false } :: s.stack))) ∧
      (s.atRest = true → ∀ z, e.role = .flame z → points = .inactive → r.confirmed = .active →
        (¬ graceStarts z s → t.supervisor = s.supervisor ∧ t.line = s.line) ∧
        (graceStarts z s → s.params.flameGrace ≠ 0 → t.line = s.line ∧
          t.supervisor = { s.supervisor with grace := s.supervisor.grace.set z (some s.params.flameGrace) }) ∧
        (graceStarts z s → s.params.flameGrace = 0 →
          t.line.state = .lockout ∧ t.faults.pending &&& FaultCode.flameFail.bit ≠ 0)) ∧
      (s.atRest = true → ∀ z, e.role = .flame z → points = .active → r.confirmed ≠ .active →
        t.supervisor.grace.get z = none ∧
        (s.line.state.permitClosed = true → t.line = s.line ∧
          t.supervisor = { s.supervisor with grace := s.supervisor.grace.set z none } ∧
          ((s.zones.get z).ignition = .igniting →
            (t.zones.get z).ignition = .proven ∧ (t.zones.get z).ignitionTimer = none ∧
            ((s.zones.get z).burner = dueBurner z s → (t.zones.get z).burner = (s.zones.get z).burner))) ∧
        (s.line.state.permitClosed = false → t.faults.pending &&& FaultCode.flameUnexpected.bit ≠ 0 ∧
          (s.line.state = .purge ∨ s.line.state = .cooldown → t.line.state = .lockout) ∧
          (s.line.state = .cold ∨ s.line.state = .lockout → t.line = s.line))) ∧
      (s.atRest = true → ∀ z, e.role = .airflow z → points ≠ r.confirmed →
        ¬ (r.confirmed = .unknown ∧ points = .inactive) →
        (points = .active ∨ s.present z = false → t.supervisor = s.supervisor ∧ t.line.state = s.line.state) ∧
        (points = .inactive → s.present z = true →
          (s.line.state.permitClosed = true ∨ s.line.state = .cooldown →
            t.faults.pending &&& FaultCode.airflowLoss.bit ≠ 0) ∧
          (s.line.state.permitClosed = true → t.line.state = .lockout) ∧
          (s.line.state = .cooldown → t.line = s.line) ∧
          (s.line.state = .cold ∨ s.line.state = .purge ∨ s.line.state = .lockout →
            t.faults = s.faults ∧ t.line.state = s.line.state)) ∧
        (s.line.state = .purge →
          ((∀ y, s.present y = true → t.confirmedOf (.airflow y) = some .active) →
            t.line.purge = some (s.line.purge.getD (1000 * s.params.purgeTime))) ∧
          ((∃ y, s.present y = true ∧ t.confirmedOf (.airflow y) ≠ some .active) → t.line.purge = none)))

/-- When a refresh timer expires, the drive stage sends the channel's sent demand again and the timer restarts; nothing else
changes (R37). -/
def Obligations.RefreshesRepeatTheSentDemand : Prop :=
  ∀ (ch : Byte) (s : State) (e : Entry) (d : DriveRec),
    s.entry ch.toNat = some e → e.drive = some d → d.refresh = 0 → s.atRest = true →
    ∃ t, exec (.refreshTimerExpiry ch) s = .next t ∧ OnlyChanges [.channels, .outlet, .sat] s t ∧
      t.channels = s.channels.set ch.toNat { e with drive := some { d with refresh := 500 } } ∧
      SentOrLost (.demand ch.toNat d.sent) s t

/-- At rest every computed demand is the one R35's table gives for the role, the line state and the presence set, and a
channel that is not under hold carries it; so a burner carries 0 wherever the permit is open (R35, R36, R74). -/
def Obligations.DemandsFollowTheirSource : Prop :=
  ∀ (s : State) (e : Entry) (d : DriveRec), s.atRest = true → e ∈ s.channels → e.drive = some d →
    (s.underHold e = false → d.sent = d.computed ∧ d.held = none) ∧
    (∀ z, e.role = .burner z →
      (s.line.state.permitClosed = false → d.computed = 0 ∧ d.sent = 0) ∧
      (s.present z = false → d.computed = 0) ∧
      (s.present z = true → s.line.state = .brk → d.computed = s.params.breakBurner) ∧
      (s.present z = true → s.line.state.controlled = true → d.computed = (s.zones.get z).burner)) ∧
    (∀ z, e.role = .fan z →
      (s.line.state = .cold → d.computed = 0) ∧
      (s.line.state = .purge ∨ s.line.state = .lockout → d.computed = 1000) ∧
      (s.line.state = .brk → d.computed = s.params.breakFan) ∧
      (s.line.state = .cooldown → d.computed = s.params.coolFan) ∧
      (s.line.state.controlled = true →
        d.computed = if s.present z then (s.planner.inForce.zones.get z).fan else 0)) ∧
    (e.role = .exhaust →
      (s.line.state = .cold → d.computed = 0) ∧
      (s.line.state = .purge ∨ s.line.state = .brk ∨ s.line.state = .lockout → d.computed = 1000) ∧
      (s.line.state = .cooldown → d.computed = s.params.coolFan) ∧
      (s.line.state.controlled = true → d.computed = s.planner.inForce.exhaust)) ∧
    (∀ c, e.role = .chillValve c →
      (s.line.state = .cold ∨ s.line.state = .purge ∨ s.line.state = .cooldown → d.computed = 0) ∧
      (s.line.state = .brk ∨ s.line.state = .lockout → d.computed = s.params.breakValve) ∧
      (s.line.state.controlled = true →
        d.computed = if s.circuitPresent c then (s.circuits.get c).valve else 0))

/-- R41's last sentence: while a channel stays under hold, the demand the part sends on it does not change, whatever command
runs. -/
def Obligations.HeldDemandsStand : Prop :=
  ∀ (c : Instr) (s t : State) (ch : Nat) (e e' : Entry) (d d' : DriveRec), s.atRest = true → exec c s = .next t →
    s.entry ch = some e → e.drive = some d → s.underHold e = true →
    t.entry ch = some e' → e'.drive = some d' → t.underHold e' = true → d'.sent = d.sent

/-- Every step leaves the part at rest: every drive record follows its source and its hold, no commit is left pending at a
safe point, no taken entry is left pending with its condition gone, the FAULT output is asserted exactly when an entry is
pending and enabled, the port is idle only with nothing to send, and no frame of the event is left unsent (log 7) (R35, R36, R66, R183, R184, R16). -/
def Obligations.StepsEndAtRest : Prop :=
  ∀ s t : State, s.atRest = true → step s = .next t → t.atRest = true

/-! ### Web speed and position -/

/-- A GOOD speed reading: acquisition in NO_SPEED, LOST and ACQUIRING (R45, R46), comparison in LOCKED and STALE (R47). A
SUSPECT reading, or one out of range, which is handled as SUSPECT, empties the count of an acquisition and changes nothing
else of the record (R44). With a sound table (R67), a reading taken in LOCKED is tested for a band crossing where READY or RUN
stands, no plan, and no SPLICE or SPEED_LOST record on top (R50, R117): within the target row's band it clears the overspeed
flag; above it OVERSPEED is raised, once while the target row is the one chosen, and elsewhere an ADJUST plan toward the row
chosen under R63 follows the web with ceiling and grant row left (R118); below it, in RUN, a LOWER plan toward that row bounds
them, with a GRANT HELD (R110, R113), and a plan toward row 0 that runs through at once ends in READY (R85). In READY an ADJUST
plan takes the line into RUN (R84). -/
def Obligations.SpeedReadingsMoveTheTracker : Prop :=
  ∀ (src dst ch : Byte) (value : Half) (quality : Byte) (s : State),
    Passes src s → HoldsRole ch .speed s → quality.toNat ≤ 1 →
    let v := value.toInt
    let k := s.tracker
    let good := quality = 0 ∧ 0 ≤ v ∧ v ≤ 1200
    let agrees := ∃ p, k.predecessor = some p ∧ |v - p| ≤ max 5 (p * 2 / 100)
    let taken := |v - k.speed| ≤ max 20 (k.speed * 10 / 100)
    let unusable := k.state = .noSpeed ∨ k.state = .lost
    let usable := k.state = .locked ∨ k.state = .stale
    ∃ t, exec (.reading src dst ch value quality) s = .next t ∧
      (good → unusable → t.tracker =
        { k with state := .acquiring, count := 1, predecessor := some v, rejections := 0, age := some 0 }) ∧
      (good → k.state = .acquiring → ¬ agrees → t.tracker = { k with count := 1, predecessor := some v, age := some 0 }) ∧
      (good → k.state = .acquiring → agrees → k.count ≠ 3 →
        t.tracker = { k with count := k.count + 1, predecessor := some v, age := some 0 }) ∧
      (good → k.state = .acquiring → agrees → k.count = 3 → t.tracker =
        { k with state := .locked, speed := v, predecessor := none, count := 0, rejections := 0, age := some 0 }) ∧
      (good → usable → taken → t.tracker = { k with state := .locked, speed := v, rejections := 0, age := some 0 }) ∧
      (good → usable → ¬ taken → k.rejections ≠ 2 → t.tracker = { k with rejections := k.rejections + 1 }) ∧
      (good → usable → ¬ taken → k.rejections = 2 → t.tracker =
        { k with state := .acquiring, count := 1, predecessor := some v, rejections := 0, age := some 0 }) ∧
      (¬ good → k.state = .acquiring → t.tracker = { k with count := 0, predecessor := none }) ∧
      (¬ good → k.state ≠ .acquiring → t.tracker = k) ∧
      (good → k.state = .locked → taken → s.atRest = true → StoreSound s → s.line.state.granted = true →
        s.planner.plan = none →
        (∀ x rest, s.stack = x :: rest → x.cause ≠ .splice ∧ x.cause ≠ .speedLost) →
        ∀ a j b, s.store.active[min s.planner.target (s.store.active.length - 1)]? = some a →
          rowForSpeed s.store.active s.planner.target v = some j → s.store.active[j]? = some b →
          let c := s.planner.ceiling
          let granting := b.high < c ∨ j < s.planner.grantRow.getD 0
          (a.low ≤ v → v ≤ a.high → t.planner = { s.planner with overspeed := false } ∧ t.line = s.line) ∧
          (a.high < v → j = s.planner.target →
            t.planner = { s.planner with overspeed := true } ∧ t.line = s.line ∧
              (s.planner.overspeed = false → t.faults.pending &&& FaultCode.overspeed.bit ≠ 0)) ∧
          (a.high < v → j ≠ s.planner.target → t.faults.pending &&& FaultCode.overspeed.bit ≠ 0 ∧ t.planner.target = j ∧
            (t.planner.plan ≠ none ∨ j ≠ 0 →
              t.line.state = .run ∧ t.planner.ceiling = c ∧ t.planner.grantRow = s.planner.grantRow) ∧
            ∀ p, t.planner.plan = some p → p.origin = .crossing ∧ p.ordering = .adjust ∧ p.request = none ∧ p.target = j ∧
              p.steps.map PlanStep.shape = (adjustSteps s j b).map PlanStep.shape) ∧
          (v < a.low → s.line.state = .run → t.planner.target = j ∧
            (t.planner.plan ≠ none ∨ j ≠ 0 →
              t.line.state = .run ∧ t.planner.ceiling = min c b.high ∧
              t.planner.grantRow = (if granting then some (min (s.planner.grantRow.getD j) j) else s.planner.grantRow) ∧
              (granting → SentOrLost (.grant s.outlet.dest.address s.planner.lastTag (min c b.high) .held) s t)) ∧
            (t.planner.plan = none → j = 0 →
              t.line.state = .ready ∧ t.planner.grantRow = some 0 ∧
              t.planner.ceiling =
                if s.stack = [] then (s.params.crawlSpeed : Int) else min s.params.crawlSpeed (min c b.high)) ∧
            ∀ p, t.planner.plan = some p → p.origin = .crossing ∧ p.ordering = .lower ∧ p.request = none ∧ p.target = j ∧
              p.steps.map PlanStep.shape =
                (lowerSteps s j b (min c b.high) (decide granting)).map PlanStep.shape))

/-- R49: a FAILED reading on the SPEED channel moves the tracker to LOST from any state and stops the age timer; the speed
keeps its value. In LOST the record is left as it is. In RUN the loss of a usable speed raises SPEED_LOST (R51). -/
def Obligations.FailedSpeedReadingsLoseTheSpeed : Prop :=
  ∀ (src dst ch : Byte) (value : Half) (s : State), Passes src s → HoldsRole ch .speed s →
    ∃ t, exec (.reading src dst ch value 2) s = .next t ∧
      (s.tracker.state = .lost → t.tracker = s.tracker) ∧
      (s.tracker.state ≠ .lost → t.tracker =
        { s.tracker with state := .lost, count := 0, predecessor := none, rejections := 0, age := none }) ∧
      (s.usableSpeed ≠ none → s.line.state = .run → t.faults.pending &&& FaultCode.speedLost.bit ≠ 0)

/-- The marks of the tracker's age timer (R48). -/
def Obligations.AgeMarksStaleAndLoseTheSpeed : Prop :=
  ∀ (s : State) (a : Nat), s.tracker.age = some a →
    (250 ≤ a → ∃ t, exec .ageTimer250 s = .next t ∧
      (s.tracker.state = .acquiring → t.tracker = { s.tracker with count := 0, predecessor := none }) ∧
      (s.tracker.state = .locked → t.tracker = { s.tracker with state := .stale }) ∧
      (s.tracker.state ≠ .acquiring → s.tracker.state ≠ .locked → t.tracker = s.tracker)) ∧
    (1000 ≤ a → ∃ t, exec .ageTimer1000 s = .next t ∧
      (s.tracker.state = .stale → t.tracker = { s.tracker with state := .lost, rejections := 0, age := none }) ∧
      (s.tracker.state = .stale → s.line.state = .run → t.faults.pending &&& FaultCode.speedLost.bit ≠ 0) ∧
      (s.tracker.state ≠ .stale → t.tracker = s.tracker))

/-- A position reading (R53, R54): a GOOD one becomes the last count; the advance from the one before, modulo 65536, is
passed to the transit line if the speed is usable and the advance at most 32767, and rejected above that. The entries whose
distance it runs out mature: a present circuit takes the setpoint of the last of them that names it, with its band status judged
(R142, R145). A SUSPECT or FAILED reading changes nothing but the ring. -/
def Obligations.PositionReadingsMeasureTravel : Prop :=
  ∀ (src dst ch : Byte) (value : Half) (quality : Byte) (s : State),
    Passes src s → s.atRest = true → HoldsRole ch .position s → quality.toNat ≤ 2 →
    let n := value.toNat
    ∃ t, exec (.reading src dst ch value quality) s = .next t ∧
      (quality ≠ 0 → OnlyChanges [.link, .outlet] s t) ∧
      (quality = 0 →
        t.tracker = { s.tracker with lastPosition := some n } ∧
        (s.tracker.lastPosition = none → OnlyChanges [.link, .outlet, .tracker] s t) ∧
        (∀ last, s.tracker.lastPosition = some last → last < 65536 →
          let advance := if last ≤ n then n - last else n + 65536 - last
          (advance = 0 ∨ advance ≤ 32767 ∧ s.usableSpeed = none → OnlyChanges [.link, .outlet, .tracker] s t) ∧
          (1 ≤ advance → advance ≤ 32767 → s.usableSpeed ≠ none →
            OnlyChanges [.link, .outlet, .tracker, .transit, .circuits] s t ∧
              t.transit = (s.transit.filter fun e => decide (advance < e.remaining)).map
                (fun e => { e with remaining := e.remaining - advance }) ∧
              ∀ c, t.circuits.get c =
                match (s.transit.filter fun e => decide (e.remaining ≤ advance) && e.circuit == c).getLast? with
                | some e => if s.circuitPresent c then landed s.params (s.circuits.get c) e.setpoint else s.circuits.get c
                | none => s.circuits.get c) ∧
          (32768 ≤ advance → OnlyChanges [.link, .outlet, .tracker, .sat] s t ∧
            t.sat.positionReject = if s.sat.positionReject = 255 then 255 else s.sat.positionReject + 1)))

/-! ### The regime table -/

/-- A table passes validation exactly when V1 to V6 hold (R60): 1 to 16 rows; row 0 from standstill and up to CRAWL_SPEED;
each later row starting above the row below, within its band, and ending above it; no band above 1200; every mask row 0's
and naming a zone; every field in its range (R57). -/
def Obligations.ValidationIsV1ToV6 : Prop :=
  ∀ (crawl : Nat) (t : List Row), tableFault crawl t = none ↔
    (1 ≤ t.length ∧ t.length ≤ 16) ∧
    (∀ r, t[0]? = some r → r.low = 0 ∧ (crawl : Int) ≤ r.high) ∧
    (∀ k b r, t[k]? = some b → t[k + 1]? = some r → b.low < r.low ∧ r.low ≤ b.high ∧ b.high < r.high) ∧
    (∀ r ∈ t, r.high ≤ 1200) ∧
    (∀ z r, t[0]? = some z → r ∈ t → (∃ x, r.uses x = true) ∧ ∀ x, r.uses x = z.uses x) ∧
    (∀ r ∈ t, (0 ≤ r.low ∧ r.low ≤ 1200) ∧ (0 ≤ r.high ∧ r.high ≤ 1200) ∧ (0 ≤ r.exhaust ∧ r.exhaust ≤ 1000) ∧
      (50 ≤ r.chill.c1 ∧ r.chill.c1 ≤ 400) ∧ (50 ≤ r.chill.c2 ∧ r.chill.c2 ≤ 400) ∧ (1 ≤ r.ramp ∧ r.ramp ≤ 100) ∧
      r.soak ≤ 255 ∧ r.lead ≤ 100 ∧
      ∀ z x, r.zones.get z = some x →
        (0 ≤ x.air ∧ x.air ≤ 4000) ∧ (0 ≤ x.feedforward ∧ x.feedforward ≤ 1000) ∧ (0 ≤ x.fan ∧ x.fan ≤ 1000))

/-- R62: for a requested speed the store answers with the lowest row whose band high reaches it, and with none if the speed
exceeds the top row's band high or is below 0, or the table is empty. In a sound table the row found contains the speed. -/
def Obligations.RequestsTakeTheLowestRow : Prop :=
  ∀ (t : List Row) (v : Int),
    (∀ j, rowForRequest t v = some j ↔
      0 ≤ v ∧ (∃ r, t[j]? = some r ∧ v ≤ r.high) ∧ ∀ i r, i < j → t[i]? = some r → r.high < v) ∧
    (rowForRequest t v = none ↔ v < 0 ∨ ∀ r ∈ t, r.high < v) ∧
    (∀ crawl j r, tableFault crawl t = none → rowForRequest t v = some j → t[j]? = some r → r.low ≤ v ∧ v ≤ r.high)

/-- R63: for an actual speed and the row the dryer is set for, taken as the top row at or beyond the row count, the store
answers with that row within its band, with the lowest row that reaches the speed below it, and with the highest row that
starts at or below the speed above it. -/
def Obligations.SpeedsTakeTheNearestRow : Prop :=
  ∀ (crawl k : Nat) (t : List Row) (v : Int) (r : Row), tableFault crawl t = none → 0 ≤ v →
    let set := if k < t.length then k else t.length - 1
    t[set]? = some r →
      (r.low ≤ v → v ≤ r.high → rowForSpeed t k v = some set) ∧
      (v < r.low → ∃ j b, rowForSpeed t k v = some j ∧ t[j]? = some b ∧ v ≤ b.high ∧ b.low ≤ v ∧
        ∀ i c, i < j → t[i]? = some c → c.high < v) ∧
      (r.high < v → ∃ j b, rowForSpeed t k v = some j ∧ t[j]? = some b ∧ b.low ≤ v ∧
        (∀ i c, j < i → t[i]? = some c → v < c.low) ∧ (v ≤ b.high ∨ j + 1 = t.length))

/-- A row block read is the row that was written (R192), for every row whose fields fit theirs (R190). -/
def Obligations.RowBlocksTravelUnchanged : Prop :=
  ∀ r : Row, (∀ v ∈ [r.low, r.high, r.exhaust, r.chill.c1, r.chill.c2], -32768 ≤ v ∧ v ≤ 32767) →
    r.ramp ≤ 255 → r.soak ≤ 255 → r.lead ≤ 255 →
    (∀ z x, r.zones.get z = some x → ∀ v ∈ [x.air, x.feedforward, x.fan], -32768 ≤ v ∧ v ≤ 32767) →
    parseRow (rowBlock r) = some r

/-- WRITE_ROW by R58's table: truncation, replacement, addition at the end, and the refusals, which change nothing. A taken
write withdraws a pending commit and changes nothing else but the shadow copy. That its REPLY is the status DONE alone is the
model's reading (log 20). -/
def Obligations.WriteRowEditsTheShadow : Prop :=
  ∀ (src dst tag i : Byte) (block : List Byte) (s : State),
    let c : Instr := .writeRow src dst tag (i :: block)
    let n := s.store.shadow.length
    let status : CommitStatus := if s.store.status = .pending then .withdrawn else s.store.status
    let writes (rows : List Row) : Prop :=
      ∃ o t, orderFields c = some o ∧ exec c s = .next t ∧ Answered o [0] s t ∧
        OnlyChanges [.link, .outlet, .agent, .store] s t ∧ t.params = s.params ∧
        t.store = { s.store with shadow := rows, status := status }
    TakenAlone c s → TakenWrite c s →
      (i.toNat ≤ 15 → block = [] → writes (s.store.shadow.take i.toNat)) ∧
      (∀ r, parseRow block = some r → i.toNat ≤ 15 → i.toNat < n → writes (s.store.shadow.set i.toNat r)) ∧
      (∀ r, parseRow block = some r → i.toNat ≤ 15 → i.toNat = n → writes (s.store.shadow ++ [r])) ∧
      (15 < i.toNat ∨ block ≠ [] ∧ (parseRow block = none ∨ n < i.toNat) → Reports c [3] s)

/-- COMMIT (R64): a shadow copy that fails is refused BAD_TABLE with its row and reason, and a pending commit is withdrawn;
one that passes is accepted with PENDING, and at a safe point carried into the active copy at once, which leaves it in the
shadow copy too (R66, R67). In COLD and COOLDOWN a commit asks nothing further; in READY the in-force set takes the new row 0,
the transit line is flushed and the ceiling bounded (R68). In RUN the grant row becomes the smaller of itself and the row chosen
for the speed, the ceiling is bounded by its new band, with a GRANT HELD where it falls, and a COMMIT ADJUST plan is built toward
the chosen row (R69); with no step toward row 0 it returns the line to READY at once (R85). -/
def Obligations.CommitAcceptsOrRefuses : Prop :=
  ∀ (src dst tag : Byte) (s : State),
    let c : Instr := .commit src dst tag []
    let left : CommitStatus := if s.store.status = .pending then .withdrawn else s.store.status
    TakenWrite c s →
      (∀ k f, commitFault s = some (k, f) → s.outlet.queue.length < 32 →
        ∃ t, Carries c [4, BitVec.ofNat 8 k, BitVec.ofNat 8 f.code] s t ∧
          OnlyChanges [.link, .outlet, .agent, .store] s t ∧ t.store = { s.store with status := left }) ∧
      (commitFault s = none → s.safePoint = false →
        ∃ t, Carries c [1, 0, 0] s t ∧ OnlyChanges [.link, .outlet, .agent, .sat, .store] s t ∧
          t.store = { s.store with status := .pending }) ∧
      (commitFault s = none → s.safePoint = true → ∃ t, Carries c [1, 0, 0] s t ∧
        t.store = { active := s.store.shadow, shadow := s.store.shadow, status := .done } ∧ t.params = s.params ∧
        (s.line.state = .cold ∨ s.line.state = .cooldown →
          OnlyChanges [.link, .outlet, .agent, .sat, .store, .faults] s t) ∧
        (∀ r rs, s.line.state = .ready → s.store.shadow = r :: rs →
          t.planner.inForce = s.planner.inForce.fromRow r ∧ t.transit = [] ∧
            t.planner.ceiling = min s.planner.ceiling r.high ∧ t.planner.grantRow = s.planner.grantRow ∧
            t.planner.target = s.planner.target ∧ t.line.state = .ready) ∧
        (∀ j g r b, s.line.state = .run →
          (∀ v, s.usableSpeed = some v → rowForSpeed s.store.shadow s.planner.target v = some j) →
          (s.usableSpeed = none → j = min s.planner.target (s.store.shadow.length - 1)) →
          s.planner.grantRow = some g → s.store.shadow[j]? = some r → s.store.shadow[min j g]? = some b →
          (j ≠ 0 → t.line.state = .run ∧ t.planner.target = j ∧ t.planner.grantRow = some (min j g) ∧
            t.planner.ceiling = min s.planner.ceiling b.high ∧
            (b.high < s.planner.ceiling →
              SentOrLost (.grant s.outlet.dest.address s.planner.lastTag b.high .held) s t) ∧
            (adjustSteps s j r = [] → t.planner.plan = none ∧ t.planner.inForce = s.planner.inForce) ∧
            ∀ p, t.planner.plan = some p → p.origin = .commit ∧ p.ordering = .adjust ∧ p.request = none ∧ p.target = j ∧
              p.steps.map PlanStep.shape = (adjustSteps s j r).map PlanStep.shape) ∧
          (j = 0 → adjustSteps s j r = [] → t.line.state = .ready ∧ t.planner.plan = none ∧
            t.planner.grantRow = some 0 ∧ t.planner.ceiling = s.params.crawlSpeed ∧ t.planner.target = 0)))

/-- R65: WITHDRAW withdraws a pending commit, leaves the shadow copy as it is, and is answered DONE in every line state; with
none pending it changes nothing. -/
def Obligations.WithdrawEndsAPendingCommit : Prop :=
  ∀ (src dst tag : Byte) (s : State),
    let c : Instr := .withdraw src dst tag []
    TakenAlone c s → TakenWrite c s →
      (s.store.status ≠ .pending → Reports c [0] s) ∧
      (s.store.status = .pending →
        ∃ o t, orderFields c = some o ∧ exec c s = .next t ∧ Answered o [0] s t ∧
          OnlyChanges [.link, .outlet, .agent, .store] s t ∧ t.params = s.params ∧
          t.store = { s.store with status := .withdrawn })

/-- The active regime table is either empty or satisfies V1 to V6, a shadow copy whose commit is pending satisfies them, and
the parameters keep their ranges, whatever step is taken (R67, R70, R172, R195). -/
def Obligations.ActiveTableStaysSound : Prop :=
  ∀ s t : State, StoreSound s → paramsSound s.params → step s = .next t → StoreSound t ∧ paramsSound t.params

/-! ### Line states -/

/-- The LINE commands in the states that do not take them are refused REFUSED_STATE with reason 0 and change nothing (R76,
R77, R86, R92, R94); so is a START while a trip condition stands, with reason TRIP_PRESENT, a RESTART with a detector not
INACTIVE, and a CLEAR_LOCKOUT with a trip condition present. -/
def Obligations.LineCommandsAreRefusedByState : Prop :=
  ∀ (src dst tag : Byte) (s : State),
    let ok (c : Instr) : Prop := TakenAlone c s ∧ TakenWrite c s
    (ok (.start src dst tag) → s.line.state ≠ .cold → s.line.state ≠ .cooldown → Reports (.start src dst tag) [2, 0, 0] s) ∧
    (ok (.start src dst tag) → (s.line.state = .cold ∨ s.line.state = .cooldown) → s.tripCondition = true →
      Reports (.start src dst tag) [2, 9, 0] s) ∧
    (ok (.stop src dst tag) →
      s.line.state = .cold ∨ s.line.state = .run ∨ s.line.state = .cooldown ∨ s.line.state = .lockout →
        Reports (.stop src dst tag) [2, 0, 0] s) ∧
    (ok (.restart src dst tag) →
      s.line.state ≠ .brk ∨
          (∃ e ∈ s.channels, (∃ d, e.role = .brk d) ∧ e.level.map LevelRec.confirmed ≠ some .inactive) →
        Reports (.restart src dst tag) [2, 0, 0] s) ∧
    (ok (.clearLockout src dst tag) → s.line.state ≠ .lockout ∨ s.tripCondition = true →
      Reports (.clearLockout src dst tag) [2, 0, 0] s)

/-- START's map and table checks in their order, with the reason and index of each (R27, R71, R77); a refused START changes
nothing. -/
def Obligations.StartChecksMapAndTable : Prop :=
  ∀ (src dst tag : Byte) (s : State),
    let c : Instr := .start src dst tag
    let some6 (z : Zone) : Prop := ∃ r ∈ zoneRoles z, s.mapped r = true
    let all6 (z : Zone) : Prop := ∀ r ∈ zoneRoles z, s.mapped r = true
    let some2 (k : Circuit) : Prop := ∃ r ∈ circuitRoles k, s.mapped r = true
    let all2 (k : Circuit) : Prop := ∀ r ∈ circuitRoles k, s.mapped r = true
    let zonesWhole := ∀ z, some6 z → all6 z
    let whole := zonesWhole ∧ ∀ k, some2 k → all2 k
    TakenAlone c s → TakenWrite c s → (s.line.state = .cold ∨ s.line.state = .cooldown) → s.tripCondition = false →
      (∀ z, some6 z → ¬ all6 z → (∀ y, zoneNumber y < zoneNumber z → some6 y → all6 y) →
        Reports c [3, 1, BitVec.ofNat 8 (zoneNumber z)] s) ∧
      (∀ k, zonesWhole → some2 k → ¬ all2 k → (∀ j, circuitNumber j < circuitNumber k → some2 j → all2 j) →
        Reports c [3, 2, BitVec.ofNat 8 (circuitNumber k)] s) ∧
      (whole → s.mapped .exhaust = false → Reports c [3, 3, 0] s) ∧
      (whole → s.mapped .exhaust = true → s.mapped .speed = false → Reports c [3, 4, 0] s) ∧
      (whole → s.mapped .exhaust = true → s.mapped .speed = true → s.mapped .position = false → Reports c [3, 5, 0] s) ∧
      (whole → s.mapped .exhaust = true → s.mapped .speed = true → s.mapped .position = true →
        ((∀ z, ¬ all6 z) → Reports c [3, 6, 0] s) ∧
        ((∃ z, all6 z) → s.store.active = [] → Reports c [4, 7, 0] s) ∧
        (∀ r rs z, s.store.active = r :: rs → all6 z → r.uses z = false →
          (∀ y, zoneNumber y < zoneNumber z → all6 y → r.uses y = true) →
          Reports c [4, 8, BitVec.ofNat 8 (zoneNumber z)] s))

/-- A START that passes every check (R77): the complete zones and circuits are the presence set, and the line is in PURGE
with the permit open and the purge timer running for PURGE_TIME if every present zone's AIRFLOW is ACTIVE, stopped otherwise
(R27, R74, R75, R78). -/
def Obligations.StartEntersPurge : Prop :=
  ∀ (src dst tag : Byte) (s : State) (r : Row) (rs : List Row),
    let c : Instr := .start src dst tag
    let all6 (z : Zone) : Prop := ∀ r ∈ zoneRoles z, s.mapped r = true
    let all2 (k : Circuit) : Prop := ∀ r ∈ circuitRoles k, s.mapped r = true
    TakenWrite c s → (s.line.state = .cold ∨ s.line.state = .cooldown) → s.tripCondition = false →
      (∀ z, (∃ r ∈ zoneRoles z, s.mapped r = true) → all6 z) →
      (∀ k, (∃ r ∈ circuitRoles k, s.mapped r = true) → all2 k) →
      s.mapped .exhaust = true → s.mapped .speed = true → s.mapped .position = true → (∃ z, all6 z) →
      s.store.active = r :: rs → (∀ z, all6 z → r.uses z = true) →
      ∃ t, Carries c [0, 0, 0] s t ∧
        OnlyChanges [.link, .outlet, .sat, .channels, .line, .planner, .zones, .circuits, .supervisor, .faults, .agent]
          s t ∧
        t.params = s.params ∧ t.line.state = .purge ∧ (∀ z, t.present z = true ↔ all6 z) ∧
        (∀ k, t.circuitPresent k = true ↔ all2 k) ∧ t.line.mode = s.line.mode ∧ t.line.settle = none ∧
        t.line.cooldown = none ∧ t.supervisor.permit = false ∧
        t.planner = { s.planner with grantRow := none, ceiling := 0 } ∧
        ((∀ z, all6 z → s.confirmedOf (.airflow z) = some .active) → t.line.purge = some (1000 * s.params.purgeTime)) ∧
        ((∃ z, all6 z ∧ s.confirmedOf (.airflow z) ≠ some .active) → t.line.purge = none)

/-- A STOP that is taken (R86): the stack is emptied, the transit line flushed, the grant withdrawn and the permit open, and
the line is in COOLDOWN with its timer running, or already in COLD where every present zone's air is known to be cool (R87,
R88). A commit pending at the entry is carried out (R66), so the store may change. At the cooldown timer's expiry the test is made
again: the line is in COLD, or stays with the timer running again. -/
def Obligations.StopCoolsTheLine : Prop :=
  (∀ (src dst tag : Byte) (s : State),
    let c : Instr := .stop src dst tag
    TakenWrite c s → (s.line.state = .purge ∨ s.line.state = .heatup ∨ s.line.state = .ready ∨ s.line.state = .brk) →
      ∃ t, Carries c [0, 0, 0] s t ∧
        OnlyChanges [.link, .outlet, .sat, .channels, .store, .line, .planner, .zones, .circuits, .transit, .stack,
          .supervisor, .faults, .agent] s t ∧
        t.params = s.params ∧ t.stack = [] ∧ t.transit = [] ∧ t.supervisor.permit = false ∧
        t.planner = { s.planner with grantRow := none, ceiling := 0 } ∧ t.line.purge = none ∧ t.line.settle = none ∧
        t.line.zonesPresent = s.line.zonesPresent ∧ t.line.circuitsPresent = s.line.circuitsPresent ∧
        (s.cooldownTest = true → t.line.state = .cold ∧ t.line.cooldown = none) ∧
        (s.cooldownTest = false → t.line.state = .cooldown ∧ t.line.cooldown = some 1000) ∧
        (∀ z, s.present z = true → (t.zones.get z).ignition = .off ∧ (t.zones.get z).burner = 0)) ∧
    ∀ s : State, s.atRest = true → s.line.state = .cooldown → s.line.cooldown = some 0 →
      ∃ t, exec .cooldownTimerExpiry s = .next t ∧
        (s.cooldownTest = true → t.line.state = .cold ∧ t.line.cooldown = none ∧ t.transit = []) ∧
        (s.cooldownTest = false → OnlyChanges [.line] s t ∧ t.line = { s.line with cooldown := some 1000 })

/-- A RESTART that is taken (R92): every record of the stack is gone without a restore and the line enters HEATUP, or LOCKOUT
where a present zone's reading is not current (R177). -/
def Obligations.RestartHeatsUpAgain : Prop :=
  ∀ (src dst tag : Byte) (s : State),
    let c : Instr := .restart src dst tag
    TakenWrite c s → s.line.state = .brk →
      (∀ e ∈ s.channels, (∃ d, e.role = .brk d) → e.level.map LevelRec.confirmed = some .inactive) →
      ∃ t, Carries c [0, 0, 0] s t ∧ t.stack = [] ∧ t.planner.grantRow = none ∧ t.planner.ceiling = 0 ∧
        t.planner.target = 0 ∧ t.params = s.params ∧ t.store = s.store ∧ t.line.zonesPresent = s.line.zonesPresent ∧
        (s.sensorTestFails = false → t.line.state = .heatup) ∧
        (s.sensorTestFails = true → t.line.state = .lockout ∧ t.faults.pending &&& FaultCode.sensorFail.bit ≠ 0)

/-- A CLEAR_LOCKOUT that is taken (R94, R88) completes: the line is in COLD with every drive at 0 and the transit line empty; no
fault entry is changed by it, but those that are taken and whose condition is absent in COLD leave (R183; that their taken part
stands is the model's reading, log 10); a pending commit is carried out. -/
def Obligations.ClearLockoutReturnsToCold : Prop :=
  ∀ (src dst tag : Byte) (s : State),
    let c : Instr := .clearLockout src dst tag
    TakenWrite c s → s.line.state = .lockout → s.tripCondition = false →
      ∃ t, Carries c [0, 0, 0] s t ∧ t.line.state = .cold ∧ t.transit = [] ∧ t.params = s.params ∧
        t.supervisor.permit = false ∧ (∀ e ∈ t.channels, ∀ d, e.drive = some d → d.computed = 0 ∧ d.sent = 0) ∧
        t.faults.taken = s.faults.taken ∧ t.faults.enable = s.faults.enable ∧
        t.faults.pending = s.faults.pending &&& (~~~ s.faults.taken ||| t.conditionMask) ∧
        t.faults.out = decide (t.faults.pending &&& t.faults.enable ≠ 0) ∧
        t.planner = { s.planner with ceiling := 0, grantRow := none } ∧ t.stack = s.stack ∧
        (s.store.status = .pending → s.planner.plan = none → s.stack = [] →
          t.store = { s.store with active := s.store.shadow, status := .done }) ∧
        (s.store.status ≠ .pending → t.store = s.store)

/-- The purge timer's expiry: with every present zone's AIRFLOW confirmed ACTIVE the line enters HEATUP (R79, R81), with the
permit closed, row 0 in force, and every present zone IGNITING from its measured air with its trim at 0 (R131); where a
present zone's reading is not current it is tripped at once (R177). With the test failing the timer stops. -/
def Obligations.PurgeEndsInHeatup : Prop :=
  ∀ (s : State) (r : Row) (rs : List Row), s.atRest = true → s.line.state = .purge → s.line.purge = some 0 →
    s.store.active = r :: rs →
    let test := ∀ z, s.present z = true → s.confirmedOf (.airflow z) = some .active
    ∃ t, exec .purgeTimerExpiry s = .next t ∧
      (¬ test → OnlyChanges [.line] s t ∧ t.line = { s.line with purge := none }) ∧
      (test → s.sensorTestFails = true → t.line.state = .lockout ∧ t.supervisor.permit = false) ∧
      (test → s.sensorTestFails = false →
        t.line.state = .heatup ∧ t.line.purge = none ∧ t.line.settle = none ∧ t.supervisor.permit = true ∧
        t.planner.target = 0 ∧ t.planner.inForce = s.planner.inForce.fromRow r ∧ t.planner.grantRow = none ∧
        t.planner.ceiling = 0 ∧
        (∀ z, s.present z = true →
          let p := t.zones.get z
          p.trim = 0 ∧ p.ignition = .igniting ∧ p.ignitionTimer = some (1000 * s.params.ignitionTime) ∧
          p.current = min 4000 (max 0 ((s.zones.get z).air.reading.getD 0)) ∧
          (∀ x, r.zones.get z = some x → p.target = x.air ∧ p.feedforward = x.feedforward ∧ p.ramp = r.ramp) ∧
          p.burner = min 1000 (max (s.line.priorMinFire.getD s.params.minFire : Int) p.feedforward)) ∧
        (∀ k, s.circuitPresent k = true →
          (t.circuits.get k).setpoint = r.chill.get k ∧ (t.circuits.get k).valve = s.params.chillMinValve))

/-- The settle timer's expiry in HEATUP (R83): the line is in READY with grant row 0; with no solvent warning standing and no
commit pending the ceiling is CRAWL_SPEED, the target row and the in-force set stand, and a GRANT says so. -/
def Obligations.SettleEndsInReady : Prop :=
  ∀ s : State, s.atRest = true → s.line.state = .heatup → s.line.settle = some 0 → s.planner.plan = none →
    ∃ t, exec .settleTimerExpiry s = .next t ∧ t.line.state = .ready ∧ t.planner.grantRow = some 0 ∧
      t.line.settle = none ∧ t.supervisor.permit = true ∧
      ((∀ z, s.present z = true → (s.supervisor.flags.get z).warn = false) → s.store.status ≠ .pending →
        t.planner = { s.planner with grantRow := some 0, ceiling := s.params.crawlSpeed } ∧
        SentOrLost (.grant s.outlet.dest.address s.planner.lastTag s.params.crawlSpeed .granted) s t)

/-- A trip taken outside COLD and LOCKOUT (R93, R178), at an ignition timer's expiry (R134) or a grace timer's (R173): the
entry is raised, and the line is in LOCKOUT with the permit open, no plan, no context, no transit entry and no grant. The zone
whose ignition failed stays FAILED. In COLD and LOCKOUT a trip changes no line state. -/
def Obligations.TripsEnterLockout : Prop :=
  ∀ (z : Zone) (s : State), s.atRest = true →
    let locked (t : State) : Prop :=
      t.line.state = .lockout ∧ t.supervisor.permit = false ∧ t.planner.plan = none ∧ t.stack = [] ∧ t.transit = [] ∧
      t.planner.grantRow = none ∧ t.planner.ceiling = 0 ∧ t.line.purge = none ∧ t.line.settle = none ∧
      t.line.cooldown = none ∧ t.supervisor.clearTimer = none ∧ t.params = s.params ∧ t.store = s.store ∧
      SentOrLost (.grant s.outlet.dest.address s.planner.lastTag 0 .held) s t
    let tripped := s.line.state ≠ .cold ∧ s.line.state ≠ .lockout
    ((s.zones.get z).ignition = .igniting → (s.zones.get z).ignitionTimer = some 0 → s.present z = true →
      ∃ t, exec (.ignitionTimerExpiry z) s = .next t ∧ t.faults.pending &&& FaultCode.ignitionFail.bit ≠ 0 ∧
        (t.zones.get z).ignition = .failed ∧ (t.zones.get z).ignitionTimer = none ∧
        (tripped → locked t ∧ (t.zones.get z).burner = 0) ∧ (¬ tripped → t.line.state = s.line.state)) ∧
    (s.supervisor.grace.get z = some 0 →
      ∃ t, exec (.graceTimerExpiry z) s = .next t ∧ t.faults.pending &&& FaultCode.flameFail.bit ≠ 0 ∧
        t.supervisor.grace.get z = none ∧ (tripped → locked t) ∧ (¬ tripped → t.line.state = s.line.state))

/-- What follows the line state does so after every step: the permit, closed exactly in HEATUP, READY, RUN and BREAK (R74, R181),
the grant (R75, R98), the plan (R84), the purge, settle and cooldown timers (R78, R82, R87), the context stack (R152, R165). -/
def Obligations.LineRecordsFollowTheState : Prop :=
  ∀ s t : State, LineSound s → step s = .next t → LineSound t

/-! ### The planner -/

/-- An ASK answered without a new plan: R114's cases 1 to 4, which change nothing of the planner but the last tag (R99), and
case 5, which retags the existing RAISE (R116). The answer goes to the ASK's sender with its tag and the current ceiling (R13). -/
def Obligations.AsksAnsweredWithoutANewPlan : Prop :=
  ∀ (src dst tag : Byte) (value : Half) (aux : Byte) (s : State), Reaches src dst s → s.atRest = true →
    let v := value.toInt
    let c := s.planner.ceiling
    let inRange := 0 ≤ v ∧ v ≤ 1200
    let row := rowForRequest s.store.active v
    let regrant (t : PlanStep) : PlanStep := match t.kind with | .grant _ r => { t with kind := .grant v r } | _ => t
    let answers (st : GrantStatus) (p : Option Plan) : Prop :=
      ∃ t, exec (.ask src dst tag value aux) s = .next t ∧ OnlyChanges [.link, .outlet, .sat, .planner] s t ∧
        t.link = (arrived s).link ∧ t.outlet.dest = .ask (addrOf src) ∧
        t.planner = { s.planner with lastTag := tag, plan := p } ∧
        SentOrLost (.grant (addrOf src) tag c st) s t ∧ (inRange → t.sat.kindMismatch = s.sat.kindMismatch) ∧
        (¬ inRange →
          t.sat.kindMismatch = if s.sat.kindMismatch = 255 then 255 else s.sat.kindMismatch + 1)
    (s.line.state ≠ .ready → s.line.state ≠ .run → answers .refused s.planner.plan) ∧
    (s.line.state.granted = true → s.stack ≠ [] → answers .held s.planner.plan) ∧
    (s.line.state.granted = true → s.stack = [] → ¬ inRange ∨ row = none → answers .refused s.planner.plan) ∧
    (s.line.state = .ready → s.stack = [] → inRange → row ≠ none → v ≤ c → answers .granted s.planner.plan) ∧
    (∀ p, s.line.state.granted = true → s.stack = [] → inRange → s.planner.plan = some p → p.ordering = .raise →
      row = some p.target → GrantWaits p → c < v →
        answers .pending (some { p with request := some ⟨v, tag⟩, steps := p.steps.map regrant }))

/-- An ASK that builds a plan (R114 case 6, R115), with no commit pending. At or below the ceiling, in RUN, toward a row above
row 0, the ceiling and the grant row follow at once with a GRANTED (R110, R113). Above the ceiling the answer is PENDING, the
line is in RUN with a RAISE plan toward the row (R84, R109), and with a soak time the ceiling and the grant row wait for it. -/
def Obligations.AsksBuildPlans : Prop :=
  ∀ (src dst tag : Byte) (value : Half) (aux : Byte) (s : State) (j : Nat) (r : Row),
    Reaches src dst s → s.atRest = true → s.stack = [] → s.store.status ≠ .pending →
    let v := value.toInt
    let c := s.planner.ceiling
    let shape (t : PlanStep) := (t.kind, t.trigger)
    v ≤ 1200 → rowForRequest s.store.active v = some j → s.store.active[j]? = some r →
      (s.line.state = .run → v ≤ c → j ≠ 0 →
        ∃ t, exec (.ask src dst tag value aux) s = .next t ∧ t.line.state = .run ∧ t.planner.ceiling = v ∧
          t.planner.grantRow = (if v < c then some j else s.planner.grantRow) ∧ t.planner.target = j ∧ t.stack = [] ∧
          t.planner.lastTag = tag ∧ t.outlet.dest = .ask (addrOf src) ∧
          SentOrLost (.grant (addrOf src) tag v .granted) s t ∧
          ∀ p, t.planner.plan = some p → p.origin = .asked ∧ p.ordering = .lower ∧ p.request = some ⟨v, tag⟩ ∧
            p.target = j ∧ p.frozen = false ∧
            p.steps.map shape = (lowerSteps s j r v (decide (v < c))).map shape) ∧
      (s.line.state.granted = true → c < v → 1 ≤ r.soak →
        (∀ p, s.planner.plan = some p → ¬ (p.ordering = .raise ∧ p.target = j ∧ GrantWaits p)) →
        ∃ t p, exec (.ask src dst tag value aux) s = .next t ∧ t.line.state = .run ∧ t.planner.ceiling = c ∧
          t.planner.grantRow = s.planner.grantRow ∧ t.planner.target = j ∧ t.planner.lastTag = tag ∧
          t.outlet.dest = .ask (addrOf src) ∧ SentOrLost (.grant (addrOf src) tag c .pending) s t ∧
          t.planner.plan = some p ∧ p.origin = .asked ∧ p.ordering = .raise ∧ p.request = some ⟨v, tag⟩ ∧ p.target = j ∧
          GrantWaits p ∧ p.steps.map shape = (raiseSteps s j r v).map shape)

/-- The steps of the three orderings (R108 to R111): one for each actuator whose in-force value differs from the row, fans and
zones of present zones and chills of present circuits, no exhaust step while an LEL_RELIEF record stands; in the ordering's
places; each with the ordering's trigger. That the exhaust step is left out only while an LEL_RELIEF record stands, and so is there
above a MASTER_LOST record once the relief's has popped, is the model's reading of R108 against R155 and R160 (log 32). -/
def Obligations.OrderingsPlaceTheirSteps : Prop :=
  ∀ (s : State) (j : Nat) (r : Row) (v : Int) (granting : Bool),
    let f := s.planner.inForce
    let raise := raiseSteps s j r v
    let adjust := adjustSteps s j r
    let lower := lowerSteps s j r v granting
    let firstZone (l : List PlanStep) (z : Zone) := ∀ y a ff rp, zoneNumber y < zoneNumber z → ¬ Holds l (.setZone y a ff rp)
    (∀ l ∈ [raise, adjust, lower],
      (∀ e, Holds l (.setExhaust e) ↔
        e = r.exhaust ∧ f.exhaust ≠ r.exhaust ∧ ∀ c ∈ s.stack, c.cause ≠ .lelRelief) ∧
      (∀ z n, Holds l (.setFan z n) ↔
        s.present z = true ∧ ∃ x, r.zones.get z = some x ∧ n = x.fan ∧ (f.zones.get z).fan ≠ x.fan) ∧
      (∀ z a ff rp, Holds l (.setZone z a ff rp) ↔
        s.present z = true ∧ ∃ x, r.zones.get z = some x ∧ a = x.air ∧ ff = x.feedforward ∧ rp = r.ramp ∧
          ((f.zones.get z).air ≠ x.air ∨ (f.zones.get z).feedforward ≠ x.feedforward ∨ (f.zones.get z).ramp ≠ r.ramp)) ∧
      (∀ k sp i, Holds l (.queueChill k sp i) ↔
        s.circuitPresent k = true ∧ sp = r.chill.get k ∧ i = j ∧ f.chill.get k ≠ r.chill.get k) ∧
      (∀ t ∈ l, t.done = false ∧
        (∀ k sp i, t.kind = .queueChill k sp i → t.trigger = .after 0))) ∧
    (∀ w i, Holds raise (.grant w i) ↔ w = v ∧ i = j) ∧ (∀ w i, ¬ Holds adjust (.grant w i)) ∧
    (∀ w i, Holds lower (.grant w i) ↔ granting = true ∧ w = v ∧ i = j) ∧
    (∀ l ∈ [raise, adjust], l.Pairwise (fun a b => stepPlace false a.kind < stepPlace false b.kind) ∧ ∀ t ∈ l,
      ((∃ e, t.kind = .setExhaust e) ∨ (∃ z n, t.kind = .setFan z n) → t.trigger = .after 0) ∧
      (∀ z a ff rp, t.kind = .setZone z a ff rp →
        (firstZone l z → t.trigger = .after (10 * s.params.airBeforeHeat)) ∧ (¬ firstZone l z → t.trigger = .after 0)) ∧
      (∀ w i, t.kind = .grant w i → t.trigger = .whenReady (10 * r.soak))) ∧
    lower.Pairwise (fun a b => stepPlace true a.kind < stepPlace true b.kind) ∧
    ∀ t ∈ lower,
      (∀ w i, t.kind = .grant w i → t.trigger = .after 0) ∧
      (∀ z a ff rp, t.kind = .setZone z a ff rp →
        t.trigger = .whenSlowed (v + (s.planner.ceiling - v) * r.lead / 100) 0) ∧
      (∀ z n, t.kind = .setFan z n → t.trigger = .whenSlowed r.high 0) ∧
      (∀ e, t.kind = .setExhaust e → t.trigger = .whenSlowed r.high (10 * s.params.exhaustLag))

/-- The head of a RUNNING plan fires at the expiry its trigger waits for, with no commit pending (R103 to R106): the plan ends, or
its head moves on with every step it passes DONE; a last step of a plan toward a row above row 0 has its effect on the planner
and nothing else of it changes (R102, R113); of a QUEUE_CHILL step that effect includes an entry at the transit line's tail at
PATH_LENGTH, before which the head of a full line matures early, counted and raised as TRANSIT_FORCED (R144, R142); of a
SET_ZONE step in HEATUP, READY and RUN it includes the present zone's targets and its burner demand, with the MIN_FIRE that acts
(R132, R130). A WHEN_READY head that reaches READY_TIMEOUT ends the plan with HEAT_SHORTFALL and, for a request, a GRANT REFUSED
(R107). -/
def Obligations.HeadsFireAndStall : Prop :=
  ∀ (s : State) (p : Plan), s.atRest = true → s.planner.plan = some p → s.store.status ≠ .pending →
    let k := s.planner
    let ended : Planner := { k with plan := none }
    let withZone (z : Zone) (f : ZoneTargets → ZoneTargets) : Planner :=
      { ended with inForce := { k.inForce with zones := k.inForce.zones.set z (f (k.inForce.zones.get z)) } }
    let fired : StepKind → Planner
      | .setExhaust v => { ended with inForce := { k.inForce with exhaust := v } }
      | .setFan z v => withZone z fun t => { t with fan := v }
      | .setZone z a ff rp => withZone z fun t => { t with air := a, feedforward := ff, ramp := rp }
      | .queueChill c sp _ => { ended with inForce := { k.inForce with chill := k.inForce.chill.set c sp } }
      | .grant v j =>
        if p.request.isSome then { ended with ceiling := v, grantRow := some j }
        else
          { ended with
            ceiling := min k.ceiling (((s.store.active[j]?).map Row.high).getD v)
            grantRow := some (min (k.grantRow.getD j) j) }
    (∀ (c : Instr) (h : PlanStep), c ∈ [Instr.headTimerAfter, .soakComplete, .slowedDelayExpiry] → runOut s c = true →
      p.steps[p.head]? = some h →
        ∃ t, exec c s = .next t ∧
          (t.planner.plan = none ∨
            ∃ q, t.planner.plan = some q ∧ p.head < q.head ∧ q.steps.length = p.steps.length ∧
              ∀ i, p.head ≤ i → i < q.head → ∃ x, q.steps[i]? = some x ∧ x.done = true) ∧
          (p.head + 1 = p.steps.length → p.target ≠ 0 → t.planner = fired h.kind ∧
            (∀ z a ff rp, h.kind = .setZone z a ff rp → s.present z = true → s.line.state.controlled = true →
              let x := s.zones.get z
              let y := t.zones.get z
              y.target = a ∧ y.feedforward = ff ∧ y.ramp = rp ∧ y.trim = x.trim ∧ y.current = x.current ∧
              y.burner = (if x.ignition = .igniting ∨ x.ignition = .proven then
                  min 1000 (max (s.line.priorMinFire.getD s.params.minFire : Int) (ff + x.trim))
                else 0)) ∧
            ∀ c sp i, h.kind = .queueChill c sp i →
              let entry : TransitEntry := { remaining := s.params.pathLength, circuit := c, setpoint := sp, row := i }
              (s.transit.length < 8 →
                t.transit = s.transit ++ [entry] ∧ t.circuits = s.circuits ∧ t.sat.transitForced = s.sat.transitForced) ∧
              ∀ e rest, s.transit = e :: rest → 8 ≤ s.transit.length →
                t.transit = rest ++ [entry] ∧
                t.circuits = (if s.circuitPresent e.circuit then
                    s.circuits.set e.circuit (landed s.params (s.circuits.get e.circuit) e.setpoint)
                  else s.circuits) ∧
                t.sat.transitForced = (if s.sat.transitForced = 255 then 255 else s.sat.transitForced + 1) ∧
                t.faults.pending &&& FaultCode.transitForced.bit ≠ 0)) ∧
    (runOut s .readyTimeout = true →
      ∃ t, exec .readyTimeout s = .next t ∧ t.planner = ended ∧ t.line = s.line ∧
        t.faults.pending &&& FaultCode.heatShortfall.bit ≠ 0 ∧
        ∀ q, p.request = some q → SentOrLost (.grant s.outlet.dest.address q.tag k.ceiling .refused) s t)

/-- R98: outside READY and RUN there is no grant and the ceiling is 0; in them the ceiling never exceeds the band high of the
grant row in the active table, and every step keeps it so. -/
def Obligations.CeilingStaysWithinTheGrantRow : Prop :=
  ∀ s t : State, LineSound s → StoreSound s → GrantSound s → step s = .next t → GrantSound t

/-! ### Zones and circuits -/

/-- A reading on a zone's air or LEL channel and on a circuit's web channel (R124, R139): a GOOD one in range is applied with a
fresh age, a SUSPECT one or one out of range leaves the record as it is, a FAILED one marks the quality; one out of range that
is not FAILED counts in KIND_MISMATCH. A GOOD reading of a present zone is judged (R169): an LEL reading sets the warn and trip
flags, and an air reading the hot flag. The warn flag's crossing in READY or RUN raises LEL_WARN, holds the relief watch and puts
an LEL_RELIEF record on the stack, ACTIVE, with the exhaust open, no plan and the ceiling bounded (R155, R170); in other states it raises nothing.
The trip flag's crossing raises LEL_TRIP and the hot flag's OVER_TEMP, and both lock the line out but in COLD (R172, R176, R93). A FAILED
reading of a present zone fails the sensor test in HEATUP, READY, RUN and BREAK (R177). -/
def Obligations.ReadingsReachTheirRecords : Prop :=
  ∀ (src dst ch : Byte) (value : Half) (quality : Byte) (s : State), Passes src s → quality.toNat ≤ 2 →
    let v := value.toInt
    let c : Instr := .reading src dst ch value quality
    let after (lo hi : Int) (x : Sensor) : Sensor :=
      if quality = 2 then { x with quality := .failed }
      else if quality = 0 ∧ lo ≤ v ∧ v ≤ hi then { reading := some v, quality := .good, age := some 0 } else x
    let counted (lo hi : Int) (t : State) : Prop :=
      t.sat.kindMismatch =
        if quality ≠ 2 ∧ (v < lo ∨ hi < v) then (if s.sat.kindMismatch = 255 then 255 else s.sat.kindMismatch + 1)
        else s.sat.kindMismatch
    (∀ z, HoldsRole ch (.zoneAir z) s → ∃ t, exec c s = .next t ∧ counted (-500) 5000 t ∧
      (t.zones.get z).air = after (-500) 5000 (s.zones.get z).air ∧ (t.zones.get z).lel = (s.zones.get z).lel) ∧
    (∀ z, HoldsRole ch (.lel z) s → ∃ t, exec c s = .next t ∧ counted 0 1000 t ∧
      (t.zones.get z).lel = after 0 1000 (s.zones.get z).lel ∧ (t.zones.get z).air = (s.zones.get z).air) ∧
    (∀ z, HoldsRole ch (.lel z) s → s.present z = true → s.atRest = true → quality = 0 → 0 ≤ v → v ≤ 1000 →
      let f := s.supervisor.flags.get z
      let p := s.params
      ∃ t, exec c s = .next t ∧ (t.supervisor.flags.get z).warn = decide ((p.lelWarn : Int) ≤ v) ∧
        (t.supervisor.flags.get z).trip = decide ((p.lelTrip : Int) ≤ v) ∧
        (s.line.state.granted = false → s.faults.pending &&& FaultCode.lelWarn.bit = 0 →
          t.faults.pending &&& FaultCode.lelWarn.bit = 0) ∧
        (s.line.state.granted = true → f.warn = false → p.lelWarn ≤ v →
          t.faults.pending &&& FaultCode.lelWarn.bit ≠ 0 ∧
          (t.line.state = s.line.state → ((p.lelWarn - p.lelHyst : Nat) : Int) < v →
            t.supervisor.reliefHeld = true ∧ t.supervisor.clearTimer = none ∧
            ((∀ x ∈ s.stack, x.cause ≠ .brk) → ∃ x ∈ t.stack, x.cause = .lelRelief ∧ x.cleared = false) ∧
            ((∀ x ∈ s.stack, x.cause ≠ .brk ∧ x.cause ≠ .lelRelief) →
              let bound := match s.usableSpeed with | some u => u * p.reliefPercent / 100 | none => 0
              t.planner = { s.planner with
                plan := none, ceiling := min s.planner.ceiling bound
                inForce := { s.planner.inForce with exhaust := 1000 } } ∧
              SentOrLost (.grant s.outlet.dest.address s.planner.lastTag (min s.planner.ceiling bound) .held) s t))) ∧
        (f.trip = false → p.lelTrip ≤ v → t.faults.pending &&& FaultCode.lelTrip.bit ≠ 0 ∧
          (s.line.state ≠ .cold → t.line.state = .lockout))) ∧
    (∀ z, HoldsRole ch (.zoneAir z) s → s.present z = true → s.atRest = true → quality = 0 → -500 ≤ v → v ≤ 5000 →
      ∃ t, exec c s = .next t ∧ (t.supervisor.flags.get z).hot = decide ((s.params.overTemp : Int) < v) ∧
        ((s.supervisor.flags.get z).hot = false → s.params.overTemp < v →
          t.faults.pending &&& FaultCode.overTemp.bit ≠ 0 ∧
          (s.line.state ≠ .cold → t.line.state = .lockout) ∧ (s.line.state = .cold → t.line = s.line))) ∧
    (∀ z, HoldsRole ch (.zoneAir z) s ∨ HoldsRole ch (.lel z) s → s.present z = true → s.line.state.permitClosed = true →
      quality = 2 → ∃ t, exec c s = .next t ∧ t.line.state = .lockout ∧
        t.faults.pending &&& FaultCode.sensorFail.bit ≠ 0) ∧
    (∀ k, HoldsRole ch (.chillWeb k) s → s.atRest = true → ∃ t, exec c s = .next t ∧ counted (-500) 5000 t ∧
      OnlyChanges [.link, .outlet, .sat, .circuits] s t ∧
      t.circuits = s.circuits.set k { s.circuits.get k with web := after (-500) 5000 (s.circuits.get k).web })

/-- A control period (R126): the timer restarts, and a written MIN_FIRE that waits for it acts from here on (R130); a zone that is
not present keeps its record; in HEATUP, READY and RUN a present zone's setpoint current ramps (R127) and its trim steps (R128),
and elsewhere both stand. In every line state, with no plan, no commit left pending at a safe point and no relief that this period
can end, a line that is not tripped has each present zone's band status, in-band time, ignition and burner judged by R129, R133
and R130, and in HEATUP the settle timer by R82. With the permit closed a failing sensor test raises SENSOR_FAIL and locks the
line out, whatever else trips at this period (R177, R178). In a line that is not tripped a present circuit's valve steps by R140,
toward the setpoint it had when the period began (R142). -/
def Obligations.ControlPeriodsRampAndTrim : Prop :=
  ∀ s : State, s.line.control = some 0 →
    let p := s.params
    let controlled := s.line.state.controlled = true
    let kept := s.params.lelClearTime ≠ 0 ∨ (s.stack = [] ∧ s.line.state.granted = false) ∨
      ∃ x rest, s.stack = x :: rest ∧ x.cause = .brk ∧ x.cleared = false
    let settledStore := s.store.status = .pending → s.stack ≠ [] ∨ s.line.state.granted = false
    ∃ t, exec .controlPeriod s = .next t ∧ t.line.control = some 200 ∧ t.line.priorMinFire = none ∧
      (∀ z, s.present z = false → t.zones.get z = s.zones.get z) ∧
      (∀ z, s.present z = true →
        let a := s.zones.get z
        let b := t.zones.get z
        let lit := a.ignition = .igniting ∨ a.ignition = .proven
        let flame := s.confirmedOf (.flame z) = some .active
        let error (w : Int) := b.current - w
        (¬ controlled → b.current = a.current ∧ b.trim = a.trim) ∧
        (controlled →
          (|a.target - a.current| ≤ a.ramp → b.current = a.target) ∧
          (a.ramp < |a.target - a.current| →
            b.current = if a.current < a.target then a.current + a.ramp else a.current - a.ramp) ∧
          b.trim = min (p.trimLimit : Int) (max (-(p.trimLimit : Int))
            (match a.air.currentValue p with
              | none => a.trim
              | some w =>
                if ¬ lit then a.trim
                else if p.deadband < error w ∧ a.burner < 1000 then a.trim + p.trimStep
                else if error w < -(p.deadband : Int) ∧ p.minFire < a.burner then a.trim - p.trimStep
                else a.trim))) ∧
        (kept → settledStore → s.planner.plan = none → t.line.state = s.line.state →
          b.target = a.target ∧ b.air = a.air ∧ b.lel = a.lel ∧
          b.band = (match a.air.currentValue p with
            | none => .low
            | some w => if |w - a.target| ≤ p.bandWidth then .inBand else if a.target < w then .high else .low) ∧
          b.inBandTime = (if b.band = .inBand ∧ a.band = .inBand then min 65535 (a.inBandTime + 2) else 0) ∧
          b.ignition = (if a.ignition = .igniting ∧ flame then .proven else a.ignition) ∧
          (controlled → lit → b.burner = min 1000 (max (p.minFire : Int) (a.feedforward + b.trim))) ∧
          (controlled → ¬ lit → b.burner = 0) ∧ (s.line.state = .brk → b.burner = p.breakBurner) ∧
          (¬ controlled → s.line.state ≠ .brk → b.burner = 0))) ∧
      (s.line.state = .heatup → kept → s.planner.plan = none → t.line.state = .heatup →
        let settled := ∀ z, s.present z = true → (t.zones.get z).band = .inBand ∧ (t.zones.get z).ignition = .proven
        (settled → t.line.settle = some (s.line.settle.getD (1000 * p.settleTime))) ∧ (¬ settled → t.line.settle = none)) ∧
      (s.line.state.permitClosed = true → s.sensorTestFails = true →
        t.line.state = .lockout ∧ t.faults.pending &&& FaultCode.sensorFail.bit ≠ 0) ∧
      ∀ k, s.circuitPresent k = true → controlled → t.line.state.controlled = true →
        let a := s.circuits.get k
        (t.circuits.get k).valve = min 1000 (max (p.chillMinValve : Int)
          (match a.web.currentValue p with
            | none => a.valve
            | some w =>
              if p.deadband < w - a.setpoint then a.valve + p.trimStep
              else if w - a.setpoint < -(p.deadband : Int) then a.valve - p.trimStep else a.valve))

/-! ### The context stack and the supervisor -/

/-- A push request (R152): refused outside READY and RUN, for SPLICE outside RUN, and beneath a BREAK record; nothing where the
cause is ACTIVE; reactivation in place where it is CLEARED (R157); a new record on top of fewer than 4, with the planner as it
stood before the cause's overlay (R153); on a full stack the bottom goes, STACK_LOSS counts it and the new bottom takes the base
context (R158). The overlays act on the planner as R154 to R156 say; the relief's GRANT HELD is sent at the end of the event, behind
its DEMAND frames (R36, R155; that it waits so is the model's way, log 7). -/
def Obligations.PushesSaveThePlanner : Prop :=
  ∀ (c : Cause) (s : State),
    let k := s.planner
    let t := push c s
    let refused := s.line.state.granted = false ∨ (c = .splice ∧ s.line.state ≠ .run) ∨ ∃ r ∈ s.stack, r.cause = .brk
    let stands (b : Bool) := ∃ r, s.stack.find? (fun r => r.cause == c) = some r ∧ r.cleared = b
    let frozen := (c = .splice ∨ c = .speedLost) ∧ k.plan.isSome = true
    let bound := match s.usableSpeed with | some v => v * s.params.reliefPercent / 100 | none => 0
    let held : OwnFrame := .grant s.outlet.dest.address k.lastTag (min k.ceiling bound) .held
    let saved : Context :=
      { cause := c, cleared := false, ceiling := k.ceiling, grantRow := k.grantRow.getD 0, target := k.target,
        request := k.plan.bind Plan.request, planFrozen := decide frozen }
    let base (r : Context) : Context :=
      { r with
        ceiling := (match s.usableSpeed with | some v => min k.ceiling v | none => 0)
        grantRow := k.grantRow.getD 0, target := k.target, request := none, planFrozen := false }
    let overlaid : Prop :=
      (c = .splice ∨ c = .speedLost → t.planner = { k with plan := k.plan.map fun p => { p with frozen := true } }) ∧
      (c = .masterLost ∨ c = .brk → t.planner = { k with plan := none }) ∧
      (c = .lelRelief →
        t.planner = { k with plan := none, ceiling := min k.ceiling bound, inForce := { k.inForce with exhaust := 1000 } } ∧
          t.outlet.owed = s.outlet.owed ++ [held] ∧ SentOrLost held s (closeEvent t))
    (refused ∨ stands false → t = s) ∧
    (¬ refused → stands true → overlaid ∧
      t.stack = s.stack.map fun r => if r.cause = c then { r with cleared := false, planFrozen := decide frozen } else r) ∧
    (¬ refused → (∀ r ∈ s.stack, r.cause ≠ c) → overlaid ∧
      (s.stack.length < 4 → t.stack = saved :: s.stack) ∧
      (∀ l b a, s.stack = l ++ [b, a] → s.stack.length = 4 →
        t.stack = saved :: l ++ [base b] ∧
          t.sat.stackLoss = (if s.sat.stackLoss = 255 then 255 else s.sat.stackLoss + 1) ∧
          t.faults.pending &&& FaultCode.stackLoss.bit ≠ 0))

/-- The clear timer's expiry (R171): the relief watch is IDLE and no LEL_RELIEF record is ACTIVE. Beneath an ACTIVE record of
another cause the record is marked CLEARED and nothing else changes (R159, R160). As the only record in RUN, with no commit pending,
it is popped, and the restore sets the grant row to the smaller of the saved and the current one, with the saved ceiling bounded by
its band (R161, R162). A plan that exists is kept, with a SET_EXHAUST step at its end where the exhaust is out of step; a FROZEN one
is resumed with its head timer and clock as they stood (R163). Without one the target row is the saved one, or the grant row where
that fell, and a RESUME plan is built toward it: a RAISE that takes up the saved request where the ceiling does not reach it and the
row does (shown where its soak makes its GRANT step wait), and otherwise an ADJUST of what differs (R164). -/
def Obligations.ReliefEndsWithTheClearTimer : Prop :=
  ∀ s : State, s.supervisor.clearTimer = some 0 → s.atRest = true →
    ∃ t, exec .clearTimerExpiry s = .next t ∧ t.supervisor.reliefHeld = false ∧ t.supervisor.clearTimer = none ∧
      (∀ r ∈ t.stack, r.cause = .lelRelief → r.cleared = true) ∧
      (∀ r rest, s.stack = r :: rest → r.cleared = false → r.cause ≠ .lelRelief →
        OnlyChanges [.supervisor, .stack] s t ∧
          t.stack = s.stack.map fun x => if x.cause = .lelRelief then { x with cleared := true } else x) ∧
      (∀ b g r, s.stack = [b] → b.cause = .lelRelief → b.cleared = false → s.line.state = .run →
        s.store.status ≠ .pending → s.planner.grantRow = some g → s.store.active[min b.grantRow g]? = some r →
        let c := min b.ceiling r.high
        let target := if b.grantRow ≤ g then b.target else g
        let takenUp (q : Request) (x : Row) := s.store.active[target]? = some x ∧ c < q.speed ∧ q.speed ≤ x.high
        (∀ p, s.planner.plan = some p →
          let ending := match s.store.active[p.target]? with
            | some x =>
              if s.planner.inForce.exhaust ≠ x.exhaust ∧ p.exhaustWaits = false then [(⟨.setExhaust x.exhaust, .after 0, false⟩ : PlanStep)] else []
            | none => []
          let q := { p with frozen := false, steps := p.steps ++ ending }
          (p.frozen = false ∨ (∃ h d, p.steps[p.head]? = some h ∧ h.trigger = .after d ∧ p.headTimer < 100 * d) →
            t.stack = [] ∧ t.line = s.line ∧
              t.planner = { s.planner with grantRow := some (min b.grantRow g), ceiling := c, plan := some q }) ∧
          (p.target ≠ 0 → t.stack = [] ∧ t.line.state = .run ∧ t.planner.target = s.planner.target ∧
            (t.planner.plan = none ∨
              ∃ n, t.planner.plan = some n ∧ n.frozen = false ∧ n.request = p.request ∧ n.target = p.target ∧
                p.head ≤ n.head ∧ n.steps.map PlanStep.shape = q.steps.map PlanStep.shape))) ∧
        (s.planner.plan = none → target ≠ 0 → (∀ q x, b.request = some q → ¬ takenUp q x) →
          t.stack = [] ∧ t.planner.grantRow = some (min b.grantRow g) ∧ t.planner.ceiling = c ∧
            t.planner.target = target ∧ t.line.state = .run ∧
            ∀ x, s.store.active[target]? = some x →
              (adjustSteps (s.withStack []) target x = [] → t.planner.plan = none) ∧
              ∀ n, t.planner.plan = some n → n.origin = .resume ∧ n.ordering = .adjust ∧ n.request = none ∧
                n.target = target ∧
                n.steps.map PlanStep.shape = (adjustSteps (s.withStack []) target x).map PlanStep.shape) ∧
        (∀ q x, s.planner.plan = none → b.request = some q → takenUp q x → 1 ≤ x.soak →
          t.stack = [] ∧ t.planner.grantRow = some (min b.grantRow g) ∧ t.planner.ceiling = c ∧
            t.planner.target = target ∧ t.line.state = .run ∧
            ∃ n, t.planner.plan = some n ∧ n.origin = .resume ∧ n.ordering = .raise ∧ n.request = some q ∧
              n.target = target ∧ n.frozen = false ∧ GrantWaits n ∧
              n.steps.map PlanStep.shape = (raiseSteps (s.withStack []) target x q.speed).map PlanStep.shape))

/-- Master supervision. A BEAT moves the count, the advance run and the last sequence by R179's table and the GRANT destination
by R13, and gives the press mode of its aux octet (R9, R95); the third advance in a row ends the loss and no MASTER_LOST record
is left ACTIVE. A change of mode to SPLICE in RUN, which the end of a loss does not take to READY, leaves an ACTIVE SPLICE
record where no BREAK record stands, and a change away from SPLICE leaves none ACTIVE (R95). An interval's expiry takes an armed
count down; at 0 the loss is set and raised, and in READY and RUN pushed (R180). -/
def Obligations.MasterIsSupervised : Prop :=
  (∀ (src dst seq : Byte) (value : Half) (aux : Byte) (s : State), Passes src s →
    let v := s.supervisor
    let reload := some s.params.supervisionCount
    ∃ t, exec (.beat src dst seq value aux) s = .next t ∧ t.supervisor.lastSeq = some seq ∧
      (v.lastSeq = none → t.supervisor.count = reload ∧ t.supervisor.advanceRun = 0) ∧
      (v.lastSeq = some seq → t.supervisor.count = v.count ∧ t.supervisor.advanceRun = 0) ∧
      (∀ q, v.lastSeq = some q → seq = q + 1 →
        t.supervisor.count = reload ∧ t.supervisor.advanceRun = min 3 (v.advanceRun + 1)) ∧
      (∀ q, v.lastSeq = some q → seq ≠ q → seq ≠ q + 1 → t.supervisor.count = reload ∧ t.supervisor.advanceRun = 0) ∧
      t.sat.beatSkip = (if v.lastSeq ≠ none ∧ v.lastSeq ≠ some seq ∧ v.lastSeq ≠ some (seq - 1) then
        (if s.sat.beatSkip = 255 then 255 else s.sat.beatSkip + 1) else s.sat.beatSkip) ∧
      t.supervisor.lost = (v.lost && decide (t.supervisor.advanceRun ≠ 3)) ∧
      (v.lost = true → t.supervisor.advanceRun = 3 → ∀ r ∈ t.stack, r.cause = .masterLost → r.cleared = true) ∧
      t.line.mode = (match aux.toNat with
        | 0 => .stopped | 1 => .crawl | 2 => .print | 3 => .splice | _ => s.line.mode) ∧
      (s.line.mode ≠ .splice → aux = 3 → s.line.state = .run → t.line.state = .run → (∀ r ∈ s.stack, r.cause ≠ .brk) →
        ∃ r ∈ t.stack, r.cause = .splice ∧ r.cleared = false) ∧
      (s.line.mode = .splice → aux.toNat < 3 → ∀ r ∈ t.stack, r.cause = .splice → r.cleared = true) ∧
      t.sat.kindMismatch = (if aux.toNat ≤ 3 then s.sat.kindMismatch
        else if s.sat.kindMismatch = 255 then 255 else s.sat.kindMismatch + 1) ∧
      (∀ a, s.outlet.dest = .ask a → t.outlet.dest = .ask a) ∧
      ((∀ a, s.outlet.dest ≠ .ask a) → t.outlet.dest = .beat (addrOf src))) ∧
  ∀ s : State, s.supervisor.interval = some 0 → s.atRest = true →
    let v := s.supervisor
    ∃ t, exec .supervisionInterval s = .next t ∧
      (v.count = none ∨ v.count = some 0 → t = s.withSupervisor { v with interval := some 10 }) ∧
      (∀ n, v.count = some (n + 2) → t = s.withSupervisor { v with interval := some 10, count := some (n + 1) }) ∧
      (v.count = some 1 → t.supervisor.interval = some 10 ∧ t.supervisor.count = some 0 ∧ t.supervisor.advanceRun = 0 ∧
        t.supervisor.lost = true ∧
        (v.lost = false → t.faults.pending &&& FaultCode.masterLost.bit ≠ 0) ∧
        (v.lost = false → s.line.state.granted = true → (∀ r ∈ s.stack, r.cause ≠ .brk) →
          ∃ r ∈ t.stack, r.cause = .masterLost ∧ r.cleared = false))

/-! ### Orders -/

/-- The read orders answer DONE with the state as it stands when they are taken (the ORDER itself counted, log 24) and change
nothing (R191, R136, R149, R121, R167, R193, R59, R195, R185); an argument out of range, or a length that is not the order's, is
BAD_ARGUMENT (R188). -/
def Obligations.ReadOrdersReport : Prop :=
  ∀ (src dst tag : Byte) (data : List Byte) (s : State),
    let n := arrived s
    let arg (f : Byte → Option (List Byte)) : List Byte :=
      match data with | [b] => (match f b with | some d => 0 :: d | none => [3]) | _ => [3]
    let plain (d : List Byte) : List Byte := if data = [] then 0 :: d else [3]
    let answers (c : Instr) (d : List Byte) : Prop := TakenAlone c s → Reports c d s
    answers (.readStatus src dst tag data) (plain (statusData n)) ∧
    answers (.readZone src dst tag data) (arg fun b => (zoneOf b.toNat).map fun z => zoneData z n) ∧
    answers (.readChill src dst tag data) (arg fun b => (circuitOf b.toNat).map fun k => chillData k n) ∧
    answers (.readTransit src dst tag data) (plain (transitData n)) ∧
    answers (.readPlan src dst tag data) (arg fun b => if b.toNat ≤ 15 then some (planData b.toNat n) else none) ∧
    answers (.readStack src dst tag data) (plain (stackData n)) ∧
    answers (.readMap src dst tag data) (arg fun b => (s.entry b.toNat).map fun e => mapData b.toNat e) ∧
    (∀ which i, data = [which, i] → which.toNat ≤ 1 → i.toNat ≤ 15 →
      answers (.readRow src dst tag data)
        (0 :: rowData (if which = 0 then s.store.active else s.store.shadow) s.store.status i.toNat)) ∧
    ((∀ which i, data = [which, i] → 1 < which.toNat ∨ 15 < i.toNat) → answers (.readRow src dst tag data) [3]) ∧
    answers (.readParam src dst tag data) (arg fun b =>
      if 1 ≤ b.toNat ∧ b.toNat ≤ 30 then
        some [b, lowOctet (BitVec.ofNat 16 (s.params.get b.toNat)), highOctet (BitVec.ofNat 16 (s.params.get b.toNat))]
      else none) ∧
    answers (.readFaults src dst tag data) (plain (faultsData n))

/-- Orders that change nothing. While the reply slot is not FREE an ORDER is discarded without a REPLY, and ORDER_DROP counts it
(R187). A code that is not known is answered UNKNOWN_ORDER; a write order from another source than the manager NOT_MANAGER; a
length that is not the order's BAD_ARGUMENT; a LINE of another command BAD_ARGUMENT with reason 0 (R188, R189, R76). -/
def Obligations.OrdersAreDroppedOrRefused : Prop :=
  (∀ (c : Instr) (o : OrderFields) (s : State), orderFields c = some o → Reaches o.src o.dst s →
    o.data.length ≤ 48 → s.atRest = true → s.agent.slot ≠ .free →
      exec c s = .next ((arrived s).withSat
        { s.sat with orderDrop := if s.sat.orderDrop = 255 then 255 else s.sat.orderDrop + 1 })) ∧
  (∀ (code src dst tag : Byte) (data : List Byte) (s : State), knownOrderCode code = false →
    TakenAlone (.unknownOrder code src dst tag data) s → Reports (.unknownOrder code src dst tag data) [6] s) ∧
  (∀ (c : Instr) (o : OrderFields) (s : State), orderFields c = some o → TakenAlone c s → 0x20 ≤ o.code.toNat →
    o.code.toNat ≤ 0x2A → ¬ ManagerAdmits o.src s →
      Reports c (if o.code = 0x22 ∨ o.code = 0x25 then [5, 0, 0] else [5]) s) ∧
  ∀ (src dst tag : Byte) (data : List Byte) (s : State),
    let answers (c : Instr) (d : List Byte) : Prop := TakenAlone c s → TakenWrite c s → Reports c d s
    (lineCommandData data = false → answers (.lineBadCommand src dst tag data) [3, 0, 0]) ∧
    (data ≠ [] → answers (.commit src dst tag data) [3, 0, 0] ∧ answers (.withdraw src dst tag data) [3] ∧
      answers (.faultTake src dst tag data) [3] ∧ answers (.readCounts src dst tag data) [3] ∧
      answers (.softReset src dst tag data) [3]) ∧
    (data.length ≠ 3 → answers (.writeParam src dst tag data) [3]) ∧ (data.length ≠ 1 → answers (.setHold src dst tag data) [3]) ∧
    (data.length ≠ 2 → answers (.setFaultEnable src dst tag data) [3]) ∧
    (data = [] → answers (.writeRow src dst tag data) [3])

/-- WRITE_MAP (R24), with the octets read as R193 lays them out. Its refusals change nothing. A taken write gives the entry all
five fields; a new role replaces its runtime record (R25, R34), a new active level re-derives the confirmed state (R32), and
elsewhere the level record stands (R26); no other entry changes but in its drive record. A role written or taken away has its block
forget: a reading becomes none, of quality NONE, its age stopped (R125, R139), the tracker is in NO_SPEED, the last position none
(R52); a write of the role held forgets nothing (R52; log 21 for the readings). That the REPLY of a taken write is the
status DONE alone is the model's reading (log 20). -/
def Obligations.WriteMapGivesTheFields : Prop :=
  ∀ (src dst tag : Byte) (data : List Byte) (s : State),
    let c : Instr := .writeMap src dst tag data
    TakenWrite c s →
    (parseMap data = none → TakenAlone c s → Reports c [3] s) ∧
    ∀ ch f e, parseMap data = some (ch, f) → s.entry ch = some e →
      let open_ := s.line.state = .cold ∨ s.line.state = .lockout
      let gone : Sensor := { reading := none, quality := .none, age := none }
      let elsewhere := f.role ≠ .none ∧ f.role ≠ .forward ∧ ∃ k x, k ≠ ch ∧ s.entry k = some x ∧ x.role = f.role
      (f.role ≠ e.role → ¬ open_ → TakenAlone c s → Reports c [2] s) ∧
      (f.role ≠ e.role → open_ → elsewhere → TakenAlone c s → Reports c [3] s) ∧
      (f.role = e.role ∨ open_ → ¬ elsewhere →
        ∃ t e', Carries c [0] s t ∧ t.params = s.params ∧ t.entry ch = some e' ∧ e'.role = f.role ∧
          e'.holdGroup = f.holdGroup ∧ e'.activeHigh = f.activeHigh ∧ e'.confirmTime = f.confirmTime ∧
          e'.forward = f.forward ∧
          (∀ k x, k ≠ ch → s.entry k = some x → ∃ d, t.entry k = some { x with drive := d }) ∧
          (f.role ≠ e.role →
            (f.role.roleClass = .level → e'.level = some { raw := none, confirmed := .unknown, timer := none }) ∧
            (f.role.roleClass ≠ .level → e'.level = none) ∧ (e'.drive.isSome = true ↔ f.role.roleClass = .drive) ∧
            (∀ r, r = e.role ∨ r = f.role →
              (∀ z, r = .zoneAir z → (t.zones.get z).air = gone) ∧ (∀ z, r = .lel z → (t.zones.get z).lel = gone) ∧
              (∀ k, r = .chillWeb k → (t.circuits.get k).web = gone) ∧
              (r = .speed → t.tracker =
                { state := .noSpeed, speed := 0, predecessor := none, count := 0, rejections := 0, age := none
                  lastPosition := t.tracker.lastPosition }) ∧
              (r = .position → t.tracker.lastPosition = none)) ∧
            (e.role ≠ .position → f.role ≠ .position → t.tracker.lastPosition = s.tracker.lastPosition) ∧
            (e.role ≠ .speed → f.role ≠ .speed →
              t.tracker = { s.tracker with lastPosition := t.tracker.lastPosition })) ∧
          (f.role = e.role → t.tracker = s.tracker ∧
            (∀ z, (t.zones.get z).air = (s.zones.get z).air ∧ (t.zones.get z).lel = (s.zones.get z).lel) ∧
            (∀ k, (t.circuits.get k).web = (s.circuits.get k).web) ∧
            (e'.drive.isSome = e.drive.isSome) ∧ (f.activeHigh = e.activeHigh → e'.level = e.level) ∧
            (f.activeHigh ≠ e.activeHigh → ∀ r, e.level = some r →
              (r.raw = none → e'.level = some { r with timer := none }) ∧
              ∀ b, r.raw = some b → e'.level = some
                { r with confirmed := if b = f.activeHigh then .active else .inactive, timer := none })))

/-- WRITE_PARAM (R195): an id or a value out of range and a cross-condition that fails are BAD_ARGUMENT (R70, R172, R189), a
PATH_LENGTH outside COLD is REFUSED_STATE (R148), and these change nothing; a taken write replaces that value and no other, and
answers DONE with the id and the value; of the value already held it changes nothing else (log 29). Of MIN_FIRE it changes no
burner demand: in HEATUP, READY and RUN the value from before it acts until the next control period (R130; elsewhere log 33). -/
def Obligations.WriteParamReplacesOneValue : Prop :=
  ∀ (src dst tag i lo hi : Byte) (s : State),
    let c : Instr := .writeParam src dst tag [i, lo, hi]
    let id := i.toNat
    let v := lo.toNat + 256 * hi.toNat
    let p := s.params
    let reaches (t : List Row) := ∀ r rs, t = r :: rs → (v : Int) ≤ r.high
    let fits :=
      (id = 2 → reaches s.store.active ∧ (s.store.status = .pending → reaches s.store.shadow)) ∧
      (id = 18 → v + 50 ≤ p.lelTrip) ∧ (id = 19 → p.lelWarn + 50 ≤ v) ∧ (id = 29 → v ≠ s.link.own.toNat)
    TakenWrite c s →
      (paramRange id = none → TakenAlone c s → Reports c [3] s) ∧
      ∀ least most, paramRange id = some (least, most) →
        let inRange := least ≤ v ∧ v ≤ most
        (¬ (inRange ∧ fits) → TakenAlone c s → Reports c [3] s) ∧
        (inRange → fits → id = 27 → s.line.state ≠ .cold → TakenAlone c s → Reports c [2] s) ∧
        (inRange → fits → (id = 27 → s.line.state = .cold) →
          ∃ t, Carries c [0, i, lo, hi] s t ∧ t.params.get id = v ∧ (∀ k, k ≠ id → t.params.get k = p.get k) ∧
            (p.get id = v → OnlyChanges [.link, .outlet, .sat, .agent] s t) ∧
            (id = 7 → p.get id ≠ v → OnlyChanges [.link, .outlet, .sat, .line, .agent] s t ∧
              t.line = { s.line with
                priorMinFire := if s.line.state.controlled then some (s.line.priorMinFire.getD p.minFire) else none }) ∧
            (id ≠ 7 → t.line.priorMinFire = s.line.priorMinFire))

/-- SET_HOLD sets all eight flags in any line state (R39), and touches the drive records alone beside them: a hold that begins
holds the sent demand as it stands (R40), one that ends gives the computed demand back (R41). SET_FAULT_ENABLE sets every
entry's enable, and the FAULT output follows (R184). FAULT_TAKE takes the pending untaken entry of highest priority and says
whether it is still pending, which it is exactly while its condition is present (R183, R185); that an entry which leaves at
its take keeps its taken part is the model's reading (log 10), and so are a REPLY of the status DONE alone to the first two (log 20)
and the octet 0 beside code 0 where there is none to take (log 34). -/
def Obligations.HoldsAndFaultOrdersTakeEffect : Prop :=
  ∀ (src dst tag : Byte) (s : State),
    (∀ m, TakenWrite (.setHold src dst tag [m]) s → ∃ t, Carries (.setHold src dst tag [m]) [0] s t ∧ t.holds = m ∧
      OnlyChanges [.link, .outlet, .sat, .channels, .holds, .agent] s t ∧ t.params = s.params ∧
      ∀ ch e d, s.entry ch = some e → e.drive = some d →
        (t.underHold e = s.underHold e → t.entry ch = some e) ∧
        (s.underHold e = false → t.underHold e = true →
          t.entry ch = some { e with drive := some { d with held := some d.sent } }) ∧
        (s.underHold e = true → t.underHold e = false → ∃ n, t.entry ch = some
          { e with drive := some { computed := d.computed, sent := d.computed, held := none, refresh := n, owed := false } })) ∧
    (∀ lo hi, TakenWrite (.setFaultEnable src dst tag [lo, hi]) s →
      ∃ t, Carries (.setFaultEnable src dst tag [lo, hi]) [0] s t ∧
        OnlyChanges [.link, .outlet, .sat, .faults, .agent] s t ∧
        t.faults = { s.faults with
          enable := halfOf lo hi, out := decide (s.faults.pending &&& halfOf lo hi ≠ 0) }) ∧
    (TakenWrite (.faultTake src dst tag []) s →
      let next (e : FaultCode) := s.faults.pending &&& e.bit ≠ 0 ∧ s.faults.taken &&& e.bit = 0
      ((∀ e, ¬ next e) → TakenAlone (.faultTake src dst tag []) s → Reports (.faultTake src dst tag []) [0, 0, 0] s) ∧
      ∀ e, next e → (∀ f, f.code < e.code → ¬ next f) →
        let still := faultCondition s e
        ∃ t, Carries (.faultTake src dst tag []) [0, BitVec.ofNat 8 e.code, if still then 1 else 0] s t ∧
          OnlyChanges [.link, .outlet, .sat, .faults, .agent] s t ∧ t.faults.taken = s.faults.taken ||| e.bit ∧
          t.faults.enable = s.faults.enable ∧
          t.faults.pending = if still then s.faults.pending else s.faults.pending &&& ~~~ e.bit)

/-- READ_COUNTS answers the fourteen counters and clears the eight saturating ones (R19, R20, R194; with the ORDER itself counted,
log 24). SOFT_RESET is taken in COLD and LOCKOUT and waits for its REPLY (R196); when that has left, every block takes its reset
values under RETAIN (R197, R21, R42, R55, R72, R96, R122, R137, R150, R168, R186, R195), and the own address, the through buffer, the
wrapping counters, the run count, the ring silence timer and RING_SILENT stay. -/
def Obligations.CountsAndSoftReset : Prop :=
  (∀ (src dst tag : Byte) (s : State), TakenAlone (.readCounts src dst tag []) s → TakenWrite (.readCounts src dst tag []) s →
    let w := s.link.wrap
    let x := s.sat
    ∃ o t, orderFields (.readCounts src dst tag []) = some o ∧ exec (.readCounts src dst tag []) s = .next t ∧
      Answered o [0, w.rxGood + 1, w.txThrough, w.rxConsumed + 1, w.rxStripped, w.throughDrop, w.txInserted, x.rxCheckErr,
        x.insertLoss, x.orderDrop, x.beatSkip, x.kindMismatch, x.positionReject, x.stackLoss, x.transitForced] s t ∧
      OnlyChanges [.link, .outlet, .sat, .agent] s t ∧ t.sat = ⟨0, 0, 0, 0, 0, 0, 0, 0⟩ ∧ t.params = s.params) ∧
  (∀ (src dst tag : Byte) (s : State), TakenAlone (.softReset src dst tag []) s → TakenWrite (.softReset src dst tag []) s →
    (s.line.state ≠ .cold → s.line.state ≠ .lockout → Reports (.softReset src dst tag []) [2] s) ∧
    (s.line.state = .cold ∨ s.line.state = .lockout →
      ∃ t, exec (.softReset src dst tag []) s = .next t ∧ OnlyChanges [.link, .outlet, .agent] s t ∧
        t.agent = { s.agent with slot := .resetPending } ∧ Sends (.reply (addrOf src) 0x2A tag [0]) t)) ∧
  ∀ (dst : Addr) (tag : Byte) (s : State), s.outlet.port = some (.inserted (.reply dst 0x2A tag [0])) →
    s.agent.slot = .resetPending →
    let kept := s.params.retain = 1
    let renewed (e : Entry) : Entry :=
      { e with
        level := if e.role.roleClass = .level then some { raw := none, confirmed := .unknown, timer := none } else none
        drive := if e.role.roleClass = .drive then
            some { computed := 0, sent := 0, held := none, refresh := 500, owed := false } else none }
    ∃ t, exec .txFrameDone s = .next t ∧ Fresh t ∧ t.line.control = some 200 ∧ t.supervisor.interval = some 10 ∧
      t.link = { s.link with
        through := s.link.through.map (fun f => { f with subst := none })
        wrap := { s.link.wrap with txInserted := s.link.wrap.txInserted + 1 } } ∧
      (s.link.through = [] → t.outlet.port = none ∧ t.outlet.runCount = s.outlet.runCount) ∧
      t.pending = s.pending ∧
      (kept → t.store.active = s.store.active ∧ t.store.shadow = s.store.shadow ∧ t.params = s.params ∧
        t.faults.enable = s.faults.enable ∧ t.channels = s.channels.map renewed) ∧
      (¬ kept → s.channels.length = 128 → Unconfigured t)

/-! ### Capacities -/

/-- Every step keeps the queues, the two copies of the table and the plan within their capacities, waiting frames apart in their
keys, causes apart in the stack, and a plan's DONE steps before its head (R11, R14, R16, R22, R56, R101, R143, R151, R163). -/
def Obligations.CapacitiesAndOrderAreKept : Prop :=
  ∀ s t : State, LineSound s → Bounded s → planSized s → keysDiffer s.outlet.queue → causesDiffer s → planOrdered s →
    step s = .next t →
    Bounded t ∧ planSized t ∧ keysDiffer t.outlet.queue ∧ causesDiffer t ∧ planOrdered t

/-- State.reset is at rest and has every invariant; it is the part with every block at its power-on values (R21, R42, R55, R72, R96,
R122, R137, R150, R168, R186, R195, R198), the two timers of the release running and no command waiting. Its own address, the
instant it stands for and the model's own counter are the model's choices (logs 4, 5 and 27). -/
def Obligations.ResetHasEveryInvariant : Prop :=
  let s := State.reset
  s.atRest = true ∧ LineSound s ∧ StoreSound s ∧ GrantSound s ∧ paramsSound s.params ∧ goodConserved s ∧ throughHeld s ∧
    Bounded s ∧ planSized s ∧ keysDiffer s.outlet.queue ∧ causesDiffer s ∧ planOrdered s ∧ Fresh s ∧ Unconfigured s ∧
    s.link.phase = .waitingGap ∧ s.link.through = [] ∧ s.link.wrap = ⟨0, 0, 0, 0, 0, 0⟩ ∧ s.link.silence = none ∧
    s.link.ringSilent = false ∧ s.outlet.port = none ∧ s.outlet.runCount = 0 ∧ s.line.control = some 200 ∧
    s.supervisor.interval = some 10 ∧ s.pending = []
end

