-- ==== Sys2Proof/Laws/State.lean ====
section
/-! SUPPORT. One lemma per block per update of the state: the block an update replaces has its new value, and every other
block is as before. -/

namespace Sys2Proof.Machine

@[simp] theorem State.withLink_link (s : State) (x : Link) : (s.withLink x).link = x := rfl
@[simp] theorem State.withLink_outlet (s : State) (x : Link) : (s.withLink x).outlet = s.outlet := rfl
@[simp] theorem State.withLink_sat (s : State) (x : Link) : (s.withLink x).sat = s.sat := rfl
@[simp] theorem State.withLink_channels (s : State) (x : Link) : (s.withLink x).channels = s.channels := rfl
@[simp] theorem State.withLink_holds (s : State) (x : Link) : (s.withLink x).holds = s.holds := rfl
@[simp] theorem State.withLink_tracker (s : State) (x : Link) : (s.withLink x).tracker = s.tracker := rfl
@[simp] theorem State.withLink_store (s : State) (x : Link) : (s.withLink x).store = s.store := rfl
@[simp] theorem State.withLink_line (s : State) (x : Link) : (s.withLink x).line = s.line := rfl
@[simp] theorem State.withLink_planner (s : State) (x : Link) : (s.withLink x).planner = s.planner := rfl
@[simp] theorem State.withLink_zones (s : State) (x : Link) : (s.withLink x).zones = s.zones := rfl
@[simp] theorem State.withLink_circuits (s : State) (x : Link) : (s.withLink x).circuits = s.circuits := rfl
@[simp] theorem State.withLink_transit (s : State) (x : Link) : (s.withLink x).transit = s.transit := rfl
@[simp] theorem State.withLink_stack (s : State) (x : Link) : (s.withLink x).stack = s.stack := rfl
@[simp] theorem State.withLink_supervisor (s : State) (x : Link) : (s.withLink x).supervisor = s.supervisor := rfl
@[simp] theorem State.withLink_faults (s : State) (x : Link) : (s.withLink x).faults = s.faults := rfl
@[simp] theorem State.withLink_agent (s : State) (x : Link) : (s.withLink x).agent = s.agent := rfl
@[simp] theorem State.withLink_freeCount (s : State) (x : Link) : (s.withLink x).freeCount = s.freeCount := rfl
@[simp] theorem State.withLink_pending (s : State) (x : Link) : (s.withLink x).pending = s.pending := rfl
@[simp] theorem State.withOutlet_link (s : State) (x : Outlet) : (s.withOutlet x).link = s.link := rfl
@[simp] theorem State.withOutlet_outlet (s : State) (x : Outlet) : (s.withOutlet x).outlet = x := rfl
@[simp] theorem State.withOutlet_sat (s : State) (x : Outlet) : (s.withOutlet x).sat = s.sat := rfl
@[simp] theorem State.withOutlet_channels (s : State) (x : Outlet) : (s.withOutlet x).channels = s.channels := rfl
@[simp] theorem State.withOutlet_holds (s : State) (x : Outlet) : (s.withOutlet x).holds = s.holds := rfl
@[simp] theorem State.withOutlet_tracker (s : State) (x : Outlet) : (s.withOutlet x).tracker = s.tracker := rfl
@[simp] theorem State.withOutlet_store (s : State) (x : Outlet) : (s.withOutlet x).store = s.store := rfl
@[simp] theorem State.withOutlet_line (s : State) (x : Outlet) : (s.withOutlet x).line = s.line := rfl
@[simp] theorem State.withOutlet_planner (s : State) (x : Outlet) : (s.withOutlet x).planner = s.planner := rfl
@[simp] theorem State.withOutlet_zones (s : State) (x : Outlet) : (s.withOutlet x).zones = s.zones := rfl
@[simp] theorem State.withOutlet_circuits (s : State) (x : Outlet) : (s.withOutlet x).circuits = s.circuits := rfl
@[simp] theorem State.withOutlet_transit (s : State) (x : Outlet) : (s.withOutlet x).transit = s.transit := rfl
@[simp] theorem State.withOutlet_stack (s : State) (x : Outlet) : (s.withOutlet x).stack = s.stack := rfl
@[simp] theorem State.withOutlet_supervisor (s : State) (x : Outlet) : (s.withOutlet x).supervisor = s.supervisor := rfl
@[simp] theorem State.withOutlet_faults (s : State) (x : Outlet) : (s.withOutlet x).faults = s.faults := rfl
@[simp] theorem State.withOutlet_agent (s : State) (x : Outlet) : (s.withOutlet x).agent = s.agent := rfl
@[simp] theorem State.withOutlet_freeCount (s : State) (x : Outlet) : (s.withOutlet x).freeCount = s.freeCount := rfl
@[simp] theorem State.withOutlet_pending (s : State) (x : Outlet) : (s.withOutlet x).pending = s.pending := rfl
@[simp] theorem State.withSat_link (s : State) (x : SatCounts) : (s.withSat x).link = s.link := rfl
@[simp] theorem State.withSat_outlet (s : State) (x : SatCounts) : (s.withSat x).outlet = s.outlet := rfl
@[simp] theorem State.withSat_sat (s : State) (x : SatCounts) : (s.withSat x).sat = x := rfl
@[simp] theorem State.withSat_channels (s : State) (x : SatCounts) : (s.withSat x).channels = s.channels := rfl
@[simp] theorem State.withSat_holds (s : State) (x : SatCounts) : (s.withSat x).holds = s.holds := rfl
@[simp] theorem State.withSat_tracker (s : State) (x : SatCounts) : (s.withSat x).tracker = s.tracker := rfl
@[simp] theorem State.withSat_store (s : State) (x : SatCounts) : (s.withSat x).store = s.store := rfl
@[simp] theorem State.withSat_line (s : State) (x : SatCounts) : (s.withSat x).line = s.line := rfl
@[simp] theorem State.withSat_planner (s : State) (x : SatCounts) : (s.withSat x).planner = s.planner := rfl
@[simp] theorem State.withSat_zones (s : State) (x : SatCounts) : (s.withSat x).zones = s.zones := rfl
@[simp] theorem State.withSat_circuits (s : State) (x : SatCounts) : (s.withSat x).circuits = s.circuits := rfl
@[simp] theorem State.withSat_transit (s : State) (x : SatCounts) : (s.withSat x).transit = s.transit := rfl
@[simp] theorem State.withSat_stack (s : State) (x : SatCounts) : (s.withSat x).stack = s.stack := rfl
@[simp] theorem State.withSat_supervisor (s : State) (x : SatCounts) : (s.withSat x).supervisor = s.supervisor := rfl
@[simp] theorem State.withSat_faults (s : State) (x : SatCounts) : (s.withSat x).faults = s.faults := rfl
@[simp] theorem State.withSat_agent (s : State) (x : SatCounts) : (s.withSat x).agent = s.agent := rfl
@[simp] theorem State.withSat_freeCount (s : State) (x : SatCounts) : (s.withSat x).freeCount = s.freeCount := rfl
@[simp] theorem State.withSat_pending (s : State) (x : SatCounts) : (s.withSat x).pending = s.pending := rfl
@[simp] theorem State.withChannels_link (s : State) (x : List Entry) : (s.withChannels x).link = s.link := rfl
@[simp] theorem State.withChannels_outlet (s : State) (x : List Entry) : (s.withChannels x).outlet = s.outlet := rfl
@[simp] theorem State.withChannels_sat (s : State) (x : List Entry) : (s.withChannels x).sat = s.sat := rfl
@[simp] theorem State.withChannels_channels (s : State) (x : List Entry) : (s.withChannels x).channels = x := rfl
@[simp] theorem State.withChannels_holds (s : State) (x : List Entry) : (s.withChannels x).holds = s.holds := rfl
@[simp] theorem State.withChannels_tracker (s : State) (x : List Entry) : (s.withChannels x).tracker = s.tracker := rfl
@[simp] theorem State.withChannels_store (s : State) (x : List Entry) : (s.withChannels x).store = s.store := rfl
@[simp] theorem State.withChannels_line (s : State) (x : List Entry) : (s.withChannels x).line = s.line := rfl
@[simp] theorem State.withChannels_planner (s : State) (x : List Entry) : (s.withChannels x).planner = s.planner := rfl
@[simp] theorem State.withChannels_zones (s : State) (x : List Entry) : (s.withChannels x).zones = s.zones := rfl
@[simp] theorem State.withChannels_circuits (s : State) (x : List Entry) : (s.withChannels x).circuits = s.circuits := rfl
@[simp] theorem State.withChannels_transit (s : State) (x : List Entry) : (s.withChannels x).transit = s.transit := rfl
@[simp] theorem State.withChannels_stack (s : State) (x : List Entry) : (s.withChannels x).stack = s.stack := rfl
@[simp] theorem State.withChannels_supervisor (s : State) (x : List Entry) : (s.withChannels x).supervisor = s.supervisor := rfl
@[simp] theorem State.withChannels_faults (s : State) (x : List Entry) : (s.withChannels x).faults = s.faults := rfl
@[simp] theorem State.withChannels_agent (s : State) (x : List Entry) : (s.withChannels x).agent = s.agent := rfl
@[simp] theorem State.withChannels_freeCount (s : State) (x : List Entry) : (s.withChannels x).freeCount = s.freeCount := rfl
@[simp] theorem State.withChannels_pending (s : State) (x : List Entry) : (s.withChannels x).pending = s.pending := rfl
@[simp] theorem State.withHolds_link (s : State) (x : Byte) : (s.withHolds x).link = s.link := rfl
@[simp] theorem State.withHolds_outlet (s : State) (x : Byte) : (s.withHolds x).outlet = s.outlet := rfl
@[simp] theorem State.withHolds_sat (s : State) (x : Byte) : (s.withHolds x).sat = s.sat := rfl
@[simp] theorem State.withHolds_channels (s : State) (x : Byte) : (s.withHolds x).channels = s.channels := rfl
@[simp] theorem State.withHolds_holds (s : State) (x : Byte) : (s.withHolds x).holds = x := rfl
@[simp] theorem State.withHolds_tracker (s : State) (x : Byte) : (s.withHolds x).tracker = s.tracker := rfl
@[simp] theorem State.withHolds_store (s : State) (x : Byte) : (s.withHolds x).store = s.store := rfl
@[simp] theorem State.withHolds_line (s : State) (x : Byte) : (s.withHolds x).line = s.line := rfl
@[simp] theorem State.withHolds_planner (s : State) (x : Byte) : (s.withHolds x).planner = s.planner := rfl
@[simp] theorem State.withHolds_zones (s : State) (x : Byte) : (s.withHolds x).zones = s.zones := rfl
@[simp] theorem State.withHolds_circuits (s : State) (x : Byte) : (s.withHolds x).circuits = s.circuits := rfl
@[simp] theorem State.withHolds_transit (s : State) (x : Byte) : (s.withHolds x).transit = s.transit := rfl
@[simp] theorem State.withHolds_stack (s : State) (x : Byte) : (s.withHolds x).stack = s.stack := rfl
@[simp] theorem State.withHolds_supervisor (s : State) (x : Byte) : (s.withHolds x).supervisor = s.supervisor := rfl
@[simp] theorem State.withHolds_faults (s : State) (x : Byte) : (s.withHolds x).faults = s.faults := rfl
@[simp] theorem State.withHolds_agent (s : State) (x : Byte) : (s.withHolds x).agent = s.agent := rfl
@[simp] theorem State.withHolds_freeCount (s : State) (x : Byte) : (s.withHolds x).freeCount = s.freeCount := rfl
@[simp] theorem State.withHolds_pending (s : State) (x : Byte) : (s.withHolds x).pending = s.pending := rfl
@[simp] theorem State.withTracker_link (s : State) (x : Tracker) : (s.withTracker x).link = s.link := rfl
@[simp] theorem State.withTracker_outlet (s : State) (x : Tracker) : (s.withTracker x).outlet = s.outlet := rfl
@[simp] theorem State.withTracker_sat (s : State) (x : Tracker) : (s.withTracker x).sat = s.sat := rfl
@[simp] theorem State.withTracker_channels (s : State) (x : Tracker) : (s.withTracker x).channels = s.channels := rfl
@[simp] theorem State.withTracker_holds (s : State) (x : Tracker) : (s.withTracker x).holds = s.holds := rfl
@[simp] theorem State.withTracker_tracker (s : State) (x : Tracker) : (s.withTracker x).tracker = x := rfl
@[simp] theorem State.withTracker_store (s : State) (x : Tracker) : (s.withTracker x).store = s.store := rfl
@[simp] theorem State.withTracker_line (s : State) (x : Tracker) : (s.withTracker x).line = s.line := rfl
@[simp] theorem State.withTracker_planner (s : State) (x : Tracker) : (s.withTracker x).planner = s.planner := rfl
@[simp] theorem State.withTracker_zones (s : State) (x : Tracker) : (s.withTracker x).zones = s.zones := rfl
@[simp] theorem State.withTracker_circuits (s : State) (x : Tracker) : (s.withTracker x).circuits = s.circuits := rfl
@[simp] theorem State.withTracker_transit (s : State) (x : Tracker) : (s.withTracker x).transit = s.transit := rfl
@[simp] theorem State.withTracker_stack (s : State) (x : Tracker) : (s.withTracker x).stack = s.stack := rfl
@[simp] theorem State.withTracker_supervisor (s : State) (x : Tracker) : (s.withTracker x).supervisor = s.supervisor := rfl
@[simp] theorem State.withTracker_faults (s : State) (x : Tracker) : (s.withTracker x).faults = s.faults := rfl
@[simp] theorem State.withTracker_agent (s : State) (x : Tracker) : (s.withTracker x).agent = s.agent := rfl
@[simp] theorem State.withTracker_freeCount (s : State) (x : Tracker) : (s.withTracker x).freeCount = s.freeCount := rfl
@[simp] theorem State.withTracker_pending (s : State) (x : Tracker) : (s.withTracker x).pending = s.pending := rfl
@[simp] theorem State.withStore_link (s : State) (x : Store) : (s.withStore x).link = s.link := rfl
@[simp] theorem State.withStore_outlet (s : State) (x : Store) : (s.withStore x).outlet = s.outlet := rfl
@[simp] theorem State.withStore_sat (s : State) (x : Store) : (s.withStore x).sat = s.sat := rfl
@[simp] theorem State.withStore_channels (s : State) (x : Store) : (s.withStore x).channels = s.channels := rfl
@[simp] theorem State.withStore_holds (s : State) (x : Store) : (s.withStore x).holds = s.holds := rfl
@[simp] theorem State.withStore_tracker (s : State) (x : Store) : (s.withStore x).tracker = s.tracker := rfl
@[simp] theorem State.withStore_store (s : State) (x : Store) : (s.withStore x).store = x := rfl
@[simp] theorem State.withStore_line (s : State) (x : Store) : (s.withStore x).line = s.line := rfl
@[simp] theorem State.withStore_planner (s : State) (x : Store) : (s.withStore x).planner = s.planner := rfl
@[simp] theorem State.withStore_zones (s : State) (x : Store) : (s.withStore x).zones = s.zones := rfl
@[simp] theorem State.withStore_circuits (s : State) (x : Store) : (s.withStore x).circuits = s.circuits := rfl
@[simp] theorem State.withStore_transit (s : State) (x : Store) : (s.withStore x).transit = s.transit := rfl
@[simp] theorem State.withStore_stack (s : State) (x : Store) : (s.withStore x).stack = s.stack := rfl
@[simp] theorem State.withStore_supervisor (s : State) (x : Store) : (s.withStore x).supervisor = s.supervisor := rfl
@[simp] theorem State.withStore_faults (s : State) (x : Store) : (s.withStore x).faults = s.faults := rfl
@[simp] theorem State.withStore_agent (s : State) (x : Store) : (s.withStore x).agent = s.agent := rfl
@[simp] theorem State.withStore_freeCount (s : State) (x : Store) : (s.withStore x).freeCount = s.freeCount := rfl
@[simp] theorem State.withStore_pending (s : State) (x : Store) : (s.withStore x).pending = s.pending := rfl
@[simp] theorem State.withLine_link (s : State) (x : Line) : (s.withLine x).link = s.link := rfl
@[simp] theorem State.withLine_outlet (s : State) (x : Line) : (s.withLine x).outlet = s.outlet := rfl
@[simp] theorem State.withLine_sat (s : State) (x : Line) : (s.withLine x).sat = s.sat := rfl
@[simp] theorem State.withLine_channels (s : State) (x : Line) : (s.withLine x).channels = s.channels := rfl
@[simp] theorem State.withLine_holds (s : State) (x : Line) : (s.withLine x).holds = s.holds := rfl
@[simp] theorem State.withLine_tracker (s : State) (x : Line) : (s.withLine x).tracker = s.tracker := rfl
@[simp] theorem State.withLine_store (s : State) (x : Line) : (s.withLine x).store = s.store := rfl
@[simp] theorem State.withLine_line (s : State) (x : Line) : (s.withLine x).line = x := rfl
@[simp] theorem State.withLine_planner (s : State) (x : Line) : (s.withLine x).planner = s.planner := rfl
@[simp] theorem State.withLine_zones (s : State) (x : Line) : (s.withLine x).zones = s.zones := rfl
@[simp] theorem State.withLine_circuits (s : State) (x : Line) : (s.withLine x).circuits = s.circuits := rfl
@[simp] theorem State.withLine_transit (s : State) (x : Line) : (s.withLine x).transit = s.transit := rfl
@[simp] theorem State.withLine_stack (s : State) (x : Line) : (s.withLine x).stack = s.stack := rfl
@[simp] theorem State.withLine_supervisor (s : State) (x : Line) : (s.withLine x).supervisor = s.supervisor := rfl
@[simp] theorem State.withLine_faults (s : State) (x : Line) : (s.withLine x).faults = s.faults := rfl
@[simp] theorem State.withLine_agent (s : State) (x : Line) : (s.withLine x).agent = s.agent := rfl
@[simp] theorem State.withLine_freeCount (s : State) (x : Line) : (s.withLine x).freeCount = s.freeCount := rfl
@[simp] theorem State.withLine_pending (s : State) (x : Line) : (s.withLine x).pending = s.pending := rfl
@[simp] theorem State.withPlanner_link (s : State) (x : Planner) : (s.withPlanner x).link = s.link := rfl
@[simp] theorem State.withPlanner_outlet (s : State) (x : Planner) : (s.withPlanner x).outlet = s.outlet := rfl
@[simp] theorem State.withPlanner_sat (s : State) (x : Planner) : (s.withPlanner x).sat = s.sat := rfl
@[simp] theorem State.withPlanner_channels (s : State) (x : Planner) : (s.withPlanner x).channels = s.channels := rfl
@[simp] theorem State.withPlanner_holds (s : State) (x : Planner) : (s.withPlanner x).holds = s.holds := rfl
@[simp] theorem State.withPlanner_tracker (s : State) (x : Planner) : (s.withPlanner x).tracker = s.tracker := rfl
@[simp] theorem State.withPlanner_store (s : State) (x : Planner) : (s.withPlanner x).store = s.store := rfl
@[simp] theorem State.withPlanner_line (s : State) (x : Planner) : (s.withPlanner x).line = s.line := rfl
@[simp] theorem State.withPlanner_planner (s : State) (x : Planner) : (s.withPlanner x).planner = x := rfl
@[simp] theorem State.withPlanner_zones (s : State) (x : Planner) : (s.withPlanner x).zones = s.zones := rfl
@[simp] theorem State.withPlanner_circuits (s : State) (x : Planner) : (s.withPlanner x).circuits = s.circuits := rfl
@[simp] theorem State.withPlanner_transit (s : State) (x : Planner) : (s.withPlanner x).transit = s.transit := rfl
@[simp] theorem State.withPlanner_stack (s : State) (x : Planner) : (s.withPlanner x).stack = s.stack := rfl
@[simp] theorem State.withPlanner_supervisor (s : State) (x : Planner) : (s.withPlanner x).supervisor = s.supervisor := rfl
@[simp] theorem State.withPlanner_faults (s : State) (x : Planner) : (s.withPlanner x).faults = s.faults := rfl
@[simp] theorem State.withPlanner_agent (s : State) (x : Planner) : (s.withPlanner x).agent = s.agent := rfl
@[simp] theorem State.withPlanner_freeCount (s : State) (x : Planner) : (s.withPlanner x).freeCount = s.freeCount := rfl
@[simp] theorem State.withPlanner_pending (s : State) (x : Planner) : (s.withPlanner x).pending = s.pending := rfl
@[simp] theorem State.withZones_link (s : State) (x : PerZone ZoneRec) : (s.withZones x).link = s.link := rfl
@[simp] theorem State.withZones_outlet (s : State) (x : PerZone ZoneRec) : (s.withZones x).outlet = s.outlet := rfl
@[simp] theorem State.withZones_sat (s : State) (x : PerZone ZoneRec) : (s.withZones x).sat = s.sat := rfl
@[simp] theorem State.withZones_channels (s : State) (x : PerZone ZoneRec) : (s.withZones x).channels = s.channels := rfl
@[simp] theorem State.withZones_holds (s : State) (x : PerZone ZoneRec) : (s.withZones x).holds = s.holds := rfl
@[simp] theorem State.withZones_tracker (s : State) (x : PerZone ZoneRec) : (s.withZones x).tracker = s.tracker := rfl
@[simp] theorem State.withZones_store (s : State) (x : PerZone ZoneRec) : (s.withZones x).store = s.store := rfl
@[simp] theorem State.withZones_line (s : State) (x : PerZone ZoneRec) : (s.withZones x).line = s.line := rfl
@[simp] theorem State.withZones_planner (s : State) (x : PerZone ZoneRec) : (s.withZones x).planner = s.planner := rfl
@[simp] theorem State.withZones_zones (s : State) (x : PerZone ZoneRec) : (s.withZones x).zones = x := rfl
@[simp] theorem State.withZones_circuits (s : State) (x : PerZone ZoneRec) : (s.withZones x).circuits = s.circuits := rfl
@[simp] theorem State.withZones_transit (s : State) (x : PerZone ZoneRec) : (s.withZones x).transit = s.transit := rfl
@[simp] theorem State.withZones_stack (s : State) (x : PerZone ZoneRec) : (s.withZones x).stack = s.stack := rfl
@[simp] theorem State.withZones_supervisor (s : State) (x : PerZone ZoneRec) : (s.withZones x).supervisor = s.supervisor := rfl
@[simp] theorem State.withZones_faults (s : State) (x : PerZone ZoneRec) : (s.withZones x).faults = s.faults := rfl
@[simp] theorem State.withZones_agent (s : State) (x : PerZone ZoneRec) : (s.withZones x).agent = s.agent := rfl
@[simp] theorem State.withZones_freeCount (s : State) (x : PerZone ZoneRec) : (s.withZones x).freeCount = s.freeCount := rfl
@[simp] theorem State.withZones_pending (s : State) (x : PerZone ZoneRec) : (s.withZones x).pending = s.pending := rfl
@[simp] theorem State.withCircuits_link (s : State) (x : PerCircuit CircuitRec) : (s.withCircuits x).link = s.link := rfl
@[simp] theorem State.withCircuits_outlet (s : State) (x : PerCircuit CircuitRec) : (s.withCircuits x).outlet = s.outlet := rfl
@[simp] theorem State.withCircuits_sat (s : State) (x : PerCircuit CircuitRec) : (s.withCircuits x).sat = s.sat := rfl
@[simp] theorem State.withCircuits_channels (s : State) (x : PerCircuit CircuitRec) : (s.withCircuits x).channels = s.channels := rfl
@[simp] theorem State.withCircuits_holds (s : State) (x : PerCircuit CircuitRec) : (s.withCircuits x).holds = s.holds := rfl
@[simp] theorem State.withCircuits_tracker (s : State) (x : PerCircuit CircuitRec) : (s.withCircuits x).tracker = s.tracker := rfl
@[simp] theorem State.withCircuits_store (s : State) (x : PerCircuit CircuitRec) : (s.withCircuits x).store = s.store := rfl
@[simp] theorem State.withCircuits_line (s : State) (x : PerCircuit CircuitRec) : (s.withCircuits x).line = s.line := rfl
@[simp] theorem State.withCircuits_planner (s : State) (x : PerCircuit CircuitRec) : (s.withCircuits x).planner = s.planner := rfl
@[simp] theorem State.withCircuits_zones (s : State) (x : PerCircuit CircuitRec) : (s.withCircuits x).zones = s.zones := rfl
@[simp] theorem State.withCircuits_circuits (s : State) (x : PerCircuit CircuitRec) : (s.withCircuits x).circuits = x := rfl
@[simp] theorem State.withCircuits_transit (s : State) (x : PerCircuit CircuitRec) : (s.withCircuits x).transit = s.transit := rfl
@[simp] theorem State.withCircuits_stack (s : State) (x : PerCircuit CircuitRec) : (s.withCircuits x).stack = s.stack := rfl
@[simp] theorem State.withCircuits_supervisor (s : State) (x : PerCircuit CircuitRec) : (s.withCircuits x).supervisor = s.supervisor := rfl
@[simp] theorem State.withCircuits_faults (s : State) (x : PerCircuit CircuitRec) : (s.withCircuits x).faults = s.faults := rfl
@[simp] theorem State.withCircuits_agent (s : State) (x : PerCircuit CircuitRec) : (s.withCircuits x).agent = s.agent := rfl
@[simp] theorem State.withCircuits_freeCount (s : State) (x : PerCircuit CircuitRec) : (s.withCircuits x).freeCount = s.freeCount := rfl
@[simp] theorem State.withCircuits_pending (s : State) (x : PerCircuit CircuitRec) : (s.withCircuits x).pending = s.pending := rfl
@[simp] theorem State.withTransit_link (s : State) (x : List TransitEntry) : (s.withTransit x).link = s.link := rfl
@[simp] theorem State.withTransit_outlet (s : State) (x : List TransitEntry) : (s.withTransit x).outlet = s.outlet := rfl
@[simp] theorem State.withTransit_sat (s : State) (x : List TransitEntry) : (s.withTransit x).sat = s.sat := rfl
@[simp] theorem State.withTransit_channels (s : State) (x : List TransitEntry) : (s.withTransit x).channels = s.channels := rfl
@[simp] theorem State.withTransit_holds (s : State) (x : List TransitEntry) : (s.withTransit x).holds = s.holds := rfl
@[simp] theorem State.withTransit_tracker (s : State) (x : List TransitEntry) : (s.withTransit x).tracker = s.tracker := rfl
@[simp] theorem State.withTransit_store (s : State) (x : List TransitEntry) : (s.withTransit x).store = s.store := rfl
@[simp] theorem State.withTransit_line (s : State) (x : List TransitEntry) : (s.withTransit x).line = s.line := rfl
@[simp] theorem State.withTransit_planner (s : State) (x : List TransitEntry) : (s.withTransit x).planner = s.planner := rfl
@[simp] theorem State.withTransit_zones (s : State) (x : List TransitEntry) : (s.withTransit x).zones = s.zones := rfl
@[simp] theorem State.withTransit_circuits (s : State) (x : List TransitEntry) : (s.withTransit x).circuits = s.circuits := rfl
@[simp] theorem State.withTransit_transit (s : State) (x : List TransitEntry) : (s.withTransit x).transit = x := rfl
@[simp] theorem State.withTransit_stack (s : State) (x : List TransitEntry) : (s.withTransit x).stack = s.stack := rfl
@[simp] theorem State.withTransit_supervisor (s : State) (x : List TransitEntry) : (s.withTransit x).supervisor = s.supervisor := rfl
@[simp] theorem State.withTransit_faults (s : State) (x : List TransitEntry) : (s.withTransit x).faults = s.faults := rfl
@[simp] theorem State.withTransit_agent (s : State) (x : List TransitEntry) : (s.withTransit x).agent = s.agent := rfl
@[simp] theorem State.withTransit_freeCount (s : State) (x : List TransitEntry) : (s.withTransit x).freeCount = s.freeCount := rfl
@[simp] theorem State.withTransit_pending (s : State) (x : List TransitEntry) : (s.withTransit x).pending = s.pending := rfl
@[simp] theorem State.withStack_link (s : State) (x : List Context) : (s.withStack x).link = s.link := rfl
@[simp] theorem State.withStack_outlet (s : State) (x : List Context) : (s.withStack x).outlet = s.outlet := rfl
@[simp] theorem State.withStack_sat (s : State) (x : List Context) : (s.withStack x).sat = s.sat := rfl
@[simp] theorem State.withStack_channels (s : State) (x : List Context) : (s.withStack x).channels = s.channels := rfl
@[simp] theorem State.withStack_holds (s : State) (x : List Context) : (s.withStack x).holds = s.holds := rfl
@[simp] theorem State.withStack_tracker (s : State) (x : List Context) : (s.withStack x).tracker = s.tracker := rfl
@[simp] theorem State.withStack_store (s : State) (x : List Context) : (s.withStack x).store = s.store := rfl
@[simp] theorem State.withStack_line (s : State) (x : List Context) : (s.withStack x).line = s.line := rfl
@[simp] theorem State.withStack_planner (s : State) (x : List Context) : (s.withStack x).planner = s.planner := rfl
@[simp] theorem State.withStack_zones (s : State) (x : List Context) : (s.withStack x).zones = s.zones := rfl
@[simp] theorem State.withStack_circuits (s : State) (x : List Context) : (s.withStack x).circuits = s.circuits := rfl
@[simp] theorem State.withStack_transit (s : State) (x : List Context) : (s.withStack x).transit = s.transit := rfl
@[simp] theorem State.withStack_stack (s : State) (x : List Context) : (s.withStack x).stack = x := rfl
@[simp] theorem State.withStack_supervisor (s : State) (x : List Context) : (s.withStack x).supervisor = s.supervisor := rfl
@[simp] theorem State.withStack_faults (s : State) (x : List Context) : (s.withStack x).faults = s.faults := rfl
@[simp] theorem State.withStack_agent (s : State) (x : List Context) : (s.withStack x).agent = s.agent := rfl
@[simp] theorem State.withStack_freeCount (s : State) (x : List Context) : (s.withStack x).freeCount = s.freeCount := rfl
@[simp] theorem State.withStack_pending (s : State) (x : List Context) : (s.withStack x).pending = s.pending := rfl
@[simp] theorem State.withSupervisor_link (s : State) (x : Supervisor) : (s.withSupervisor x).link = s.link := rfl
@[simp] theorem State.withSupervisor_outlet (s : State) (x : Supervisor) : (s.withSupervisor x).outlet = s.outlet := rfl
@[simp] theorem State.withSupervisor_sat (s : State) (x : Supervisor) : (s.withSupervisor x).sat = s.sat := rfl
@[simp] theorem State.withSupervisor_channels (s : State) (x : Supervisor) : (s.withSupervisor x).channels = s.channels := rfl
@[simp] theorem State.withSupervisor_holds (s : State) (x : Supervisor) : (s.withSupervisor x).holds = s.holds := rfl
@[simp] theorem State.withSupervisor_tracker (s : State) (x : Supervisor) : (s.withSupervisor x).tracker = s.tracker := rfl
@[simp] theorem State.withSupervisor_store (s : State) (x : Supervisor) : (s.withSupervisor x).store = s.store := rfl
@[simp] theorem State.withSupervisor_line (s : State) (x : Supervisor) : (s.withSupervisor x).line = s.line := rfl
@[simp] theorem State.withSupervisor_planner (s : State) (x : Supervisor) : (s.withSupervisor x).planner = s.planner := rfl
@[simp] theorem State.withSupervisor_zones (s : State) (x : Supervisor) : (s.withSupervisor x).zones = s.zones := rfl
@[simp] theorem State.withSupervisor_circuits (s : State) (x : Supervisor) : (s.withSupervisor x).circuits = s.circuits := rfl
@[simp] theorem State.withSupervisor_transit (s : State) (x : Supervisor) : (s.withSupervisor x).transit = s.transit := rfl
@[simp] theorem State.withSupervisor_stack (s : State) (x : Supervisor) : (s.withSupervisor x).stack = s.stack := rfl
@[simp] theorem State.withSupervisor_supervisor (s : State) (x : Supervisor) : (s.withSupervisor x).supervisor = x := rfl
@[simp] theorem State.withSupervisor_faults (s : State) (x : Supervisor) : (s.withSupervisor x).faults = s.faults := rfl
@[simp] theorem State.withSupervisor_agent (s : State) (x : Supervisor) : (s.withSupervisor x).agent = s.agent := rfl
@[simp] theorem State.withSupervisor_freeCount (s : State) (x : Supervisor) : (s.withSupervisor x).freeCount = s.freeCount := rfl
@[simp] theorem State.withSupervisor_pending (s : State) (x : Supervisor) : (s.withSupervisor x).pending = s.pending := rfl
@[simp] theorem State.withFaults_link (s : State) (x : Faults) : (s.withFaults x).link = s.link := rfl
@[simp] theorem State.withFaults_outlet (s : State) (x : Faults) : (s.withFaults x).outlet = s.outlet := rfl
@[simp] theorem State.withFaults_sat (s : State) (x : Faults) : (s.withFaults x).sat = s.sat := rfl
@[simp] theorem State.withFaults_channels (s : State) (x : Faults) : (s.withFaults x).channels = s.channels := rfl
@[simp] theorem State.withFaults_holds (s : State) (x : Faults) : (s.withFaults x).holds = s.holds := rfl
@[simp] theorem State.withFaults_tracker (s : State) (x : Faults) : (s.withFaults x).tracker = s.tracker := rfl
@[simp] theorem State.withFaults_store (s : State) (x : Faults) : (s.withFaults x).store = s.store := rfl
@[simp] theorem State.withFaults_line (s : State) (x : Faults) : (s.withFaults x).line = s.line := rfl
@[simp] theorem State.withFaults_planner (s : State) (x : Faults) : (s.withFaults x).planner = s.planner := rfl
@[simp] theorem State.withFaults_zones (s : State) (x : Faults) : (s.withFaults x).zones = s.zones := rfl
@[simp] theorem State.withFaults_circuits (s : State) (x : Faults) : (s.withFaults x).circuits = s.circuits := rfl
@[simp] theorem State.withFaults_transit (s : State) (x : Faults) : (s.withFaults x).transit = s.transit := rfl
@[simp] theorem State.withFaults_stack (s : State) (x : Faults) : (s.withFaults x).stack = s.stack := rfl
@[simp] theorem State.withFaults_supervisor (s : State) (x : Faults) : (s.withFaults x).supervisor = s.supervisor := rfl
@[simp] theorem State.withFaults_faults (s : State) (x : Faults) : (s.withFaults x).faults = x := rfl
@[simp] theorem State.withFaults_agent (s : State) (x : Faults) : (s.withFaults x).agent = s.agent := rfl
@[simp] theorem State.withFaults_freeCount (s : State) (x : Faults) : (s.withFaults x).freeCount = s.freeCount := rfl
@[simp] theorem State.withFaults_pending (s : State) (x : Faults) : (s.withFaults x).pending = s.pending := rfl
@[simp] theorem State.withAgent_link (s : State) (x : Agent) : (s.withAgent x).link = s.link := rfl
@[simp] theorem State.withAgent_outlet (s : State) (x : Agent) : (s.withAgent x).outlet = s.outlet := rfl
@[simp] theorem State.withAgent_sat (s : State) (x : Agent) : (s.withAgent x).sat = s.sat := rfl
@[simp] theorem State.withAgent_channels (s : State) (x : Agent) : (s.withAgent x).channels = s.channels := rfl
@[simp] theorem State.withAgent_holds (s : State) (x : Agent) : (s.withAgent x).holds = s.holds := rfl
@[simp] theorem State.withAgent_tracker (s : State) (x : Agent) : (s.withAgent x).tracker = s.tracker := rfl
@[simp] theorem State.withAgent_store (s : State) (x : Agent) : (s.withAgent x).store = s.store := rfl
@[simp] theorem State.withAgent_line (s : State) (x : Agent) : (s.withAgent x).line = s.line := rfl
@[simp] theorem State.withAgent_planner (s : State) (x : Agent) : (s.withAgent x).planner = s.planner := rfl
@[simp] theorem State.withAgent_zones (s : State) (x : Agent) : (s.withAgent x).zones = s.zones := rfl
@[simp] theorem State.withAgent_circuits (s : State) (x : Agent) : (s.withAgent x).circuits = s.circuits := rfl
@[simp] theorem State.withAgent_transit (s : State) (x : Agent) : (s.withAgent x).transit = s.transit := rfl
@[simp] theorem State.withAgent_stack (s : State) (x : Agent) : (s.withAgent x).stack = s.stack := rfl
@[simp] theorem State.withAgent_supervisor (s : State) (x : Agent) : (s.withAgent x).supervisor = s.supervisor := rfl
@[simp] theorem State.withAgent_faults (s : State) (x : Agent) : (s.withAgent x).faults = s.faults := rfl
@[simp] theorem State.withAgent_agent (s : State) (x : Agent) : (s.withAgent x).agent = x := rfl
@[simp] theorem State.withAgent_freeCount (s : State) (x : Agent) : (s.withAgent x).freeCount = s.freeCount := rfl
@[simp] theorem State.withAgent_pending (s : State) (x : Agent) : (s.withAgent x).pending = s.pending := rfl
@[simp] theorem State.withPending_link (s : State) (x : List Instr) : (s.withPending x).link = s.link := rfl
@[simp] theorem State.withPending_outlet (s : State) (x : List Instr) : (s.withPending x).outlet = s.outlet := rfl
@[simp] theorem State.withPending_sat (s : State) (x : List Instr) : (s.withPending x).sat = s.sat := rfl
@[simp] theorem State.withPending_channels (s : State) (x : List Instr) : (s.withPending x).channels = s.channels := rfl
@[simp] theorem State.withPending_holds (s : State) (x : List Instr) : (s.withPending x).holds = s.holds := rfl
@[simp] theorem State.withPending_tracker (s : State) (x : List Instr) : (s.withPending x).tracker = s.tracker := rfl
@[simp] theorem State.withPending_store (s : State) (x : List Instr) : (s.withPending x).store = s.store := rfl
@[simp] theorem State.withPending_line (s : State) (x : List Instr) : (s.withPending x).line = s.line := rfl
@[simp] theorem State.withPending_planner (s : State) (x : List Instr) : (s.withPending x).planner = s.planner := rfl
@[simp] theorem State.withPending_zones (s : State) (x : List Instr) : (s.withPending x).zones = s.zones := rfl
@[simp] theorem State.withPending_circuits (s : State) (x : List Instr) : (s.withPending x).circuits = s.circuits := rfl
@[simp] theorem State.withPending_transit (s : State) (x : List Instr) : (s.withPending x).transit = s.transit := rfl
@[simp] theorem State.withPending_stack (s : State) (x : List Instr) : (s.withPending x).stack = s.stack := rfl
@[simp] theorem State.withPending_supervisor (s : State) (x : List Instr) : (s.withPending x).supervisor = s.supervisor := rfl
@[simp] theorem State.withPending_faults (s : State) (x : List Instr) : (s.withPending x).faults = s.faults := rfl
@[simp] theorem State.withPending_agent (s : State) (x : List Instr) : (s.withPending x).agent = s.agent := rfl
@[simp] theorem State.withPending_freeCount (s : State) (x : List Instr) : (s.withPending x).freeCount = s.freeCount := rfl
@[simp] theorem State.withPending_pending (s : State) (x : List Instr) : (s.withPending x).pending = x := rfl

end Sys2Proof.Machine
end

