-- ==== Sys2Proof/Laws/Steady.lean ====
section
/-! SUPPORT. What the line controller, the planner, the context stack and the supervisor never touch: the ring's receiving
side, the channel map but for its drive records, the holds, the tracker, the store, the parameters, the queue of commands. One lemma per shared
operation. -/

namespace Sys2Proof.Machine

/-- An entry without its drive record. -/
def Entry.undriven (e : Entry) : Entry := { e with drive := none }

/-- The blocks that only their own operations change are the same; of the channel map, all but the drive records. -/
structure Steady (s t : State) : Prop where
  link : t.link = s.link
  channels : t.channels.map Entry.undriven = s.channels.map Entry.undriven
  holds : t.holds = s.holds
  tracker : t.tracker = s.tracker
  store : t.store = s.store
  agent : t.agent = s.agent
  freeCount : t.freeCount = s.freeCount
  pending : t.pending = s.pending

@[simp] theorem Steady.refl (s : State) : Steady s s := ⟨rfl, rfl, rfl, rfl, rfl, rfl, rfl, rfl⟩

theorem Steady.trans {s t u : State} (h : Steady s t) (k : Steady t u) : Steady s u :=
  ⟨k.link.trans h.link, k.channels.trans h.channels, k.holds.trans h.holds, k.tracker.trans h.tracker,
    k.store.trans h.store, k.agent.trans h.agent, k.freeCount.trans h.freeCount, k.pending.trans h.pending⟩

/-! ### Updates -/

@[simp] theorem steady_withOutlet (s : State) (x : Outlet) : Steady s (s.withOutlet x) := ⟨rfl, rfl, rfl, rfl, rfl, rfl, rfl, rfl⟩
@[simp] theorem steady_withSat (s : State) (x : SatCounts) : Steady s (s.withSat x) := ⟨rfl, rfl, rfl, rfl, rfl, rfl, rfl, rfl⟩
@[simp] theorem steady_withLine (s : State) (x : Line) : Steady s (s.withLine x) := ⟨rfl, rfl, rfl, rfl, rfl, rfl, rfl, rfl⟩
@[simp] theorem steady_withPlanner (s : State) (x : Planner) : Steady s (s.withPlanner x) := ⟨rfl, rfl, rfl, rfl, rfl, rfl, rfl, rfl⟩
@[simp] theorem steady_withPlan (s : State) (x : Option Plan) : Steady s (s.withPlan x) := ⟨rfl, rfl, rfl, rfl, rfl, rfl, rfl, rfl⟩
@[simp] theorem steady_withZones (s : State) (x : PerZone ZoneRec) : Steady s (s.withZones x) := ⟨rfl, rfl, rfl, rfl, rfl, rfl, rfl, rfl⟩
@[simp] theorem steady_withZone (s : State) (z : Zone) (x : ZoneRec) : Steady s (s.withZone z x) := ⟨rfl, rfl, rfl, rfl, rfl, rfl, rfl, rfl⟩
@[simp] theorem steady_withCircuits (s : State) (x : PerCircuit CircuitRec) : Steady s (s.withCircuits x) := ⟨rfl, rfl, rfl, rfl, rfl, rfl, rfl, rfl⟩
@[simp] theorem steady_withCircuit (s : State) (c : Circuit) (x : CircuitRec) : Steady s (s.withCircuit c x) := ⟨rfl, rfl, rfl, rfl, rfl, rfl, rfl, rfl⟩
@[simp] theorem steady_withTransit (s : State) (x : List TransitEntry) : Steady s (s.withTransit x) := ⟨rfl, rfl, rfl, rfl, rfl, rfl, rfl, rfl⟩
@[simp] theorem steady_withStack (s : State) (x : List Context) : Steady s (s.withStack x) := ⟨rfl, rfl, rfl, rfl, rfl, rfl, rfl, rfl⟩
@[simp] theorem steady_withSupervisor (s : State) (x : Supervisor) : Steady s (s.withSupervisor x) := ⟨rfl, rfl, rfl, rfl, rfl, rfl, rfl, rfl⟩
@[simp] theorem steady_withFaults (s : State) (x : Faults) : Steady s (s.withFaults x) := ⟨rfl, rfl, rfl, rfl, rfl, rfl, rfl, rfl⟩

/-- A choice between two steady results is steady. -/
theorem Steady.ite {s t u : State} {c : Prop} [Decidable c] (h : Steady s t) (k : Steady s u) :
    Steady s (if c then t else u) := by split <;> assumption

/-! ### Folds over zones and circuits -/

theorem steady_forZones (f : Zone → State → State) (hf : ∀ z s, Steady s (f z s)) (s : State) : Steady s (forZones f s) :=
  ((hf _ _).trans (hf _ _)).trans ((hf _ _).trans (hf _ _))

theorem steady_forCircuits (f : Circuit → State → State) (hf : ∀ c s, Steady s (f c s)) (s : State) :
    Steady s (forCircuits f s) := (hf _ _).trans (hf _ _)

/-! ### Faults, counters, frames -/

@[simp] theorem steady_raiseFault (e : FaultCode) (s : State) : Steady s (raiseFault e s) := steady_withFaults _ _

@[simp] theorem steady_sweepFaults (s : State) : Steady s (sweepFaults s) := by unfold sweepFaults; split <;> simp

@[simp] theorem steady_countKindMismatch (s : State) : Steady s (countKindMismatch s) := steady_withSat _ _

@[simp] theorem steady_insertFrame (f : OwnFrame) (s : State) : Steady s (insertFrame f s) := by
  unfold insertFrame; split <;> simp

@[simp] theorem steady_insertAll (l : List OwnFrame) (s : State) : Steady s (insertAll l s) := by
  induction l generalizing s with
  | nil => exact .refl s
  | cons f l ih => exact (steady_insertFrame _ _).trans (ih _)

@[simp] theorem steady_oweGrant (st : GrantStatus) (tag : Byte) (s : State) : Steady s (oweGrant st tag s) :=
  steady_withOutlet _ _

@[simp] theorem steady_payGrants (s : State) : Steady s (payGrants s) := (steady_withOutlet _ _).trans (steady_insertAll _ _)

@[simp] theorem steady_sendGrant (st : GrantStatus) (tag : Byte) (s : State) : Steady s (sendGrant st tag s) :=
  (steady_payGrants s).trans (steady_insertFrame _ _)

@[simp] theorem steady_sendUnasked (st : GrantStatus) (s : State) : Steady s (sendUnasked st s) := steady_sendGrant _ _ _

@[simp] theorem steady_forwardLevels (b : Bool) (l : List Nat) (s : State) : Steady s (forwardLevels b l s) :=
  steady_insertAll _ _

/-! ### The drive stage -/

@[simp] theorem undriven_followEntry (s : State) (e : Entry) : (followEntry s e).undriven = e.undriven := rfl
@[simp] theorem undriven_paid (e : Entry) : e.paid.undriven = e.undriven := rfl

/-- A change of drive records alone is steady. -/
theorem steady_mapDrives (g : Entry → Entry) (h : ∀ e, (g e).undriven = e.undriven) (s : State) :
    Steady s (s.withChannels (s.channels.map g)) :=
  ⟨rfl, by
    show (s.channels.map g).map Entry.undriven = _
    rw [List.map_map]
    exact List.map_congr_left fun e _ => h e, rfl, rfl, rfl, rfl, rfl, rfl⟩

@[simp] theorem steady_followDrives (s : State) : Steady s (followDrives s) := steady_mapDrives _ (undriven_followEntry s) s

@[simp] theorem steady_originateOwed (s : State) : Steady s (originateOwed s) :=
  (steady_mapDrives _ undriven_paid s).trans (steady_insertAll _ _)

@[simp] theorem steady_driveStage (s : State) : Steady s (driveStage s) :=
  (steady_followDrives _).trans (steady_originateOwed _)

/-! ### Zone loops, chill loops, transit line -/

@[simp] theorem steady_zonePeriod (z : Zone) (s : State) : Steady s (zonePeriod z s) := by
  unfold zonePeriod; split <;> simp

@[simp] theorem steady_zoneEntry (z : Zone) (s : State) : Steady s (zoneEntry z s) := by unfold zoneEntry; split <;> simp

@[simp] theorem steady_retargetZone (z : Zone) (a f r : Int) (s : State) : Steady s (retargetZone z a f r s) := by
  unfold retargetZone; split <;> simp

@[simp] theorem steady_circuitPeriod (c : Circuit) (s : State) : Steady s (circuitPeriod c s) := by
  unfold circuitPeriod; split <;> simp

@[simp] theorem steady_circuitEntry (c : Circuit) (s : State) : Steady s (circuitEntry c s) := by
  unfold circuitEntry; split <;> simp

@[simp] theorem steady_setSetpoint (c : Circuit) (v : Int) (s : State) : Steady s (setSetpoint c v s) := by
  unfold setSetpoint; split <;> simp

@[simp] theorem steady_flushTransit (s : State) : Steady s (flushTransit s) := steady_withTransit _ _

@[simp] theorem steady_mature (e : TransitEntry) (s : State) : Steady s (mature e s) := steady_setSetpoint _ _ _

@[simp] theorem steady_matureAll (l : List TransitEntry) (s : State) : Steady s (matureAll l s) := by
  induction l generalizing s with
  | nil => exact .refl s
  | cons e es ih => exact (steady_mature _ _).trans (ih _)

@[simp] theorem steady_advanceTransit (n : Nat) (s : State) : Steady s (advanceTransit n s) :=
  (steady_withTransit _ _).trans (steady_matureAll _ _)

@[simp] theorem steady_forceHead (s : State) : Steady s (forceHead s) := by
  unfold forceHead
  split
  · simp
  · exact ((steady_withTransit _ _).trans (steady_mature _ _)).trans ((steady_withSat _ _).trans (steady_raiseFault _ _))

@[simp] theorem steady_appendTransit (c : Circuit) (v : Int) (r : Nat) (s : State) :
    Steady s (appendTransit c v r s) :=
  (Steady.ite (.refl s) (steady_forceHead s)).trans (steady_withTransit _ _)

/-! ### Requests to the planner, the context stack -/

@[simp] theorem steady_discardPlan (s : State) : Steady s (discardPlan s) := steady_withPlan _ _
@[simp] theorem steady_freezePlan (s : State) : Steady s (freezePlan s) := steady_withPlan _ _
@[simp] theorem steady_openExhaust (s : State) : Steady s (openExhaust s) := steady_withPlanner _ _
@[simp] theorem steady_withdrawGrant (s : State) : Steady s (withdrawGrant s) := steady_withPlanner _ _
@[simp] theorem steady_emptyStack (s : State) : Steady s (emptyStack s) := steady_withStack _ _
@[simp] theorem steady_setOverspeed (b : Bool) (s : State) : Steady s (setOverspeed b s) := steady_withPlanner _ _

@[simp] theorem steady_holdCeiling (b : Int) (s : State) : Steady s (holdCeiling b s) :=
  (steady_withPlanner _ _).trans (steady_oweGrant _ _ _)

@[simp] theorem steady_setGrant (g : Nat) (c : Int) (s : State) : Steady s (setGrant g c s) := by
  unfold setGrant
  split
  · simp
  · exact (steady_withPlanner _ _).trans (steady_sendUnasked _ _)

@[simp] theorem steady_overlay (c : Cause) (s : State) : Steady s (overlay c s) := by
  cases c <;> unfold overlay
  case lelRelief =>
    exact (((steady_discardPlan _).trans (steady_openExhaust _)).trans (steady_followDrives _)).trans (steady_holdCeiling _ _)
  all_goals simp

@[simp] theorem steady_saveContext (c : Cause) (s : State) : Steady s (saveContext c s) :=
  (steady_overlay _ _).trans (steady_withStack _ _)

@[simp] theorem steady_reactivate (c : Cause) (s : State) : Steady s (reactivate c s) :=
  (steady_overlay _ _).trans (steady_withStack _ _)

@[simp] theorem steady_overflowStack (s : State) : Steady s (overflowStack s) :=
  (steady_withStack _ _).trans ((steady_withSat _ _).trans (steady_raiseFault _ _))

@[simp] theorem steady_push (c : Cause) (s : State) : Steady s (push c s) := by
  unfold push
  repeat' split
  all_goals first | simp | exact (steady_overflowStack _).trans (steady_saveContext _ _)

/-! ### State entries -/

@[simp] theorem steady_grantAtEntry (l : LineState) (s : State) : Steady s (grantAtEntry l s) := by
  unfold grantAtEntry
  repeat' split
  all_goals first | simp | exact (steady_withdrawGrant _).trans (steady_sendUnasked _ _)

@[simp] theorem steady_enterLine (l : LineState) (s : State) : Steady s (enterLine l s) :=
  (((steady_grantAtEntry l s).trans (steady_withLine _ _)).trans (steady_withSupervisor _ _)).trans
    (((steady_forZones _ steady_zoneEntry _).trans (steady_forCircuits _ steady_circuitEntry _)).trans
      (steady_followDrives _))

@[simp] theorem steady_enterCold (s : State) : Steady s (enterCold s) :=
  (steady_flushTransit _).trans (steady_enterLine _ _)

@[simp] theorem steady_purgeJudged (s : State) : Steady s (purgeJudged s) := steady_withLine _ _

@[simp] theorem steady_enterPurge (s : State) : Steady s (enterPurge s) :=
  (steady_enterLine _ _).trans (steady_purgeJudged _)

@[simp] theorem steady_cooldownJudged (s : State) : Steady s (cooldownJudged s) := by
  unfold cooldownJudged; split <;> simp

@[simp] theorem steady_enterCooldown (s : State) : Steady s (enterCooldown s) :=
  (((steady_emptyStack _).trans (steady_flushTransit _)).trans (steady_enterLine _ _)).trans
    ((steady_withLine _ _).trans (steady_cooldownJudged _))

@[simp] theorem steady_tripLine (s : State) : Steady s (tripLine s) := by
  unfold tripLine
  split
  · simp
  · exact (((steady_emptyStack _).trans (steady_discardPlan _)).trans (steady_flushTransit _)).trans (steady_enterLine _ _)

@[simp] theorem steady_trip (e : FaultCode) (s : State) : Steady s (trip e s) :=
  (steady_raiseFault _ _).trans (steady_tripLine _)

@[simp] theorem steady_sensorTested (b : Bool) (s : State) : Steady s (sensorTested b s) := by
  unfold sensorTested; split <;> simp

@[simp] theorem steady_sensorJudged (s : State) : Steady s (sensorJudged s) := steady_sensorTested _ s

@[simp] theorem steady_enterHeatup (s : State) : Steady s (enterHeatup s) :=
  ((steady_withPlanner _ _).trans (steady_enterLine _ _)).trans (steady_sensorJudged _)

@[simp] theorem steady_lelWarning (s : State) : Steady s (lelWarning s) :=
  ((steady_withSupervisor _ _).trans (steady_raiseFault _ _)).trans (steady_push _ _)

@[simp] theorem steady_masterAtReady (s : State) : Steady s (masterAtReady s) := by unfold masterAtReady; split <;> simp

@[simp] theorem steady_readyFromHeatup (s : State) : Steady s (readyFromHeatup s) :=
  (((steady_enterLine _ _).trans (steady_withPlanner _ _)).trans (steady_sendUnasked _ _)).trans
    ((Steady.ite (steady_lelWarning _) (.refl _)).trans (steady_masterAtReady _))

@[simp] theorem steady_readyFromRun (s : State) : Steady s (readyFromRun s) :=
  ((steady_enterLine _ _).trans (steady_withPlanner _ _)).trans ((steady_sendUnasked _ _).trans (steady_masterAtReady _))

@[simp] theorem steady_speedLost (s : State) : Steady s (speedLost s) := (steady_raiseFault _ _).trans (steady_push _ _)

@[simp] theorem steady_enterRun (s : State) : Steady s (enterRun s) :=
  (steady_enterLine .run s).trans
    ((Steady.ite (steady_speedLost _) (.refl _)).trans (Steady.ite (steady_push _ _) (.refl _)))

@[simp] theorem steady_webBreak (s : State) : Steady s (webBreak s) := by
  refine (steady_raiseFault .webBreak s).trans (Steady.ite ?_ (.refl _))
  exact (((steady_push _ _).trans (steady_discardPlan _)).trans (steady_flushTransit _)).trans (steady_enterLine _ _)

/-! ### Plans -/

@[simp] theorem steady_fireGrant (r : Option Request) (v : Int) (j : Nat) (s : State) : Steady s (fireGrant r v j s) := by
  cases r
  · exact (steady_withPlanner _ _).trans (steady_sendUnasked _ _)
  · exact (steady_withPlanner _ _).trans (steady_sendGrant _ _ _)

@[simp] theorem steady_setTargets (z : Zone) (f : ZoneTargets → ZoneTargets) (s : State) : Steady s (setTargets z f s) :=
  steady_withPlanner _ _

@[simp] theorem steady_stepEffect (r : Option Request) (k : StepKind) (s : State) : Steady s (stepEffect r k s) := by
  cases k
  · exact steady_withPlanner _ _
  · exact steady_withPlanner _ _
  · exact (steady_setTargets _ _ _).trans (steady_retargetZone _ _ _ _ _)
  · exact (steady_withPlanner _ _).trans (steady_appendTransit _ _ _ _)
  · exact steady_fireGrant _ _ _ _

@[simp] theorem steady_fireHead (p : Plan) (k : StepKind) (s : State) : Steady s (fireHead p k s) :=
  ((steady_withPlan _ _).trans (steady_stepEffect _ _ _)).trans (steady_followDrives _)

@[simp] theorem steady_completePlan (p : Plan) (s : State) : Steady s (completePlan p s) :=
  (steady_withPlan s none).trans (Steady.ite (steady_readyFromRun _) (.refl _))

@[simp] theorem steady_testHead (n : Nat) (s : State) : Steady s (testHead n s) := by
  induction n generalizing s with
  | zero => exact .refl s
  | succ n ih =>
    unfold testHead
    repeat' split
    all_goals first | simp | exact (steady_fireHead _ _ _).trans (ih _)

@[simp] theorem steady_runPlan (s : State) : Steady s (runPlan s) := by unfold runPlan; split <;> simp

@[simp] theorem steady_fireDue (p : Plan) (s : State) : Steady s (fireDue p s) := by
  unfold fireDue
  split
  · simp
  · exact (steady_fireHead _ _ _).trans (steady_testHead _ _)

@[simp] theorem steady_installPlan (p : Plan) (s : State) : Steady s (installPlan p s) :=
  ((steady_withPlanner _ _).trans (Steady.ite (steady_enterRun _) (.refl _))).trans (steady_runPlan _)

@[simp] theorem steady_stallPlan (p : Plan) (s : State) : Steady s (stallPlan p s) := by
  unfold stallPlan
  split
  · exact ((steady_withPlan _ _).trans (steady_raiseFault _ _)).trans (steady_sendGrant _ _ _)
  · exact (steady_withPlan _ _).trans (steady_raiseFault _ _)

@[simp] theorem steady_bandReportToPlan (s : State) : Steady s (bandReportToPlan s) := by
  unfold bandReportToPlan; repeat' split
  all_goals simp

@[simp] theorem steady_speedReportToPlan (s : State) : Steady s (speedReportToPlan s) := by
  unfold speedReportToPlan; repeat' split
  all_goals simp

@[simp] theorem steady_crossAbove (j : Nat) (r : Row) (s : State) : Steady s (crossAbove j r s) := by
  unfold crossAbove crossingAdjust; repeat' split
  all_goals first
    | simp
    | exact (steady_raiseFault _ _).trans (steady_setOverspeed _ _)
    | exact (steady_raiseFault _ _).trans (steady_installPlan _ _)

@[simp] theorem steady_crossingLower (j : Nat) (r : Row) (s : State) : Steady s (crossingLower j r s) :=
  steady_installPlan _ _

@[simp] theorem steady_crossingTest (s : State) : Steady s (crossingTest s) := by
  unfold crossingTest; repeat' split
  all_goals simp

/-! ### Clearance and restore -/

@[simp] theorem steady_restorePlan (p : Plan) (s : State) : Steady s (restorePlan p s) :=
  Steady.ite ((steady_withPlan _ _).trans (steady_runPlan _)) (steady_withPlan _ _)

@[simp] theorem steady_resumeAdjust (j : Nat) (r : Row) (s : State) : Steady s (resumeAdjust j r s) :=
  Steady.ite (.refl _) (steady_installPlan _ _)

@[simp] theorem steady_resumePlan (q : Option Request) (j : Nat) (r : Row) (s : State) :
    Steady s (resumePlan q j r s) := by
  cases q
  · exact steady_resumeAdjust _ _ _
  · exact Steady.ite (steady_installPlan _ _) (steady_resumeAdjust _ _ _)

@[simp] theorem steady_setTarget (j : Nat) (s : State) : Steady s (setTarget j s) := steady_withPlanner _ _

@[simp] theorem steady_restoreDryer (b : Context) (g : Nat) (s : State) : Steady s (restoreDryer b g s) := by
  unfold restoreDryer
  dsimp only
  split
  · exact (steady_setTarget _ _).trans (steady_resumePlan _ _ _ _)
  · simp

@[simp] theorem steady_restoreRest (b : Context) (g : Nat) (s : State) : Steady s (restoreRest b g s) := by
  unfold restoreRest; split <;> simp

@[simp] theorem steady_restore (b : Context) (s : State) : Steady s (restore b s) := by
  unfold restore
  split
  · simp
  · exact (steady_setGrant _ _ _).trans (steady_restoreRest _ _ _)

@[simp] theorem steady_popStack (s : State) : Steady s (popStack s) := by
  unfold popStack
  split
  · exact (steady_withStack _ _).trans (steady_restore _ _)
  · simp

@[simp] theorem steady_clearCause (c : Cause) (s : State) : Steady s (clearCause c s) := by
  unfold clearCause
  split
  · exact (steady_withStack _ _).trans (steady_popStack _)
  · simp

/-! ### The supervisor -/

@[simp] theorem steady_setFlags (z : Zone) (f : ZoneFlags) (s : State) : Steady s (setFlags z f s) :=
  steady_withSupervisor _ _

@[simp] theorem steady_judgeWarn (z : Zone) (s : State) : Steady s (judgeWarn z s) :=
  (steady_setFlags _ _ _).trans (Steady.ite (steady_lelWarning _) (.refl _))

@[simp] theorem steady_judgeTrip (z : Zone) (s : State) : Steady s (judgeTrip z s) :=
  (steady_setFlags _ _ _).trans (Steady.ite (steady_trip _ _) (.refl _))

@[simp] theorem steady_judgeHot (z : Zone) (s : State) : Steady s (judgeHot z s) :=
  (steady_setFlags _ _ _).trans (Steady.ite (steady_trip _ _) (.refl _))

theorem steady_ifPresent (f : Zone → State → State) (hf : ∀ z s, Steady s (f z s)) (z : Zone) (s : State) :
    Steady s (ifPresent f z s) := Steady.ite (hf z s) (.refl s)

@[simp] theorem steady_judgeZone (z : Zone) (s : State) : Steady s (judgeZone z s) :=
  steady_ifPresent _ (fun _ _ => ((steady_judgeWarn _ _).trans (steady_judgeTrip _ _)).trans (steady_judgeHot _ _)) z s

@[simp] theorem steady_setClearTimer (t : Timer) (s : State) : Steady s (setClearTimer t s) := steady_withSupervisor _ _

@[simp] theorem steady_clearRelief (s : State) : Steady s (clearRelief s) :=
  (steady_withSupervisor _ _).trans (steady_clearCause _ _)

@[simp] theorem steady_clearJudged (s : State) : Steady s (clearJudged s) := by
  unfold clearJudged; repeat' split
  all_goals simp

@[simp] theorem steady_setGrace (z : Zone) (t : Timer) (s : State) : Steady s (setGrace z t s) := steady_withSupervisor _ _

@[simp] theorem steady_superviseFlame (z : Zone) (b : Bool) (s : State) : Steady s (superviseFlame z b s) := by
  unfold superviseFlame
  split
  · exact (steady_setGrace _ _ _).trans (Steady.ite (.refl _) (steady_trip _ _))
  · repeat' split
    all_goals simp

@[simp] theorem steady_superviseAirflow (z : Zone) (b : Bool) (s : State) : Steady s (superviseAirflow z b s) := by
  unfold superviseAirflow; repeat' split
  all_goals simp

@[simp] theorem steady_superviseLevel (r : Role) (b : Bool) (s : State) : Steady s (superviseLevel r b s) := by
  cases r <;> simp [superviseLevel]

@[simp] theorem steady_superviseBeat (q : Byte) (s : State) : Steady s (superviseBeat q s) := by
  unfold superviseBeat
  refine (steady_withSupervisor _ _).trans ((Steady.ite (steady_withSat _ _) (.refl _)).trans (Steady.ite ?_ (.refl _)))
  exact (steady_withSupervisor _ _).trans (steady_clearCause _ _)

@[simp] theorem steady_masterRunOut (s : State) : Steady s (masterRunOut s) := by
  refine (steady_withSupervisor _ _).trans (Steady.ite (.refl _) ?_)
  exact (steady_raiseFault _ _).trans (steady_push _ _)

@[simp] theorem steady_superviseInterval (s : State) : Steady s (superviseInterval s) := by
  unfold superviseInterval
  split
  · exact (steady_withSupervisor _ _).trans (Steady.ite (steady_masterRunOut _) (.refl _))
  · simp

@[simp] theorem steady_superviseReading (z : Zone) (q : Nat) (s : State) : Steady s (superviseReading z q s) := by
  unfold superviseReading; repeat' split
  all_goals simp

@[simp] theorem steady_countRange (g : Int × Int) (v : Int) (q : Nat) (s : State) : Steady s (countRange g v q s) := by
  unfold countRange; split <;> simp

@[simp] theorem steady_airReading (z : Zone) (v : Int) (q : Nat) (s : State) : Steady s (airReading z v q s) :=
  (steady_countRange _ _ _ _).trans ((steady_withZone _ _ _).trans (steady_superviseReading _ _ _))

@[simp] theorem steady_lelReading (z : Zone) (v : Int) (q : Nat) (s : State) : Steady s (lelReading z v q s) :=
  ((steady_countRange _ _ _ _).trans ((steady_withZone _ _ _).trans (steady_superviseReading _ _ _))).trans
    (Steady.ite (steady_clearJudged _) (.refl _))

@[simp] theorem steady_webReading (c : Circuit) (v : Int) (q : Nat) (s : State) : Steady s (webReading c v q s) :=
  (steady_countRange _ _ _ _).trans (steady_withCircuit _ _ _)

@[simp] theorem steady_proveZone (z : Zone) (s : State) : Steady s (proveZone z s) := steady_withZone _ _ _

@[simp] theorem steady_purgeTested (s : State) : Steady s (purgeTested s) := by unfold purgeTested; split <;> simp

@[simp] theorem steady_reportTransition (r : Role) (b : Bool) (s : State) : Steady s (reportTransition r b s) := by
  cases r <;> simp only [reportTransition, Steady.refl]
  · exact (steady_superviseFlame _ _ _).trans (Steady.ite (steady_proveZone _ _) (.refl _))
  · exact (steady_superviseAirflow _ _ _).trans (steady_purgeTested _)
  · exact Steady.ite (steady_webBreak _) (.refl _)

@[simp] theorem steady_takeMode (m : PressMode) (s : State) : Steady s (takeMode m s) := by
  unfold takeMode
  refine Steady.ite (.refl _) ((steady_withLine _ _).trans (Steady.ite (steady_push _ _) ?_))
  exact Steady.ite (steady_clearCause _ _) (.refl _)

@[simp] theorem steady_destFromBeat (a : Addr) (s : State) : Steady s (destFromBeat a s) := by
  unfold destFromBeat; split <;> simp

@[simp] theorem steady_copyBeat (a : Addr) (q x : Byte) (s : State) : Steady s (copyBeat a q x s) := by
  unfold copyBeat
  split
  · exact ((steady_destFromBeat _ _).trans (steady_superviseBeat _ _)).trans (steady_takeMode _ _)
  · exact ((steady_destFromBeat _ _).trans (steady_superviseBeat _ _)).trans (steady_countKindMismatch _)

/-! ### The planner's answer to an ASK -/

@[simp] theorem steady_buildAsked (v : Int) (g : Byte) (j : Nat) (r : Row) (s : State) :
    Steady s (buildAsked v g j r s) := by
  unfold buildAsked
  refine (steady_discardPlan s).trans (Steady.ite ?_ ?_)
  · exact (steady_sendGrant _ _ _).trans (steady_installPlan _ _)
  · exact (Steady.ite (.refl _) (steady_sendGrant _ _ _)).trans (steady_installPlan _ _)

@[simp] theorem steady_answerAsk (v : Option Int) (g : Byte) (s : State) : Steady s (answerAsk v g s) := by
  unfold answerAsk; repeat' split
  all_goals first | simp | exact (steady_withPlan _ _).trans (steady_sendGrant _ _ _)

@[simp] theorem steady_takeAsk (a : Addr) (g : Byte) (v : Half) (s : State) : Steady s (takeAsk a g v s) := by
  have h : Steady s (setLastTag g (destFromAsk a s)) := (steady_withOutlet s _).trans (steady_withPlanner _ _)
  unfold takeAsk
  refine h.trans (Steady.ite (steady_answerAsk _ _ _) ?_)
  exact (steady_countKindMismatch _).trans (steady_answerAsk _ _ _)

/-! ### The MIN_FIRE that acts (R130) -/

/-- Where no write waits for a control period, the zone loops read the parameters as they are. -/
theorem State.loopParams_of_none {s : State} (h : s.line.priorMinFire = none) : s.loopParams = s.params := by
  unfold State.loopParams; rw [h]; rfl

@[simp] theorem steady_keepMinFire (id : Nat) (s : State) : Steady s (keepMinFire id s) := by
  unfold keepMinFire; split <;> simp

/-- A write of another parameter leaves what waits as it is. -/
theorem keepMinFire_of_ne {id : Nat} (h : id ≠ 7) (s : State) : keepMinFire id s = s := if_neg h

/-- A write of MIN_FIRE in HEATUP, READY or RUN leaves the zone loops the MIN_FIRE that acts, whatever is written. -/
theorem keepMinFire_acting {s : State} (h : s.line.state.controlled = true) (p : Params) :
    (setParams p (keepMinFire 7 s)).loopParams.minFire = s.loopParams.minFire := by
  simp [keepMinFire, h, State.loopParams, setParams]

end Sys2Proof.Machine
end

