-- ==== Sys2Proof/Laws/Ends.lean ====
section
/-! SUPPORT. What ends an event: each of its four parts changes nothing where its block is settled, settles its block where
it is not, and leaves the others' blocks settled; so a finished event leaves the part at rest. -/

namespace Sys2Proof.Machine

/-! ### Nothing to do -/

theorem settleStore_of_settled {s : State} (h : storeSettled s = true) : settleStore s = s := by
  unfold settleStore
  rw [if_neg]
  rintro ⟨h1, h2⟩
  simp [storeSettled, h1, h2] at h

/-- A settled drive record: it follows its source and owes nothing. -/
abbrev DriveRec.settled (c : Int) (b : Bool) (d : DriveRec) : Prop := d.follow c b = d ∧ d.owed = false

theorem followed_of_settled {c : Int} {b : Bool} {d : DriveRec} (h : d.settled c b) : d.followed c b = d := by
  unfold DriveRec.followed
  rw [h.1]
  exact if_pos rfl

theorem drivesFollow_iff {s : State} :
    drivesFollow s = true ↔
      ∀ e ∈ s.channels, ∀ d, e.drive = some d → d.settled (demandSource s e.role) (s.underHold e) := by
  unfold drivesFollow
  rw [List.all_eq_true]
  refine forall₂_congr fun e _ => ?_
  cases e.drive <;> simp

/-- The drive stage has nothing to follow where the records are settled. -/
theorem followDrives_of_settled {s : State} (h : drivesFollow s = true) : followDrives s = s := by
  have k := drivesFollow_iff.mp h
  unfold followDrives
  rw [List.map_congr_left (g := id) fun e he => ?_, List.map_id]
  · rfl
  · unfold followEntry
    cases hd : e.drive with
    | none => cases e; simp_all
    | some d => rw [Option.map_some, followed_of_settled (k e he d hd), ← hd]; rfl

theorem owedDemands_of_paid (n : Nat) (l : List Entry) (h : ∀ e ∈ l, ∀ d, e.drive = some d → d.owed = false) :
    owedDemands n l = [] := by
  induction l generalizing n with
  | nil => rfl
  | cons e l ih =>
    have k := ih (n + 1) fun e' he' => h e' (by simp [he'])
    unfold owedDemands
    cases hd : e.drive with
    | none => exact k
    | some d => simp [h e (by simp) d hd, k]

/-- The drive stage has nothing to originate where nothing is owed. -/
theorem originateOwed_of_paid {s : State} (h : ∀ e ∈ s.channels, ∀ d, e.drive = some d → d.owed = false) :
    originateOwed s = s := by
  unfold originateOwed
  rw [owedDemands_of_paid 0 _ h, List.map_congr_left (g := id) fun e he => ?_, List.map_id]
  · rfl
  · unfold Entry.paid
    cases hd : e.drive with
    | none => cases e; simp_all
    | some d =>
      have := h e he d hd
      rcases e with ⟨_, _, _, _, _, _, _⟩
      rcases d with ⟨_, _, _, _, _⟩
      simp_all

theorem driveStage_of_settled {s : State} (h : drivesFollow s = true) : driveStage s = s := by
  unfold driveStage
  rw [followDrives_of_settled h]
  exact originateOwed_of_paid fun e he d hd => (drivesFollow_iff.mp h e he d hd).2

theorem mask_sweep (p t c : Half) (h : p &&& t &&& ~~~ c = 0) : p &&& (~~~ t ||| c) = p := by
  refine BitVec.eq_of_getLsbD_eq fun i hi => ?_
  have := congrArg (fun x : Half => x.getLsbD i) h
  simp only [BitVec.getLsbD_and, BitVec.getLsbD_or, BitVec.getLsbD_not, hi, decide_true, Bool.true_and]
    at this ⊢
  revert this
  cases p.getLsbD i <;> cases t.getLsbD i <;> cases c.getLsbD i <;> simp

theorem sweepFaults_of_settled {s : State} (h : faultsSettled s = true) : sweepFaults s = s := by
  simp only [faultsSettled, Bool.and_eq_true, decide_eq_true_eq, beq_iff_eq] at h
  unfold sweepFaults
  split
  · rfl
  · rw [mask_sweep _ _ _ h.1]
    have : ({ s.faults with pending := s.faults.pending } : Faults).driven = s.faults := by
      unfold Faults.driven; rw [← h.2]
    rw [this]; rfl

theorem arbitrate_of_settled {s : State} (h : portSettled s = true) : arbitrate s = s := by
  simp only [portSettled, Bool.or_eq_true, Bool.and_eq_true, List.isEmpty_iff] at h
  unfold arbitrate
  rcases h with h | ⟨h1, h2⟩
  · obtain ⟨x, hx⟩ := Option.isSome_iff_exists.mp h
    rw [hx]
  · rw [h1, h2]; cases s.outlet.port <;> rfl

theorem payGrants_of_paid {s : State} (h : grantsPaid s = true) : payGrants s = s := by
  have k : s.outlet.owed = [] := List.isEmpty_iff.mp h
  have e : s.withOutlet { s.outlet with owed := [] } = s := by rw [← k]; rfl
  unfold payGrants
  rw [e, k]; rfl

/-- An event's end changes nothing where no block has anything to do. -/
theorem closeEvent_of_settled {s : State} (h1 : storeSettled s = true) (h2 : drivesFollow s = true)
    (h3 : faultsSettled s = true) (h4 : grantsPaid s = true) : closeEvent s = s := by
  unfold closeEvent
  rw [settleStore_of_settled h1, driveStage_of_settled h2, payGrants_of_paid h4, sweepFaults_of_settled h3]

theorem atRest_iff {s : State} :
    s.atRest = true ↔
      drivesFollow s = true ∧ storeSettled s = true ∧ faultsSettled s = true ∧ portSettled s = true ∧
        grantsPaid s = true := by
  simp [State.atRest, and_assoc]

theorem closeEvent_atRest {s : State} (h : s.atRest = true) : closeEvent s = s :=
  have ⟨h1, h2, h3, _, h5⟩ := atRest_iff.mp h
  closeEvent_of_settled h2 h1 h3 h5

theorem finish_atRest {s : State} (h : s.atRest = true) : finish s = s := by
  unfold finish
  rw [closeEvent_atRest h, arbitrate_of_settled (atRest_iff.mp h).2.2.2.1]

theorem arbitrate_busy {s : State} (h : s.outlet.port.isSome = true) : arbitrate s = s :=
  arbitrate_of_settled (by simp [portSettled, h])

/-! ### What each part reads -/

/-- The conditions, the safe point, the drive sources and the GRANT frames owed are read from these blocks. -/
structure SameJudged (s t : State) : Prop where
  channels : t.channels = s.channels
  holds : t.holds = s.holds
  tracker : t.tracker = s.tracker
  store : t.store = s.store
  line : t.line = s.line
  planner : t.planner = s.planner
  zones : t.zones = s.zones
  circuits : t.circuits = s.circuits
  stack : t.stack = s.stack
  supervisor : t.supervisor = s.supervisor
  faults : t.faults = s.faults
  agent : t.agent.params = s.agent.params
  owed : t.outlet.owed = s.outlet.owed

theorem SameJudged.condition {s t : State} (h : SameJudged s t) (e : FaultCode) : faultCondition t e = faultCondition s e := by
  have hp : t.params = s.params := h.agent
  have hc : ∀ r, t.confirmedOf r = s.confirmedOf r := fun r => by
    unfold State.confirmedOf State.roleChannel; rw [h.channels]
  have hu : t.usableSpeed = s.usableSpeed := by unfold State.usableSpeed; rw [h.tracker]
  have hz : ∀ z, t.present z = s.present z := fun z => by unfold State.present; rw [h.line]
  cases e <;>
    simp only [faultCondition, hp, hc, hu, hz, h.channels, h.supervisor, h.line, h.zones, h.store, h.planner]

theorem faultMask_congr {f g : FaultCode → Bool} (h : ∀ e, f e = g e) : faultMask f = faultMask g := by
  rw [show f = g from funext h]

theorem SameJudged.mask {s t : State} (h : SameJudged s t) : t.conditionMask = s.conditionMask :=
  faultMask_congr h.condition

theorem SameJudged.source {s t : State} (h : SameJudged s t) (r : Role) : demandSource t r = demandSource s r := by
  have hz : ∀ z, t.present z = s.present z := fun z => by unfold State.present; rw [h.line]
  have hc : ∀ c, t.circuitPresent c = s.circuitPresent c := fun c => by unfold State.circuitPresent; rw [h.line]
  have hp : t.params = s.params := h.agent
  cases r <;> simp only [demandSource, hz, hc, hp, h.line, h.zones, h.planner, h.circuits]

theorem SameJudged.hold {s t : State} (h : SameJudged s t) (e : Entry) : t.underHold e = s.underHold e := by
  unfold State.underHold State.groupHeld; rw [h.line, h.holds]

theorem SameJudged.safe {s t : State} (h : SameJudged s t) : t.safePoint = s.safePoint := by
  unfold State.safePoint; rw [h.line, h.planner, h.stack]

theorem SameJudged.drives {s t : State} (h : SameJudged s t) : drivesFollow t = drivesFollow s := by
  unfold drivesFollow
  rw [h.channels]
  congr 1; funext e
  rw [h.source, h.hold]

theorem SameJudged.store_settled {s t : State} (h : SameJudged s t) : storeSettled t = storeSettled s := by
  unfold storeSettled; rw [h.store, h.safe]

theorem SameJudged.faults_settled {s t : State} (h : SameJudged s t) : faultsSettled t = faultsSettled s := by
  unfold faultsSettled; rw [h.faults, h.mask]

theorem SameJudged.grants_paid {s t : State} (h : SameJudged s t) : grantsPaid t = grantsPaid s := by
  unfold grantsPaid; rw [h.owed]

/-- An event that changes none of the judged blocks ends with nothing to do. -/
theorem SameJudged.closeEvent {s t : State} (h : SameJudged s t) (hs : s.atRest = true) : closeEvent t = t := by
  have ⟨h1, h2, h3, _, h5⟩ := atRest_iff.mp hs
  exact closeEvent_of_settled (h.store_settled.trans h2) (h.drives.trans h1) (h.faults_settled.trans h3)
    (h.grants_paid.trans h5)

theorem SameJudged.refl (s : State) : SameJudged s s := ⟨rfl, rfl, rfl, rfl, rfl, rfl, rfl, rfl, rfl, rfl, rfl, rfl, rfl⟩
theorem sameJudged_withLink (s : State) (x : Link) : SameJudged s (s.withLink x) :=
  ⟨rfl, rfl, rfl, rfl, rfl, rfl, rfl, rfl, rfl, rfl, rfl, rfl, rfl⟩
theorem sameJudged_withOutlet (s : State) (x : Outlet) (h : x.owed = s.outlet.owed) : SameJudged s (s.withOutlet x) :=
  ⟨rfl, rfl, rfl, rfl, rfl, rfl, rfl, rfl, rfl, rfl, rfl, rfl, h⟩
theorem sameJudged_withSat (s : State) (x : SatCounts) : SameJudged s (s.withSat x) :=
  ⟨rfl, rfl, rfl, rfl, rfl, rfl, rfl, rfl, rfl, rfl, rfl, rfl, rfl⟩
theorem SameJudged.trans {s t u : State} (h : SameJudged s t) (k : SameJudged t u) : SameJudged s u :=
  ⟨k.channels.trans h.channels, k.holds.trans h.holds, k.tracker.trans h.tracker, k.store.trans h.store,
    k.line.trans h.line, k.planner.trans h.planner, k.zones.trans h.zones, k.circuits.trans h.circuits,
    k.stack.trans h.stack, k.supervisor.trans h.supervisor, k.faults.trans h.faults, k.agent.trans h.agent,
    k.owed.trans h.owed⟩
theorem sameJudged_setSlot (x : Slot) (s : State) : SameJudged s (setSlot x s) :=
  ⟨rfl, rfl, rfl, rfl, rfl, rfl, rfl, rfl, rfl, rfl, rfl, rfl, rfl⟩

theorem sameJudged_insertFrame (f : OwnFrame) (s : State) : SameJudged s (insertFrame f s) := by
  unfold insertFrame; split
  · exact sameJudged_withOutlet _ _ rfl
  · exact sameJudged_withSat _ _

theorem sameJudged_startInserted (f : OwnFrame) (q : List OwnFrame) (s : State) : SameJudged s (startInserted f q s) := by
  unfold startInserted; dsimp only; split
  · exact ⟨rfl, rfl, rfl, rfl, rfl, rfl, rfl, rfl, rfl, rfl, rfl, rfl, rfl⟩
  · exact sameJudged_withOutlet _ _ rfl

theorem sameJudged_arbitrate (s : State) : SameJudged s (arbitrate s) := by
  unfold arbitrate
  split
  · exact .refl _
  · exact .refl _
  · exact sameJudged_startInserted _ _ _
  · exact sameJudged_withOutlet _ _ rfl
  · split
    · exact sameJudged_startInserted _ _ _
    · exact sameJudged_withOutlet _ _ rfl

/-! ### The end of an event leaves the part at rest -/

theorem portSettled_arbitrate (s : State) : portSettled (arbitrate s) = true := by
  unfold arbitrate
  have hi : ∀ f q, portSettled (startInserted f q s) = true := fun f q => by
    unfold startInserted; dsimp only; split <;> simp [portSettled]
  split
  · next h => simp [portSettled, h]
  · next h1 h2 h3 => simp [portSettled, h2, h3]
  · exact hi _ _
  · simp [portSettled, startThrough]
  · split
    · exact hi _ _
    · simp [portSettled, startThrough]

theorem faultsSettled_sweep (s : State) (h : s.faults.out = s.faults.output) : faultsSettled (sweepFaults s) = true := by
  unfold sweepFaults
  split
  · next h0 => simp [faultsSettled, h0, h]
  · have hm : ∀ x, (s.withFaults x).conditionMask = s.conditionMask := fun x => faultMask_congr fun e => by
      cases e <;> rfl
    simp only [faultsSettled, hm, State.withFaults_faults, Faults.driven, Bool.and_eq_true, decide_eq_true_eq, beq_iff_eq]
    refine ⟨BitVec.eq_of_getLsbD_eq fun i hi => ?_, rfl⟩
    simp only [BitVec.getLsbD_and, BitVec.getLsbD_or, BitVec.getLsbD_not, hi, decide_true, Bool.true_and]
    cases s.faults.pending.getLsbD i <;> cases s.faults.taken.getLsbD i <;> cases s.conditionMask.getLsbD i <;> simp

theorem sameJudged_insertAll (l : List OwnFrame) (s : State) : SameJudged s (insertAll l s) := by
  induction l generalizing s with
  | nil => exact .refl _
  | cons x l ih => exact (sameJudged_insertFrame _ _).trans (ih _)

theorem follow_followed (c : Int) (b : Bool) (d : DriveRec) : (d.followed c b).follow c b = d.followed c b := by
  rcases d with ⟨x, y, z, w, o⟩
  by_cases h : c = y <;> cases b <;> cases z <;> simp [DriveRec.followed, DriveRec.follow, h]

/-- Whatever the drive stage found, it leaves the records settled. -/
theorem drivesFollow_driveStage (s : State) : drivesFollow (driveStage s) = true := by
  unfold driveStage originateOwed
  rw [(sameJudged_insertAll _ _).drives, drivesFollow_iff]
  intro e he d hd
  simp only [State.withChannels_channels, followDrives, List.map_map, List.mem_map, Function.comp] at he
  obtain ⟨e', _, rfl⟩ := he
  simp only [Entry.paid, followEntry, Option.map_map, Option.map_eq_some_iff, Function.comp] at hd
  obtain ⟨d', _, rfl⟩ := hd
  refine ⟨?_, rfl⟩
  have hs : ∀ x : List Entry, demandSource (s.withChannels x) e'.role = demandSource s e'.role := fun x => by
    cases e'.role <;> rfl
  show (({ d'.followed (demandSource s e'.role) (s.underHold e') with owed := false } : DriveRec).follow
    (demandSource ((s.withChannels _).withChannels _) e'.role) (s.underHold e')) = _
  rw [show ∀ x y : List Entry, demandSource ((s.withChannels x).withChannels y) e'.role = demandSource s e'.role from
    fun x y => hs y]
  have k := follow_followed (demandSource s e'.role) (s.underHold e') d'
  revert k
  generalize d'.followed (demandSource s e'.role) (s.underHold e') = f
  rcases f with ⟨x, y, z, w, o⟩
  cases s.underHold e' <;> cases z <;> simp [DriveRec.follow]

/-- The blocks the drive stage leaves alone: all but the drive records, the insert queue and INSERT_LOSS. -/
theorem driveStage_same (s : State) :
    SameJudged (s.withChannels ((s.channels.map (followEntry s)).map Entry.paid)) (driveStage s) := sameJudged_insertAll _ _

/-- The payment of the owed GRANT frames leaves all blocks but the insert queue and INSERT_LOSS alone. -/
theorem payGrants_same (s : State) : SameJudged (s.withOutlet { s.outlet with owed := [] }) (payGrants s) :=
  sameJudged_insertAll _ _

/-- Whatever GRANT frames an event owed, none is owed after they are paid. -/
theorem grantsPaid_payGrants (s : State) : grantsPaid (payGrants s) = true := (payGrants_same s).grants_paid

/-- The payment leaves the drive records settled. -/
theorem drivesFollow_payGrants (s : State) : drivesFollow (payGrants s) = drivesFollow s := by
  rw [(payGrants_same s).drives]
  unfold drivesFollow
  refine congrArg (fun f => List.all s.channels f) ?_
  funext e
  have : ∀ x, demandSource (s.withOutlet x) e.role = demandSource s e.role := fun x => by cases e.role <;> rfl
  rw [this]; rfl

theorem sweepFaults_cases (s : State) : ∃ x, sweepFaults s = s.withFaults x := by
  unfold sweepFaults; split
  · exact ⟨s.faults, rfl⟩
  · exact ⟨_, rfl⟩

theorem drivesFollow_withFaults (s : State) (x : Faults) : drivesFollow (s.withFaults x) = drivesFollow s := by
  unfold drivesFollow
  refine congrArg (fun f => List.all s.channels f) ?_
  funext e
  have : demandSource (s.withFaults x) e.role = demandSource s e.role := by cases e.role <;> rfl
  rw [this]; rfl

theorem commitStatus_carryOut (s : State) : (carryOut s).store.status = .done := by
  unfold carryOut
  dsimp only
  split
  · split
    · next r rs h =>
      have : ∀ u, Steady u (commitReady r u) := fun u => by
        unfold commitReady boundCeiling
        dsimp only
        refine ((steady_withPlanner _ _).trans (steady_flushTransit _)).trans
          (((steady_forZones _ (fun z s => ?_) _).trans (steady_forCircuits _ (fun c s => steady_setSetpoint _ _ _) _)).trans
            (Steady.ite ((steady_withPlanner _ _).trans (steady_sendUnasked _ _)) (.refl _)))
        unfold zoneFromRow; split <;> simp
      rw [(this _).store]; rfl
    · rfl
  · have : ∀ u, Steady u (commitRun u) := fun u => by
      unfold commitRun
      split
      · exact .refl _
      · dsimp only
        have hb : ∀ v, Steady v (boundByGrantRow v) := fun v => by
          unfold boundByGrantRow boundCeiling
          split
          · exact Steady.ite ((steady_withPlanner _ _).trans (steady_sendUnasked _ _)) (.refl _)
          · exact .refl _
        have hl : ∀ j v, Steady v (boundByGrantRow (lowerGrantRow j v)) := fun j v => (steady_withPlanner _ _).trans (hb _)
        split
        · exact hl _ _
        · exact (hl _ _).trans (steady_installPlan _ _)
    rw [(this _).store]; rfl
  all_goals rfl

theorem storeSettled_settleStore (s : State) : storeSettled (settleStore s) = true := by
  unfold settleStore
  split
  · simp [storeSettled, commitStatus_carryOut]
  · next h =>
    simp only [storeSettled]
    cases h1 : s.store.status == .pending <;> simp_all

end Sys2Proof.Machine
end

