-- ==== Sys2Proof/Laws/Frames.lean ====
section
/-! SUPPORT. The frames that the commands spell: their octets, that they are good frames, and how the receiver classifies
them. -/

namespace Sys2Proof.Machine

theorem halfOf_low_high (h : Half) : halfOf (lowOctet h) (highOctet h) = h := by
  unfold halfOf lowOctet highOctet
  ext i hi
  simp only [BitVec.getElem_or, BitVec.getElem_shiftLeft, BitVec.getElem_setWidth, BitVec.getLsbD_setWidth,
    BitVec.getLsbD_ushiftRight]
  rcases Nat.lt_or_ge i 8 with h8 | h8
  · simp [h8, BitVec.getLsbD_eq_getElem hi]
  · have e : 8 + (i - 8) = i := by omega
    have : i - 8 < 8 := by omega
    simp [Nat.not_lt.mpr h8, e, this, BitVec.getLsbD_eq_getElem hi]

theorem octetAt_append_left (l m : List Byte) (i : Nat) (h : i < l.length) : octetAt (l ++ m) i = octetAt l i := by
  simp [octetAt, List.getD_eq_getElem?_getD, List.getElem?_append_left h]

/-- A sealed frame's check matches (R2, R3). -/
theorem checkMatches_sealFrame (body : List Byte) : checkMatches (sealFrame body) = true := by
  have hl : (sealFrame body).length = body.length + 2 := by simp [sealFrame]
  have h1 : octetAt (sealFrame body) body.length = lowOctet (frameCheck body) := by
    simp [octetAt, sealFrame, List.getD_eq_getElem?_getD]
  have h2 : octetAt (sealFrame body) (body.length + 1) = highOctet (frameCheck body) := by
    simp [octetAt, sealFrame, List.getD_eq_getElem?_getD]
  have h3 : (sealFrame body).take body.length = body := by simp [sealFrame]
  unfold checkMatches
  rw [hl, Nat.add_sub_cancel, show body.length + 2 - 1 = body.length + 1 from rfl, h1, h2, h3, halfOf_low_high]
  simp

/-! ### Fixed frames -/

section fixedOctets

variable (kind src dst third : Byte) (value : Half) (aux : Byte)

@[simp] theorem length_fixedFrame : (fixedFrame kind src dst third value aux).length = 9 := rfl
@[simp] theorem octetAt_fixed_0 : octetAt (fixedFrame kind src dst third value aux) 0 = kind := rfl
@[simp] theorem octetAt_fixed_1 : octetAt (fixedFrame kind src dst third value aux) 1 = src := rfl
@[simp] theorem octetAt_fixed_2 : octetAt (fixedFrame kind src dst third value aux) 2 = dst := rfl
@[simp] theorem octetAt_fixed_3 : octetAt (fixedFrame kind src dst third value aux) 3 = third := rfl
@[simp] theorem octetAt_fixed_4 : octetAt (fixedFrame kind src dst third value aux) 4 = lowOctet value := rfl
@[simp] theorem octetAt_fixed_5 : octetAt (fixedFrame kind src dst third value aux) 5 = highOctet value := rfl
@[simp] theorem octetAt_fixed_6 : octetAt (fixedFrame kind src dst third value aux) 6 = aux := rfl

/-- A frame of nine octets of a kind that is neither ORDER nor REPLY is good (R1, R3). -/
theorem goodFrame_fixedFrame (h : frameKind kind ≠ .order ∧ frameKind kind ≠ .reply) :
    goodFrame (fixedFrame kind src dst third value aux) = true := by
  unfold goodFrame
  rw [show checkMatches (fixedFrame kind src dst third value aux) = true from checkMatches_sealFrame _]
  unfold wellFormedFrame
  rw [octetAt_fixed_0, length_fixedFrame]
  revert h
  generalize frameKind kind = k
  cases k <;> simp

end fixedOctets

@[simp] theorem frameKind_beat : frameKind kindBeat = .beat := by decide
@[simp] theorem frameKind_reading : frameKind kindReading = .reading := by decide
@[simp] theorem frameKind_level : frameKind kindLevel = .level := by decide
@[simp] theorem frameKind_demand : frameKind kindDemand = .demand := by decide
@[simp] theorem frameKind_ask : frameKind kindAsk = .ask := by decide
@[simp] theorem frameKind_grant : frameKind kindGrant = .grant := by decide
@[simp] theorem frameKind_order : frameKind kindOrder = .order := by decide
@[simp] theorem frameKind_reply : frameKind kindReply = .reply := by decide

/-! ### ORDER frames -/

section orderOctets

variable (kind src dst code tag : Byte) (data : List Byte)

theorem length_variableFrame : (variableFrame kind src dst code tag data).length = data.length + 8 := by
  simp [variableFrame, sealFrame]

@[simp] theorem octetAt_variable_0 : octetAt (variableFrame kind src dst code tag data) 0 = kind := rfl
@[simp] theorem octetAt_variable_1 : octetAt (variableFrame kind src dst code tag data) 1 = src := rfl
@[simp] theorem octetAt_variable_2 : octetAt (variableFrame kind src dst code tag data) 2 = dst := rfl
@[simp] theorem octetAt_variable_3 : octetAt (variableFrame kind src dst code tag data) 3 = code := rfl
@[simp] theorem octetAt_variable_4 : octetAt (variableFrame kind src dst code tag data) 4 = tag := rfl
@[simp] theorem octetAt_variable_5 :
    octetAt (variableFrame kind src dst code tag data) 5 = BitVec.ofNat 8 data.length := rfl

/-- An ORDER or REPLY frame of 0 to 48 data octets is good (R1, R3). -/
theorem goodFrame_variableFrame (h : frameKind kind = .order ∨ frameKind kind = .reply) (hd : data.length ≤ 48) :
    goodFrame (variableFrame kind src dst code tag data) = true := by
  unfold goodFrame
  rw [show checkMatches (variableFrame kind src dst code tag data) = true from checkMatches_sealFrame _]
  have h5 : (BitVec.ofNat 8 data.length).toNat = data.length := by
    rw [BitVec.toNat_ofNat]; exact Nat.mod_eq_of_lt (by omega)
  unfold wellFormedFrame
  rw [octetAt_variable_0, octetAt_variable_5, length_variableFrame, h5]
  rcases h with h | h <;> rw [h] <;> simp [Config.dataLimit, hd] <;> omega

theorem orderData_variableFrame (hd : data.length ≤ 48) :
    orderData (variableFrame kind src dst code tag data) = data := by
  have h5 : (BitVec.ofNat 8 data.length).toNat = data.length := by
    rw [BitVec.toNat_ofNat]; exact Nat.mod_eq_of_lt (by omega)
  unfold orderData
  rw [octetAt_variable_5, h5]
  simp [variableFrame, sealFrame]

end orderOctets

end Sys2Proof.Machine
end

