-- ==== Sys2Proof/Laws/Line.lean ====
section
/-! SUPPORT. What the line controller's state entries, the trips, the pushes and the requests to the planner do to the line
record, the planner, the stack, the transit line and the supervisor: one lemma per operation and block. -/

namespace Sys2Proof.Machine

/-! ### Operations that leave these five blocks alone -/

/-- The line record, the planner, the stack, the transit line and the supervisor are the same. -/
structure Calm (s t : State) : Prop where
  line : t.line = s.line
  planner : t.planner = s.planner
  stack : t.stack = s.stack
  transit : t.transit = s.transit
  supervisor : t.supervisor = s.supervisor

theorem Calm.refl (s : State) : Calm s s := ⟨rfl, rfl, rfl, rfl, rfl⟩

theorem Calm.trans {s t u : State} (h : Calm s t) (k : Calm t u) : Calm s u :=
  ⟨k.line.trans h.line, k.planner.trans h.planner, k.stack.trans h.stack, k.transit.trans h.transit,
    k.supervisor.trans h.supervisor⟩

theorem calm_insertFrame (f : OwnFrame) (s : State) : Calm s (insertFrame f s) := by
  unfold insertFrame; split <;> exact ⟨rfl, rfl, rfl, rfl, rfl⟩

theorem calm_insertAll (l : List OwnFrame) (s : State) : Calm s (insertAll l s) := by
  induction l generalizing s with
  | nil => exact .refl s
  | cons f l ih => exact (calm_insertFrame _ _).trans (ih _)

theorem calm_oweGrant (st : GrantStatus) (tag : Byte) (s : State) : Calm s (oweGrant st tag s) := ⟨rfl, rfl, rfl, rfl, rfl⟩

theorem calm_payGrants (s : State) : Calm s (payGrants s) :=
  have h : Calm s (s.withOutlet { s.outlet with owed := [] }) := ⟨rfl, rfl, rfl, rfl, rfl⟩
  h.trans (calm_insertAll _ _)

theorem calm_sendGrant (st : GrantStatus) (tag : Byte) (s : State) : Calm s (sendGrant st tag s) :=
  (calm_payGrants s).trans (calm_insertFrame _ _)

theorem calm_sendUnasked (st : GrantStatus) (s : State) : Calm s (sendUnasked st s) := calm_sendGrant _ _ _

theorem calm_raiseFault (e : FaultCode) (s : State) : Calm s (raiseFault e s) := ⟨rfl, rfl, rfl, rfl, rfl⟩

theorem calm_followDrives (s : State) : Calm s (followDrives s) := ⟨rfl, rfl, rfl, rfl, rfl⟩

theorem calm_withChannels (s : State) (x : List Entry) : Calm s (s.withChannels x) := ⟨rfl, rfl, rfl, rfl, rfl⟩

theorem calm_driveStage (s : State) : Calm s (driveStage s) :=
  ((calm_followDrives s).trans (calm_withChannels _ _)).trans (calm_insertAll _ _)

theorem calm_zoneEntry (z : Zone) (s : State) : Calm s (zoneEntry z s) := by
  unfold zoneEntry; split
  · exact ⟨rfl, rfl, rfl, rfl, rfl⟩
  · exact .refl s

theorem calm_circuitEntry (c : Circuit) (s : State) : Calm s (circuitEntry c s) := by
  unfold circuitEntry; split
  · exact ⟨rfl, rfl, rfl, rfl, rfl⟩
  · exact .refl s

theorem calm_zonePeriod (z : Zone) (s : State) : Calm s (zonePeriod z s) := by
  unfold zonePeriod; split
  · exact ⟨rfl, rfl, rfl, rfl, rfl⟩
  · exact .refl s

theorem calm_retargetZone (z : Zone) (a f r : Int) (s : State) : Calm s (retargetZone z a f r s) := by
  unfold retargetZone; split
  · exact ⟨rfl, rfl, rfl, rfl, rfl⟩
  · exact .refl s

theorem calm_circuitPeriod (c : Circuit) (s : State) : Calm s (circuitPeriod c s) := by
  unfold circuitPeriod; split
  · exact ⟨rfl, rfl, rfl, rfl, rfl⟩
  · exact .refl s

theorem calm_setSetpoint (c : Circuit) (v : Int) (s : State) : Calm s (setSetpoint c v s) := by
  unfold setSetpoint; split
  · exact ⟨rfl, rfl, rfl, rfl, rfl⟩
  · exact .refl s

theorem calm_forZones (f : Zone → State → State) (hf : ∀ z s, Calm s (f z s)) (s : State) : Calm s (forZones f s) :=
  ((hf _ _).trans (hf _ _)).trans ((hf _ _).trans (hf _ _))

theorem calm_forCircuits (f : Circuit → State → State) (hf : ∀ c s, Calm s (f c s)) (s : State) :
    Calm s (forCircuits f s) := (hf _ _).trans (hf _ _)

theorem calm_matureAll (l : List TransitEntry) (s : State) : Calm s (matureAll l s) := by
  induction l generalizing s with
  | nil => exact .refl s
  | cons e es ih => exact (calm_setSetpoint _ _ _).trans (ih _)

/-! ### The grant -/

@[simp] theorem sendUnasked_planner (st : GrantStatus) (s : State) : (sendUnasked st s).planner = s.planner :=
  (calm_sendUnasked st s).planner

@[simp] theorem insertFrame_planner (f : OwnFrame) (s : State) : (insertFrame f s).planner = s.planner :=
  (calm_insertFrame f s).planner

/-- The ceiling held at a bound never rises, and nothing else of the planner changes (R119). -/
theorem holdCeiling_planner (b : Int) (s : State) :
    (holdCeiling b s).planner = { s.planner with ceiling := min s.planner.ceiling b } := rfl

/-- The grant set (R119). -/
theorem setGrant_planner (g : Nat) (c : Int) (s : State) :
    (setGrant g c s).planner = { s.planner with ceiling := c, grantRow := some g } := by
  unfold setGrant
  simp only
  split
  · rfl
  · exact sendUnasked_planner _ _

/-- The ceiling bounded (R68, R69, R120). -/
theorem boundCeiling_planner (b : Int) (s : State) :
    (boundCeiling b s).planner = { s.planner with ceiling := min s.planner.ceiling b } := by
  unfold boundCeiling
  split
  · rename_i h
    exact (sendUnasked_planner _ _).trans (by rw [min_eq_right (le_of_lt h)]; rfl)
  · rename_i h
    rw [min_eq_left (not_lt.mp h)]

/-! ### State entries -/

theorem grantAtEntry_planner (l : LineState) (s : State) :
    (grantAtEntry l s).planner = if l.granted then s.planner else { s.planner with ceiling := 0, grantRow := none } := by
  unfold grantAtEntry
  split
  · rfl
  · split
    · exact sendUnasked_planner _ _
    · rfl

theorem grantAtEntry_rest (l : LineState) (s : State) :
    (grantAtEntry l s).line = s.line ∧ (grantAtEntry l s).stack = s.stack ∧ (grantAtEntry l s).transit = s.transit ∧
      (grantAtEntry l s).supervisor = s.supervisor := by
  unfold grantAtEntry
  split
  · exact ⟨rfl, rfl, rfl, rfl⟩
  · split
    · exact ⟨(calm_sendUnasked _ _).line, (calm_sendUnasked _ _).stack, (calm_sendUnasked _ _).transit,
        (calm_sendUnasked _ _).supervisor⟩
    · exact ⟨rfl, rfl, rfl, rfl⟩

/-- What stands between the grant and the loops at a state entry is what the loops and the drive stage leave. -/
theorem calm_loopEntries (s : State) : Calm s (followDrives (forCircuits circuitEntry (forZones zoneEntry s))) :=
  ((calm_forZones _ calm_zoneEntry s).trans (calm_forCircuits _ calm_circuitEntry _)).trans (calm_followDrives _)

/-- A state entry: the new state, with the line's timers stopped (R73). -/
theorem enterLine_line (l : LineState) (s : State) :
    (enterLine l s).line = { s.line with state := l, purge := none, settle := none, cooldown := none } := by
  unfold enterLine
  refine (calm_loopEntries _).line.trans ?_
  show ({ (grantAtEntry l s).line with state := l, purge := none, settle := none, cooldown := none } : Line) = _
  rw [(grantAtEntry_rest l s).1]

/-- A state entry: the grant by R75. -/
theorem enterLine_planner (l : LineState) (s : State) :
    (enterLine l s).planner = if l.granted then s.planner else { s.planner with ceiling := 0, grantRow := none } :=
  (calm_loopEntries _).planner.trans (grantAtEntry_planner l s)

/-- A state entry: the permit and the supervisor's watches (R74, R171, R173). -/
theorem enterLine_supervisor (l : LineState) (s : State) : (enterLine l s).supervisor = s.supervisor.entered l := by
  unfold enterLine
  refine (calm_loopEntries _).supervisor.trans ?_
  show (grantAtEntry l s).supervisor.entered l = _
  rw [(grantAtEntry_rest l s).2.2.2]

@[simp] theorem enterLine_stack (l : LineState) (s : State) : (enterLine l s).stack = s.stack :=
  (calm_loopEntries _).stack.trans (grantAtEntry_rest l s).2.1

@[simp] theorem enterLine_transit (l : LineState) (s : State) : (enterLine l s).transit = s.transit :=
  (calm_loopEntries _).transit.trans (grantAtEntry_rest l s).2.2.1

/-- The permit is closed exactly in the states that R74 names, at every entry. -/
theorem entered_permit (l : LineState) (v : Supervisor) : (v.entered l).permit = l.permitClosed := by cases l <;> rfl

/-- A state entry leaves what follows the line state as it must, if no plan stands outside RUN and no context outside READY, RUN
and BREAK; a state with a grant is entered with one. -/
theorem lineSound_enterLine (l : LineState) (s : State) (hp : s.planner.plan.isSome = true → l = .run)
    (hk : s.stack ≠ [] → l.granted = true ∨ l = .brk) (hg : l.granted = true → s.planner.grantRow.isSome = true) :
    LineSound (enterLine l s) where
  permit := by rw [enterLine_supervisor, enterLine_line]; exact entered_permit l _
  grant := by
    rw [enterLine_planner, enterLine_line]
    show _ = l.granted
    split
    · rename_i h; rw [hg h, h]
    · rename_i h; exact (Bool.not_eq_true _ ▸ h : l.granted = false).symm
  ceiling := by
    rw [enterLine_planner, enterLine_line]
    intro h
    have h : l.granted = false := h
    simp [h]
  plan := by
    rw [enterLine_planner, enterLine_line]
    intro h
    exact hp (by revert h; split <;> exact id)
  purge := by rw [enterLine_line]; intro h; simp at h
  settle := by rw [enterLine_line]; intro h; simp at h
  cooldown := by rw [enterLine_line]; intro h; simp at h
  stack := by rw [enterLine_stack, enterLine_line]; exact hk

/-! ### Trips -/

/-- A trip taken by the line controller changes nothing in COLD and LOCKOUT (R93). -/
theorem tripLine_cold {s : State} (h : s.line.state = .cold ∨ s.line.state = .lockout) : tripLine s = s := if_pos h

/-- Elsewhere it is the entry into LOCKOUT with no plan, no context and no transit entry (R93). -/
theorem tripLine_else {s : State} (h : ¬ (s.line.state = .cold ∨ s.line.state = .lockout)) :
    tripLine s = enterLine .lockout (flushTransit (discardPlan (emptyStack s))) := if_neg h

/-- A trip keeps what follows the line state (R93). -/
theorem lineSound_tripLine {s : State} (h : LineSound s) : LineSound (tripLine s) := by
  unfold tripLine
  split
  · exact h
  · exact lineSound_enterLine _ _ nofun (fun k => absurd rfl k) nofun

/-! ### Pushes -/

/-- An overlay changes the line record, the stack, the transit line and the supervisor in nothing (R154 to R156). -/
theorem overlay_rest (c : Cause) (s : State) :
    (overlay c s).line = s.line ∧ (overlay c s).stack = s.stack ∧ (overlay c s).transit = s.transit ∧
      (overlay c s).supervisor = s.supervisor := by
  cases c <;> exact ⟨rfl, rfl, rfl, rfl⟩

/-- An overlay keeps the grant row, and freezes a plan or discards it. -/
theorem overlay_planner (c : Cause) (s : State) :
    (overlay c s).planner.grantRow = s.planner.grantRow ∧
      ((overlay c s).planner.plan.isSome = true → s.planner.plan.isSome = true) := by
  cases c
  · exact ⟨rfl, by simp [overlay, freezePlan, State.withPlan, State.withPlanner]⟩
  · exact ⟨rfl, by simp [overlay, freezePlan, State.withPlan, State.withPlanner]⟩
  · exact ⟨rfl, nofun⟩
  · exact ⟨rfl, nofun⟩
  · exact ⟨rfl, nofun⟩

/-- A push leaves the line record, the transit line and the supervisor alone, in every case of R152. -/
theorem push_rest (c : Cause) (s : State) :
    (push c s).line = s.line ∧ (push c s).transit = s.transit ∧ (push c s).supervisor = s.supervisor := by
  have h := overlay_rest c
  unfold push
  split
  · exact ⟨rfl, rfl, rfl⟩
  split
  · exact ⟨rfl, rfl, rfl⟩
  split
  · split
    · exact ⟨(h s).1, (h s).2.2.1, (h s).2.2.2⟩
    · exact ⟨rfl, rfl, rfl⟩
  · split
    · exact ⟨(h s).1, (h s).2.2.1, (h s).2.2.2⟩
    · exact ⟨(h _).1, (h _).2.2.1, (h _).2.2.2⟩

/-- A push keeps the grant row, and leaves a plan only where one stood. -/
theorem push_planner (c : Cause) (s : State) :
    (push c s).planner.grantRow = s.planner.grantRow ∧
      ((push c s).planner.plan.isSome = true → s.planner.plan.isSome = true) := by
  have h := overlay_planner c
  unfold push
  split
  · exact ⟨rfl, id⟩
  split
  · exact ⟨rfl, id⟩
  split
  · split
    · exact h s
    · exact ⟨rfl, id⟩
  · split
    · exact h s
    · exact h (overflowStack s)

/-- A push outside READY and RUN changes nothing (R152). -/
theorem push_refused {c : Cause} {s : State} (h : s.line.state.granted = false) : push c s = s := by
  unfold push pushRefused
  rw [h]
  exact if_pos rfl

/-- A push in READY or RUN keeps what follows the line state. -/
theorem lineSound_push (c : Cause) {s : State} (h : LineSound s) : LineSound (push c s) := by
  by_cases hg : s.line.state.granted = true
  · obtain ⟨hl, _, hv⟩ := push_rest c s
    obtain ⟨hr, hp⟩ := push_planner c s
    exact ⟨by rw [hv, hl]; exact h.permit, by rw [hr, hl]; exact h.grant, by rw [hl, hg]; exact nofun,
      fun k => hl ▸ h.plan (hp k), by rw [hl]; exact h.purge, by rw [hl]; exact h.settle, by rw [hl]; exact h.cooldown,
      fun _ => .inl (hl ▸ hg)⟩
  · rw [push_refused (Bool.not_eq_true _ ▸ hg)]
    exact h

/-! ### Capacities -/

/-- A QUEUE_CHILL step keeps the transit line within its capacity (R144). -/
theorem appendTransit_length (c : Circuit) (v : Int) (r : Nat) {s : State} (h : s.transit.length ≤ Config.transitCapacity) :
    (appendTransit c v r s).transit.length ≤ Config.transitCapacity := by
  unfold appendTransit
  simp only [State.withTransit_transit, List.length_append, List.length_singleton]
  split
  · omega
  · rename_i k
    unfold forceHead
    split
    · rename_i e; rw [e] at k; exact absurd (by decide) k
    · rename_i e rest hl
      have t : (raiseFault .transitForced ((mature e (s.withTransit rest)).withSat
          { (mature e (s.withTransit rest)).sat with
            transitForced := satInc (mature e (s.withTransit rest)).sat.transitForced })).transit = rest :=
        (calm_setSetpoint _ _ _).transit
      simp only [t]
      rw [hl] at h
      exact h

/-- An insertion keeps the queue within its capacity (R14). -/
theorem insertFrame_length (f : OwnFrame) {s : State} (h : s.outlet.queue.length ≤ Config.insertCapacity) :
    (insertFrame f s).outlet.queue.length ≤ Config.insertCapacity := by
  have r : ∀ q q' : List OwnFrame, replaceWaiting f q = some q' → q'.length = q.length := by
    intro q
    induction q with
    | nil => intro q' e; cases e
    | cons g q ih =>
      intro q' e
      unfold replaceWaiting at e
      split at e
      · cases e; rfl
      · obtain ⟨x, hx, rfl⟩ := Option.map_eq_some_iff.mp e
        simp [ih x hx]
  unfold insertFrame queueInsert
  cases e : replaceWaiting f s.outlet.queue with
  | some q => simpa [r _ _ e] using h
  | none =>
    dsimp only
    split
    · rename_i q hq
      split at hq
      · cases hq; simp only [State.withOutlet_outlet, List.length_append, List.length_singleton]; omega
      · cases hq
    · exact h

end Sys2Proof.Machine
end

