-- ==== Sys2Proof/Laws/Receive.lean ====
section
/-! SUPPORT. Frame commands at the receiver: what the part does with the octets before any block sees them, and how an
ORDER's REPLY ends its event. -/

namespace Sys2Proof.Machine

/-! ### Arrival -/

theorem sameJudged_countGood (s : State) : SameJudged s (countGood s) := sameJudged_withLink _ _
theorem sameJudged_countConsumed (s : State) : SameJudged s (countConsumed s) := sameJudged_withLink _ _
theorem sameJudged_arrived (s : State) : SameJudged s (arrived s) :=
  (sameJudged_countGood _).trans (sameJudged_countConsumed _)

/-- A state that differs from one at rest in blocks the judgements do not read, with nothing new to send, is at rest. -/
theorem SameJudged.atRest {s t : State} (h : SameJudged s t) (hs : s.atRest = true) (hp : portSettled t = true) :
    t.atRest = true := by
  have ⟨h1, h2, h3, _, h5⟩ := atRest_iff.mp hs
  exact atRest_iff.mpr ⟨h.drives.trans h1, h.store_settled.trans h2, h.faults_settled.trans h3, hp, h.grants_paid.trans h5⟩

theorem atRest_arrived {s : State} (h : s.atRest = true) : (arrived s).atRest = true :=
  (sameJudged_arrived s).atRest h (atRest_iff.mp h).2.2.2.1

theorem atRest_countGood {s : State} (h : s.atRest = true) : (countGood s).atRest = true :=
  (sameJudged_countGood s).atRest h (atRest_iff.mp h).2.2.2.1

theorem receive_good {o : List Byte} {s : State} (h : s.onRing) (hg : goodFrame o = true) : receive o s = classify o s := by
  unfold receive; rw [if_pos h, if_pos hg]

theorem receive_off {o : List Byte} {s : State} (h : ¬ s.onRing) : receive o s = s := by
  unfold receive; rw [if_neg h]

/-- An ORDER that reaches the part is handed to the agent (R6, R8). -/
theorem receiveOrder_reaches {src dst code tag : Byte} {data : List Byte} {s : State} (h : Reaches src dst s)
    (hd : data.length ≤ Config.dataLimit) :
    receiveOrder src dst code tag data s = arbitrate (takeOrder (addrOf src) code tag data (arrived s)) := by
  obtain ⟨h1, h2, h3⟩ := h
  unfold receiveOrder
  rw [receive_good h1 (goodFrame_variableFrame _ _ _ _ _ _ (.inl frameKind_order) hd)]
  have : frameEnd s.link.own (variableFrame kindOrder src dst code tag data) = .ordered := by
    unfold frameEnd; simp [h2, h3]
  unfold classify
  rw [this]
  simp only [orderWork, octetAt_variable_1, octetAt_variable_3, octetAt_variable_4, orderData_variableFrame _ _ _ _ _ _ hd]
  rfl

/-- An ASK that reaches the part is handed to the planner (R6, R8). -/
theorem receive_ask {src dst tag aux : Byte} {value : Half} {s : State} (h : Reaches src dst s) :
    receive (fixedFrame kindAsk src dst tag value aux) s = finish (takeAsk (addrOf src) tag value (arrived s)) := by
  obtain ⟨h1, h2, h3⟩ := h
  rw [receive_good h1 (goodFrame_fixedFrame _ _ _ _ _ _ (by simp))]
  have : frameEnd s.link.own (fixedFrame kindAsk src dst tag value aux) = .asked := by
    unfold frameEnd; simp [h2, h3]
  unfold classify
  rw [this]
  simp only [askWork, octetAt_fixed_1, octetAt_fixed_3, octetAt_fixed_4, octetAt_fixed_5, halfOf_low_high]
  rfl

/-- A frame of a kind that is never addressed to the part passes, and is copied by its kind (R6, R9). -/
theorem receive_passes {kind src dst third aux : Byte} {value : Half} {s : State} (h : s.onRing)
    (hs : addrOf src ≠ s.link.own)
    (hk : frameKind kind = .beat ∨ frameKind kind = .reading ∨ frameKind kind = .level ∨ frameKind kind = .demand) :
    receive (fixedFrame kind src dst third value aux) s =
      finish (copyFrame (fixedFrame kind src dst third value aux)
        (forwardFrame (fixedFrame kind src dst third value aux) (countGood s))) := by
  rw [receive_good h (goodFrame_fixedFrame _ _ _ _ _ _ (by rcases hk with h | h | h | h <;> simp [h]))]
  have : frameEnd s.link.own (fixedFrame kind src dst third value aux) = .passed := by
    unfold frameEnd
    rw [octetAt_fixed_1, if_neg hs, octetAt_fixed_0]
    rcases hk with h | h | h | h <;> simp [h]
  unfold classify
  rw [this]

/-! ### The REPLY -/

theorem replaceWaiting_mem {f : OwnFrame} {q r : List OwnFrame} (h : replaceWaiting f q = some r) : f ∈ r := by
  induction q generalizing r with
  | nil => simp [replaceWaiting] at h
  | cons g q ih =>
    unfold replaceWaiting at h
    split at h
    · cases h; simp
    · cases hq : replaceWaiting f q with
      | none => simp [hq] at h
      | some r' => simp [hq] at h; subst h; simp [ih hq]

theorem queueInsert_mem {f : OwnFrame} {q r : List OwnFrame} (h : queueInsert f q = some r) : f ∈ r := by
  unfold queueInsert at h
  split at h
  · next h' => cases h; exact replaceWaiting_mem h'
  · split at h
    · cases h; simp
    · simp at h

theorem queueInsert_room {f : OwnFrame} {q : List OwnFrame} (h : q.length < Config.insertCapacity) :
    ∃ r, queueInsert f q = some r := by
  unfold queueInsert; split
  · exact ⟨_, rfl⟩
  · rw [if_pos h]; exact ⟨_, rfl⟩

/-- A waiting frame leaves first where it waits alone for a free port; it waits on elsewhere (R16). -/
theorem sends_arbitrate {f : OwnFrame} {s : State} (h : f ∈ s.outlet.queue) : Sends f (arbitrate s) := by
  have hi : ∀ g q, s.outlet.queue = g :: q → Sends f (startInserted g q s) := fun g q hq => by
    rw [hq] at h
    unfold Sends startInserted; dsimp only
    rcases List.mem_cons.mp h with rfl | h
    · right; split <;> rfl
    · left; split <;> exact h
  unfold arbitrate
  split
  · exact .inl h
  · next h' => rw [h'] at h; simp at h
  · next h' => exact hi _ _ h'
  · next h' => rw [h'] at h; simp at h
  · next h' =>
    split
    · exact hi _ _ h'
    · exact .inl h

/-- The arbiter touches the insert queue, the port and the reply slot alone. -/
structure OutletAlone (s t : State) : Prop where
  link : t.link = s.link
  sat : t.sat = s.sat
  judged : SameJudged s t
  transit : t.transit = s.transit
  dest : t.outlet.dest = s.outlet.dest
  freeCount : t.freeCount = s.freeCount
  pending : t.pending = s.pending

theorem OutletAlone.refl (s : State) : OutletAlone s s := ⟨rfl, rfl, .refl s, rfl, rfl, rfl, rfl⟩

theorem outletAlone_startInserted (f : OwnFrame) (q : List OwnFrame) (s : State) : OutletAlone s (startInserted f q s) := by
  refine ⟨?_, ?_, sameJudged_startInserted f q s, ?_, ?_, ?_, ?_⟩ <;> unfold startInserted <;> dsimp only <;> split <;> rfl

theorem outletAlone_startThrough (s : State) : OutletAlone s (startThrough s) :=
  ⟨rfl, rfl, sameJudged_withOutlet _ _ rfl, rfl, rfl, rfl, rfl⟩

theorem outletAlone_arbitrate (s : State) : OutletAlone s (arbitrate s) := by
  unfold arbitrate
  split
  · exact .refl _
  · exact .refl _
  · exact outletAlone_startInserted _ _ _
  · exact outletAlone_startThrough _
  · split
    · exact outletAlone_startInserted _ _ _
    · exact outletAlone_startThrough _

/-- A frame inserted waits in the queue, or INSERT_LOSS counts it (R14). -/
theorem insertFrame_waits_or_lost (f : OwnFrame) (s : State) :
    f ∈ (insertFrame f s).outlet.queue ∨ (insertFrame f s).sat.insertLoss = satInc s.sat.insertLoss := by
  unfold insertFrame
  split
  · next q h => exact .inl (queueInsert_mem h)
  · exact .inr rfl

/-- INSERT_LOSS never falls over insertions (R14, R19). -/
theorem insertAll_loss_le (l : List OwnFrame) (s : State) :
    s.sat.insertLoss.toNat ≤ (insertAll l s).sat.insertLoss.toNat := by
  induction l generalizing s with
  | nil => exact le_rfl
  | cons f l ih =>
    refine le_trans ?_ (ih (insertFrame f s))
    unfold insertFrame
    split
    · exact le_rfl
    · show _ ≤ (satInc s.sat.insertLoss).toNat
      unfold satInc
      split
      · exact le_rfl
      · next h =>
        have := s.sat.insertLoss.isLt
        have : s.sat.insertLoss.toNat ≠ 255 := fun k => h (BitVec.eq_of_toNat_eq k)
        rw [BitVec.toNat_add]
        show _ ≤ (s.sat.insertLoss.toNat + 1) % 256
        omega

/-- Where the REPLY finds room, it is inserted and the slot set (R14, R187). -/
theorem reply_room {dst : Addr} {code tag : Byte} {d : List Byte} {s : State} {q : List OwnFrame}
    (h : queueInsert (.reply dst code tag d) s.outlet.queue = some q) :
    reply dst code tag d s =
      setSlot (if resetTaken code d then .resetPending else .occupied) (s.withOutlet { s.outlet with queue := q }) := by
  unfold reply
  dsimp only
  rw [h]
  simp only [Option.isNone_some, Bool.false_eq_true, if_false, insertFrame, h]

/-- A REPLY that its event inserts alone (R16, R187): it is sent, the slot is FREE or OCCUPIED as the port was free or
busy, and nothing else changes. -/
theorem reply_alone {dst : Addr} {code tag : Byte} {d : List Byte} {s : State} (hr : s.outlet.queue.length < Config.insertCapacity)
    (hp : portSettled s = true) (hn : resetTaken code d = false) :
    let t := arbitrate (reply dst code tag d s)
    Sends (.reply dst code tag d) t ∧ t.agent.slot = slotAfterReply s ∧ OutletAlone s t := by
  obtain ⟨q, hq⟩ := queueInsert_room (f := .reply dst code tag d) hr
  intro t
  have ht : t = arbitrate (setSlot .occupied (s.withOutlet { s.outlet with queue := q })) := by
    simp only [t, reply_room hq, hn, Bool.false_eq_true, if_false]
  have hm := queueInsert_mem hq
  have hs : Sends (.reply dst code tag d) t := by rw [ht]; exact sends_arbitrate hm
  refine ⟨hs, ?_, ?_⟩
  · cases hport : s.outlet.port with
    | some x =>
      rw [ht, arbitrate_busy (by simp [setSlot, hport])]
      simp [setSlot, slotAfterReply, hport]
    | none =>
      have hq0 : s.outlet.queue = [] := by
        simp [portSettled, hport] at hp; exact hp.2
      have ht0 : s.link.through = [] := by
        simp [portSettled, hport] at hp; exact hp.1
      have : q = [.reply dst code tag d] := by
        rw [hq0] at hq; simp [queueInsert, replaceWaiting, Config.insertCapacity] at hq; exact hq.symm
      subst this
      rw [ht]
      simp [arbitrate, setSlot, hport, ht0, startInserted, slotAfterReply, OwnFrame.key]
  · have h1 : OutletAlone s (setSlot .occupied (s.withOutlet { s.outlet with queue := q })) :=
      ⟨rfl, rfl, ⟨rfl, rfl, rfl, rfl, rfl, rfl, rfl, rfl, rfl, rfl, rfl, rfl, rfl⟩, rfl, rfl, rfl, rfl⟩
    have h2 := outletAlone_arbitrate (setSlot .occupied (s.withOutlet { s.outlet with queue := q }))
    rw [ht]
    exact ⟨h2.link.trans h1.link, h2.sat.trans h1.sat, h1.judged.trans h2.judged, h2.transit.trans h1.transit,
      h2.dest.trans h1.dest, h2.freeCount.trans h1.freeCount, h2.pending.trans h1.pending⟩

end Sys2Proof.Machine
end

