-- ==== Sys2Proof/Tests/Slice0.lean ====
section
/-! SUPPORT. Checks of the model on fixed values: the operand checks refuse ill-formed terms, the frame check has its known
value, single commands act as the spec's examples say; and for each statement with hypotheses, states that meet them. -/

open Sys2Proof Sys2Proof.Machine

namespace Sys2Proof.Tests

/-! ### Small states -/

/-- The part on the ring at address 1, with no channels listed, so that a kernel evaluation stays short. -/
def ring : State :=
  { State.reset with
    link := { State.reset.link with phase := .joined, silence := some 50 }
    channels := [] }

/-- A GRANT in transmission. -/
def busy (s : State) : State := s.withOutlet { s.outlet with port := some (.inserted (.grant 63 0 0 .held)) }

/-- The same in another line state. -/
def inState (l : LineState) (s : State) : State := s.withLine { s.line with state := l }

/-- Zone 1 present. -/
def zoned (s : State) : State := s.withLine { s.line with zonesPresent := ⟨true, false, false, false⟩ }

/-- A channel of a role, with fresh records. -/
def channel (r : Role) : Entry := ({ Entry.init with role := r } : Entry).renewed

/-- A drive channel that has followed a demand. -/
def driven (r : Role) (v : Int) : Entry :=
  { Entry.init with role := r, drive := some { computed := v, sent := v, held := none, refresh := 500, owed := false } }

/-- A level channel with a confirmed state. -/
def levelAt (r : Role) (c : Confirmed) : Entry :=
  { Entry.init with role := r, level := some { raw := some (c == .active), confirmed := c, timer := none } }

/-- The part with these channels. -/
def withMap (l : List Entry) (s : State) : State := s.withChannels l

/-- A complete map for zone 1, with the three roles START asks for beside it. -/
def zoneMap : List Entry :=
  [channel (.zoneAir .z1), channel (.lel .z1), driven (.burner .z1) 0, driven (.fan .z1) 0, channel (.flame .z1),
    levelAt (.airflow .z1) .active, driven .exhaust 0, channel .speed, channel .position]

/-- Row 0 of the tests' table. -/
def row0 : Row :=
  { low := 0, high := 80, exhaust := 300, chill := ⟨250, 250⟩, ramp := 20, soak := 10, lead := 50
    zones := ⟨some ⟨1000, 200, 300⟩, none, none, none⟩ }

/-- Row 1 of the tests' table. -/
def row1 : Row := { row0 with low := 60, high := 250, exhaust := 500, zones := ⟨some ⟨1800, 300, 400⟩, none, none, none⟩ }

/-- The part with a table of two rows in both copies. -/
def tabled (s : State) : State := s.withStore { s.store with active := [row0, row1], shadow := [row0, row1] }

/-- The part in RUN, set for row 1 at a ceiling of 200, at 150 m/min. -/
def running : State :=
  let s := inState .run (tabled ring)
  let s := s.withPlanner { s.planner with ceiling := 200, grantRow := some 1, target := 1 }
  s.withTracker { s.tracker with state := .locked, speed := 150, age := some 0 }

/-- A plan toward row 1 with one step left. -/
def oneStep (t : Trigger) (timer : Nat) (clock : Option Nat) : Plan :=
  { origin := .asked, ordering := .raise, request := some ⟨240, 7⟩, target := 1, frozen := false
    steps := [.waiting (.grant 240 1) t], head := 0, headTimer := timer, clock := clock, readyLimit := 300000 }

/-- A zone record with current readings, its air at a value. -/
def aired (v : Int) : ZoneRec :=
  { ZoneRec.init with air := ⟨some v, .good, some 0⟩, lel := ⟨some 100, .good, some 0⟩ }

/-- Zone 1 present with current readings. -/
def measured (v : Int) (s : State) : State := zoned (s.withZones ⟨aired v, .init, .init, .init⟩)

/-! ### The operand checks refuse what is not their row's -/

/-- CHECK_ERROR brings no good frame. -/
theorem test_wellFormed_checkError :
    (Instr.checkError (fixedFrame kindGrant 7 63 0 0 0)).wellFormed = false := by decide +kernel

/-- STRIP brings a good frame. -/
theorem test_wellFormed_strip : (Instr.strip [1, 2, 3]).wellFormed = false := by decide +kernel

/-- THROUGH_FRAME brings a good frame of a kind without a row of its own. -/
theorem test_wellFormed_throughFrame :
    (Instr.throughFrame [1, 2, 3]).wellFormed = false ∧
      (Instr.throughFrame (fixedFrame kindBeat 7 63 0 0 0)).wellFormed = false := by decide +kernel

/-- A channel ID is at most 127. -/
theorem test_wellFormed_channel :
    (Instr.confirmTimerExpiry 128).wellFormed = false ∧ (Instr.refreshTimerExpiry 128).wellFormed = false ∧
      (Instr.confirmTimerExpiry 127).wellFormed = true := by decide

/-- An ORDER carries at most 48 octets. -/
theorem test_wellFormed_orderLength :
    (Instr.readStatus 7 1 0 (List.replicate 49 0)).wellFormed = false ∧
      (Instr.readStatus 7 1 0 (List.replicate 48 0)).wellFormed = true := by decide

/-- UNKNOWN_ORDER has a code that the table lacks. -/
theorem test_wellFormed_unknownOrder :
    (Instr.unknownOrder 0x2A 7 1 0 []).wellFormed = false ∧ (Instr.unknownOrder 0x2B 7 1 0 []).wellFormed = true ∧
      (Instr.unknownOrder 0x01 7 1 0 []).wellFormed = false ∧ (Instr.unknownOrder 0x00 7 1 0 []).wellFormed = true := by decide

/-- LINE_BAD_COMMAND has other data than one octet 1 to 4. -/
theorem test_wellFormed_lineBadCommand :
    (Instr.lineBadCommand 7 1 0 [4]).wellFormed = false ∧ (Instr.lineBadCommand 7 1 0 [5]).wellFormed = true ∧
      (Instr.lineBadCommand 7 1 0 []).wellFormed = true := by decide

/-! ### Values the spec gives -/

/-- The frame check of the octets "123456789" is 0x6F91 (R2). -/
theorem test_frameCheck : frameCheck [0x31, 0x32, 0x33, 0x34, 0x35, 0x36, 0x37, 0x38, 0x39] = 0x6F91 := by decide +kernel

/-- No word spells a command by the table's bits. -/
theorem test_decodeTableWord : decodeTableWord 0 0 = none := rfl

/-- A speed lead of 0 waits for the new speed, one of 100 for the old ceiling (R110). -/
theorem test_slowedSpeed : slowedSpeed 200 100 0 = 100 ∧ slowedSpeed 200 100 100 = 200 ∧ slowedSpeed 200 101 50 = 150 := by
  decide

/-! ### Single commands -/

/-- The state a command leads to. -/
def after (c : Instr) (s : State) : State := match exec c s with | .next t => t | _ => s

/-- READ_PARAM of CRAWL_SPEED answers DONE with the id and its default of 30, low octet first. -/
theorem test_readParam :
    (after (.readParam 7 1 9 [2]) ring).outlet.port = some (.inserted (.reply 7 0x09 9 [0, 2, 30, 0])) := by decide +kernel

/-- A REPLY on the wire: kind 0x32, own address, the asker's, code, tag, length, status, and a check that matches. -/
theorem test_replyOctets :
    ((after (.withdraw 7 1 9 []) ring).onWire.map fun o => (o.take 7, goodFrame o)) =
      some ([0x32, 1, 7, 0x23, 9, 1, 0], true) := by decide +kernel

/-- An ASK in COLD is answered REFUSED with a ceiling of 0, to its sender. -/
theorem test_ask_cold :
    (after (.ask 7 1 5 100 0) ring).outlet.port = some (.inserted (.grant 7 5 0 .refused)) ∧
      (after (.ask 7 1 5 100 0) ring).outlet.dest = .ask 7 := by decide +kernel

/-- A BEAT of aux 2 gives the press mode PRINT, and passes on. -/
theorem test_beat :
    (after (.beat 7 63 1 0 2) ring).line.mode = .print ∧ (after (.beat 7 63 1 0 2) ring).outlet.dest = .beat 7 ∧
      (after (.beat 7 63 1 0 2) ring).outlet.port = some .through ∧
      (after (.beat 7 63 1 0 2) ring).supervisor.count = some 20 := by decide +kernel

/-- An ASK below the ceiling in RUN lowers it at once. -/
theorem test_ask_lower :
    (after (.ask 7 1 5 100 0) running).planner.ceiling = 100 ∧
      (after (.ask 7 1 5 100 0) running).outlet.port = some (.inserted (.grant 7 5 100 .granted)) := by decide +kernel

/-- A STOP in HEATUP with no zone present leads through COOLDOWN to COLD. -/
theorem test_stop : (after (.stop 7 1 0) (inState .heatup ring)).line.state = .cold := by decide +kernel

/-- A SOFT_RESET waits until its REPLY has left. -/
theorem test_softReset :
    let s := after (.softReset 7 1 0 []) (ring.withHolds 3)
    s.agent.slot = .resetPending ∧ s.holds = 3 ∧ (after .txFrameDone s).agent.slot = .free ∧
      (after .txFrameDone s).holds = 0 := by decide +kernel

/-- A RESTART whose sensor test fails: the EXHAUST demand goes to 0 in HEATUP and back to 1000 in LOCKOUT, and one DEMAND of
1000 is sent for it, its refresh timer restarted (R35, R36, R73). -/
theorem test_restart_exhaust :
    let e : Entry := { driven .exhaust 1000 with drive := some ⟨1000, 1000, none, 9, false⟩ }
    let s := busy (zoned (withMap [e] (inState .brk (tabled ring))))
    (after (.restart 7 1 0) s).line.state = .lockout ∧
      OwnFrame.demand 0 1000 ∈ (after (.restart 7 1 0) s).outlet.queue ∧
      ((after (.restart 7 1 0) s).entry 0).bind Entry.drive = some ⟨1000, 1000, none, 500, false⟩ := by decide +kernel

/-- A relief opens the exhaust before it holds the grant: the EXHAUST DEMAND waits before the GRANT HELD (R155). -/
theorem test_relief_order :
    let s := busy (zoned (withMap [channel (.lel .z1), driven .exhaust 0] running))
    (after (.reading 7 1 0 300 0) s).outlet.queue =
      [.demand 1 1000, .grant 63 0 (150 * s.params.reliefPercent / 100) .held] := by decide +kernel

/-- An LEL reading that crosses the warn and the trip level in RUN: the GRANT HELD of the LOCKOUT entry takes the place of the
relief's (R14) and stands before the DEMAND frames (R75), which ascend by channel (R36). -/
theorem test_relief_trip_order :
    let s := busy (zoned (withMap [driven (.fan .z1) 0, channel (.lel .z1), driven .exhaust 0] running))
    (after (.reading 7 1 1 520 0) s).line.state = .lockout ∧
      (after (.reading 7 1 1 520 0) s).outlet.queue = [.grant 63 0 0 .held, .demand 0 1000, .demand 2 1000] := by
  decide +kernel

/-- A plan that is built without steps completes at its building event, also where its own entry into RUN pushes a SPLICE record
in READY's SPLICE mode (R106, R84; log 35). -/
theorem test_noStepPlan :
    let s := (inState .ready running).withLine { (inState .ready running).line with mode := .splice }
    let s := s.withPlanner
      { s.planner with target := 0, grantRow := some 0, ceiling := 30, inForce := { s.planner.inForce with exhaust := 300 } }
    let flat : Row := { row0 with low := 60, high := 250 }
    let s := withMap [channel .speed] (s.withStore { s.store with active := [row0, flat], shadow := [row0, flat] })
    let t := after (.reading 7 1 0 150 0) s
    t.line.state = .run ∧ t.planner.plan = none ∧ t.stack.map Context.cause = [.splice] := by decide +kernel

/-- Two trips of one control period raise an entry each, though the first enters LOCKOUT (R178). -/
theorem test_bothTrips :
    let z : ZoneRec :=
      { aired 1000 with
        air := { reading := some 1000, quality := .failed, age := some 0 }
        lel := { reading := some 500, quality := .good, age := some 0 } }
    let s := zoned (running.withZones ⟨z, .init, .init, .init⟩)
    let s := s.withLine { s.line with control := some 0 }
    let t := after .controlPeriod s
    t.line.state = .lockout ∧ t.faults.pending &&& FaultCode.lelTrip.bit ≠ 0 ∧
      t.faults.pending &&& FaultCode.sensorFail.bit ≠ 0 := by decide +kernel

/-- The part in RUN with zone 1 IGNITING at its minimum fire of 80, a feedforward of 10, its flame channel about to confirm. -/
def igniting : State :=
  let z : ZoneRec := { aired 1000 with target := 1000, current := 1000, feedforward := 10, burner := 80, ignition := .igniting
                                       ignitionTimer := some 900 }
  let flame : Entry := { channel (.flame .z1) with level := some ⟨some true, .inactive, some 0⟩ }
  withMap [flame, driven (.burner .z1) 80] (zoned (running.withZones ⟨z, .init, .init, .init⟩))

/-- A MIN_FIRE written in RUN: a second write, a SET_ZONE step and the flame's proof still take the one before it, and the next
control period the last one written (R130, R133). -/
theorem test_minFireWaits :
    let written (v : Byte) (s : State) : State := after .txFrameDone (after (.writeParam 7 1 0 [7, v, 0]) s)
    let s := written 100 (written 200 igniting)
    let proven := after (.confirmTimerExpiry 0) s
    let due := s.withLine { s.line with control := some 0 }
    let burner (s : State) : Int := (s.zones.get .z1).burner
    s.params.minFire = 100 ∧ s.line.priorMinFire = some 80 ∧ burner s = 80 ∧
      (proven.zones.get .z1).ignition = .proven ∧ burner proven = 80 ∧ burner (retargetZone .z1 900 20 10 s) = 80 ∧
      burner (retargetZone .z1 900 90 10 s) = 90 ∧ burner (after .controlPeriod due) = 100 ∧
      (after .controlPeriod due).line.priorMinFire = none := by decide +kernel

/-- A time in tenths stops at 65534 (R190). -/
theorem test_heldTenths : heldTenths 65534 = 65534 ∧ heldTenths 65535 = 65534 := by decide

/-! ### States that meet the hypotheses -/

/-- How a test shows that an order command is taken. -/
theorem taken_order {c : Instr} {o : OrderFields} {s : State} (h : orderFields c = some o)
    (d : (s.link.phase = .joined ∧ addrOf o.src ≠ s.link.own ∧ addrOf o.dst = s.link.own ∧ o.data.length ≤ 48 ∧
      s.agent.slot = .free ∧ s.atRest = true ∧ s.outlet.queue.length < 32 ∧ s.params.managerAddress = 0)) :
    TakenAlone c s ∧ TakenWrite c s :=
  have t : Taken o s := ⟨⟨d.1, d.2.1, d.2.2.1⟩, d.2.2.2.1, d.2.2.2.2.1, d.2.2.2.2.2.1⟩
  ⟨⟨o, h, t, d.2.2.2.2.2.2.1⟩, ⟨o, h, t, .inl d.2.2.2.2.2.2.2⟩⟩

/-- EmptyQueuePassesMillisecond. -/
theorem test_witness_millisecond :
    State.reset.pending = [] ∧ runOut State.reset .purgeTimerExpiry = false ∧
      runOut (State.reset.withTracker { Tracker.init with age := some 249 }) .ageTimer250 = false ∧
      State.reset.channels.length = 128 := by decide +kernel

/-- ResetStartsFromPowerOn, at both ends of the valid addresses. -/
theorem test_witness_reset :
    (State.powerOn .asserted 0 none none).link.phase = .asserted ∧ (1 ≤ (1 : Addr).toNat ∧ (1 : Addr).toNat ≤ 62) ∧
      (1 ≤ (62 : Addr).toNat ∧ (62 : Addr).toNat ≤ 62) ∧ (0 : Addr).toNat = 0 ∧ (63 : Addr).toNat = 63 := by decide

/-- RingOpensAndFallsSilent. -/
theorem test_witness_ringOpens :
    State.reset.link.phase = .waitingGap ∧ ring.link.phase ≠ .waitingGap ∧ frameOf (.strip []) = some [] ∧
      ¬ State.reset.onRing ∧ (ring.withLink { ring.link with silence := some 0 }).link.silence = some 0 ∧
      (ring.withLink { ring.link with silence := some 0 }).atRest = true := by decide +kernel

/-- FrameCommandsSpellGoodFrames: a good frame and a check error. -/
theorem test_witness_spelling :
    (frameOf (.beat 7 63 0 0 0)).isSome = true ∧ (Instr.beat 7 63 0 0 0).wellFormed = true ∧
      frameOf (.checkError [1]) = some [1] ∧ (Instr.checkError [1]).wellFormed = true := by decide +kernel

/-- CheckErrorsAreDiscarded, on both sides of RING_CHECK's step. -/
theorem test_witness_checkError :
    frameOf (.checkError [1]) = some [1] ∧ goodFrame [1] = false ∧ ring.onRing ∧ ring.atRest = true ∧
      ring.sat.rxCheckErr ≠ 254 ∧ (ring.withSat { ring.sat with rxCheckErr := 254 }).atRest = true ∧
      (ring.withSat { ring.sat with rxCheckErr := 254 }).sat.rxCheckErr = 254 := by decide +kernel

/-- OwnFramesAreStripped. -/
theorem test_witness_strip :
    goodFrame (fixedFrame kindGrant 1 63 0 0 0) = true ∧ ring.onRing ∧ ring.atRest = true ∧
      addrOf (octetAt (fixedFrame kindGrant 1 63 0 0 0) 1) = ring.link.own := by decide +kernel

/-- OtherFramesPassUntouched. -/
theorem test_witness_passing :
    goodFrame (fixedFrame kindGrant 7 63 0 0 0) = true ∧ ring.onRing ∧ ring.atRest = true ∧
      frameEnd ring.link.own (fixedFrame kindGrant 7 63 0 0 0) = .passed ∧
      Instr.ownRowKind (frameKind (octetAt (fixedFrame kindGrant 7 63 0 0 0) 0)) = false := by decide +kernel

/-- DemandsCarryThePartsDemand: a drive channel with room and without, and another channel. -/
theorem test_witness_demand :
    let s := withMap [driven .exhaust 0] ring
    let full := busy (s.withLink { s.link with through := List.replicate 8 ⟨[], none⟩ })
    Passes 7 s ∧ s.atRest = true ∧ s.entry (0 : Byte).toNat = some (driven .exhaust 0) ∧
      (driven .exhaust 0).drive = some ⟨0, 0, none, 500, false⟩ ∧ s.link.through.length < Config.throughCapacity ∧
      (s.entry (1 : Byte).toNat).bind Entry.drive = none ∧ Passes 7 full ∧ full.atRest = true ∧
      Config.throughCapacity ≤ full.link.through.length := by decide +kernel

/-- TransmissionsEnd: an idle port, an inserted frame, a through frame with and without a substitution. -/
theorem test_witness_transmission :
    let sending (l : List ThroughFrame) := (withMap [driven .exhaust 0] ring).withLink { ring.link with through := l }
    let s (l : List ThroughFrame) := (sending l).withOutlet { ring.outlet with port := some .through }
    ring.atRest = true ∧ ring.outlet.port = none ∧ (busy ring).atRest = true ∧
      (busy ring).outlet.port = some (.inserted (.grant 63 0 0 .held)) ∧
      (OwnFrame.grant 63 0 0 .held).isResetReply = false ∧ (s [⟨[], none⟩]).atRest = true ∧
      ((s [⟨[], none⟩]).link.through.head?.bind ThroughFrame.subst) = none ∧
      ((s [⟨[], some (9, 0)⟩]).link.through.head?.bind ThroughFrame.subst) = some (9, 0) ∧
      ((s [⟨[], some (9, 0)⟩]).entry 9).bind Entry.drive = none ∧
      ((s [⟨[], some (0, 5)⟩]).link.through.head?.bind ThroughFrame.subst) = some (0, 5) ∧
      (s [⟨[], some (0, 5)⟩]).entry 0 = some (driven .exhaust 0) := by decide +kernel

/-- ArbiterChoosesByTable: each row at the depths and run counts where the choice turns. -/
theorem test_witness_arbiter :
    let s (through queue : Nat) (run : Nat) : State :=
      (ring.withLink { ring.link with through := List.replicate through ⟨[], none⟩ }).withOutlet
        { ring.outlet with queue := List.replicate queue (.level 0 true), runCount := run }
    (s 0 0 0).outlet.port = none ∧ ((s 0 0 0).link.through = [] ∧ (s 0 0 0).outlet.queue = []) ∧
      ((s 0 1 0).outlet.queue = .level 0 true :: [] ∧ (s 0 1 0).link.through = []) ∧
      ((s 1 7 4).outlet.queue.length ≤ 7 ∧ 4 ≤ (s 1 7 4).outlet.runCount) ∧
      (8 ≤ (s 1 8 1).outlet.queue.length ∧ 1 ≤ (s 1 8 1).outlet.runCount) ∧
      ((s 1 0 0).link.through ≠ [] ∧ (s 1 0 0).outlet.queue = []) ∧
      ((s 1 7 3).outlet.queue.length ≤ 7 ∧ (s 1 7 3).outlet.runCount ≤ 3) ∧
      (8 ≤ (s 1 8 0).outlet.queue.length ∧ (s 1 8 0).outlet.runCount = 0) := by decide +kernel

/-- InsertionsReplaceOrJoin: a waiting key, room for one more, and none. -/
theorem test_witness_insertion :
    let f : OwnFrame := .demand 3 10
    let s (q : List OwnFrame) : State := ring.withOutlet { ring.outlet with queue := q }
    ((s [.level 0 true, .demand 3 0]).outlet.queue = [.level 0 true] ++ .demand 3 0 :: [] ∧ f.key ≠ none ∧
        (OwnFrame.demand 3 0).key = f.key ∧ ∀ x ∈ [OwnFrame.level 0 true], x.key ≠ f.key) ∧
      ((∀ x ∈ (s (List.replicate 31 (.level 0 true))).outlet.queue, x.key ≠ f.key) ∧
        (s (List.replicate 31 (.level 0 true))).outlet.queue.length < 32) ∧
      (OwnFrame.level 0 true).key = none ∧ 32 ≤ (s (List.replicate 32 (.level 0 true))).outlet.queue.length := by
  decide +kernel

/-- GoodFramesAreConserved, and the other statements about a step from a state with the invariants. -/
theorem test_witness_conserved :
    goodConserved ring ∧ throughHeld ring ∧ step ring = .next (tick ring) := by
  exact ⟨by decide, by decide, rfl⟩

/-- LevelsMoveTheRecord: the same raw level, a level at its confirmed state, one that settles at once from UNKNOWN and by a
confirm time of 0, and one that starts the confirm timer. -/
theorem test_witness_level :
    let at_ (raw : Option Bool) (c : Confirmed) (time : Nat) : Entry :=
      { channel .forward with confirmTime := time, level := some { raw := raw, confirmed := c, timer := none } }
    let s (e : Entry) := withMap [e] ring
    Passes 7 (s (at_ none .unknown 5)) ∧ (1 : Byte).toNat ≤ 1 ∧
      (s (at_ none .unknown 5)).entry (0 : Byte).toNat = some (at_ none .unknown 5) ∧
      (at_ none .unknown 5).role.roleClass = .level ∧
      (at_ (some true) .active 5).level.bind LevelRec.raw = some ((1 : Byte) == 1) ∧
      ((none : Option Bool) ≠ some true ∧ Confirmed.active = .active) ∧
      ((some true : Option Bool) ≠ some false ∧ Confirmed.inactive ≠ .active ∧ (at_ (some true) .active 0).confirmTime = 0) ∧
      (Confirmed.inactive ≠ .unknown ∧ (none : Option Bool) ≠ some false) ∧
      (Confirmed.active ≠ .unknown ∧ ¬ (Confirmed.unknown = .unknown ∧ Confirmed.active = .inactive) ∧
        (at_ none .unknown 1).confirmTime ≠ 0) := by decide +kernel

/-- ConfirmTimersSettleTheLevel, with a transition on a FORWARD channel and without. -/
theorem test_witness_confirm :
    let e (raw : Bool) (c : Confirmed) : Entry :=
      { channel .forward with forward := [5, 6], level := some { raw := some raw, confirmed := c, timer := some 0 } }
    let s (raw : Bool) (c : Confirmed) := busy (withMap [e raw c] ring)
    (s true .inactive).entry (0 : Byte).toNat = some (e true .inactive) ∧
      (e true .inactive).level = some ⟨some true, .inactive, some 0⟩ ∧ (e true .inactive).role = .forward ∧
      (s true .inactive).atRest = true ∧ (s true .inactive).outlet.port ≠ none ∧
      (s true .inactive).outlet.queue.length + (e true .inactive).forward.length ≤ 32 ∧
      (s true .active).atRest = true ∧ (Confirmed.active ≠ .inactive) := by decide +kernel

/-- ConfirmTimersSettleTheLevel on a BREAK channel: outside READY and RUN, and in RUN with no context record. -/
theorem test_witness_break :
    let e : Entry := { channel (.brk .d1) with level := some ⟨some true, .inactive, some 0⟩ }
    let s := withMap [e] running
    (withMap [e] ring).atRest = true ∧ (withMap [e] ring).line.state.granted = false ∧
      s.entry (0 : Byte).toNat = some e ∧ s.atRest = true ∧ s.line.state.granted = true ∧
      (∀ x ∈ s.stack, x.cause ≠ .brk) ∧ s.stack.length < 4 := by decide +kernel

/-- ConfirmTimersSettleTheLevel on a FLAME channel: a loss that starts no grace, one that starts it, one with FLAME_GRACE 0; a
flame that comes with the permit closed on an IGNITING zone, and with it open in PURGE and COLD. -/
theorem test_witness_flame :
    let e (raw : Bool) (c : Confirmed) : Entry := { channel (.flame .z1) with level := some ⟨some raw, c, some 0⟩ }
    let burning (g : Ignition) (s : State) : State := zoned (s.withZone .z1 { ZoneRec.init with ignition := g, burner := 200 })
    let lost := withMap [e false .active, driven (.burner .z1) 200] (burning .proven running)
    let quick := setParams { Params.init with flameGrace := 0 } lost
    let lit := withMap [e true .inactive, driven (.burner .z1) 200] (burning .igniting running)
    let odd (l : LineState) := withMap [e true .inactive] (inState l ring)
    (lost.entry (0 : Byte).toNat = some (e false .active) ∧ lost.atRest = true ∧ graceStarts .z1 lost ∧
        lost.params.flameGrace ≠ 0) ∧
      (quick.atRest = true ∧ graceStarts .z1 quick ∧ quick.params.flameGrace = 0) ∧
      ((withMap [e false .active] ring).atRest = true ∧ ¬ graceStarts .z1 (withMap [e false .active] ring)) ∧
      (lit.atRest = true ∧ lit.line.state.permitClosed = true ∧ (lit.zones.get .z1).ignition = .igniting) ∧
      (igniting.atRest = true ∧ (igniting.zones.get .z1).burner = dueBurner .z1 igniting) ∧
      ((odd .purge).atRest = true ∧ (odd .purge).line.state.permitClosed = false ∧ (odd .cold).atRest = true) := by
  decide +kernel

/-- ConfirmTimersSettleTheLevel on an AIRFLOW channel: a loss with the permit closed, in COOLDOWN and in PURGE; an airflow that
comes; the purge test passed and failed after the transition. -/
theorem test_witness_airflow :
    let e (raw : Bool) (c : Confirmed) : Entry := { channel (.airflow .z1) with level := some ⟨some raw, c, some 0⟩ }
    let lost (l : LineState) := withMap [e false .active] (zoned (inState l ring))
    let come := withMap [e true .inactive] (zoned (inState .purge ring))
    ((lost .heatup).atRest = true ∧ (lost .heatup).present .z1 = true ∧ (lost .heatup).line.state.permitClosed = true ∧
        (lost .heatup).entry (0 : Byte).toNat = some (e false .active)) ∧
      ((lost .cooldown).atRest = true ∧ (lost .purge).atRest = true) ∧ come.atRest = true ∧
      (after (.confirmTimerExpiry 0) come).confirmedOf (.airflow .z1) = some .active ∧
      (after (.confirmTimerExpiry 0) (lost .purge)).present .z1 = true ∧
      (after (.confirmTimerExpiry 0) (lost .purge)).confirmedOf (.airflow .z1) ≠ some .active := by
  decide +kernel

/-- RefreshesRepeatTheSentDemand. -/
theorem test_witness_refresh :
    let e : Entry := { driven .exhaust 0 with drive := some ⟨0, 0, none, 0, false⟩ }
    (withMap [e] ring).entry (0 : Byte).toNat = some e ∧ e.drive = some ⟨0, 0, none, 0, false⟩ ∧
      (withMap [e] ring).atRest = true := by decide +kernel

/-- DemandsFollowTheirSource and HeldDemandsStand: drives at rest in every line state, and one under hold. -/
theorem test_witness_drives :
    let s (l : LineState) (v : Int) := withMap [driven .exhaust v] (inState l ring)
    let h : Entry := { driven .exhaust 400 with holdGroup := 1, drive := some ⟨0, 400, some 400, 500, false⟩ }
    let held := withMap [h] (inState .heatup (ring.withHolds 1))
    (s .cold 0).atRest = true ∧ (s .purge 1000).atRest = true ∧ (s .heatup 0).atRest = true ∧ (s .brk 1000).atRest = true ∧
      (s .cooldown 600).atRest = true ∧ (s .lockout 1000).atRest = true ∧
      (withMap [driven (.burner .z1) 150] (zoned (inState .brk ring))).atRest = true ∧
      (withMap [driven (.fan .z1) 300, driven (.chillValve .c1) 500] (inState .brk ring)).atRest = true ∧
      held.atRest = true ∧ held.underHold h = true ∧ held.entry 0 = some h := by decide +kernel

/-- StepsEndAtRest and the invariants that every step keeps, at a state in RUN with a plan. -/
theorem test_witness_running :
    let s := busy (running.withPlan (some (oneStep (.whenReady 100) 0 none)))
    s.atRest = true ∧ step s = .next (tick s) := ⟨by decide +kernel, rfl⟩

/-- SpeedReadingsMoveTheTracker and FailedSpeedReadingsLoseTheSpeed, at the ends of the tolerances. -/
theorem test_witness_speed :
    let s (t : Tracker) := (withMap [channel .speed] ring).withTracker t
    let acquiring (n : Nat) : Tracker := { Tracker.init with state := .acquiring, predecessor := some 200, count := n }
    let locked (n : Nat) : Tracker := { Tracker.init with state := .locked, speed := 200, rejections := n }
    (Passes 7 (s .init) ∧ (∃ e, (s .init).entry (0 : Byte).toNat = some e ∧ e.role = .speed) ∧ (0 : Byte).toNat ≤ 1 ∧
        (Tracker.init.state = .noSpeed)) ∧
      ((acquiring 3).predecessor = some 200 ∧ |(205 : Int) - 200| ≤ max 5 (200 * 2 / 100) ∧
        ¬ |(206 : Int) - 200| ≤ max 5 (200 * 2 / 100) ∧ (acquiring 3).count = 3 ∧ (acquiring 2).count ≠ 3) ∧
      (|(220 : Int) - 200| ≤ max 20 (200 * 10 / 100) ∧ ¬ |(221 : Int) - 200| ≤ max 20 (200 * 10 / 100) ∧
        (locked 2).rejections = 2 ∧ (locked 1).rejections ≠ 2) ∧
      ((1200 : Half).toInt ≤ 1200 ∧ ¬ (1201 : Half).toInt ≤ 1200 ∧ 0 ≤ (0 : Half).toInt ∧ ¬ 0 ≤ (0xFFFF : Half).toInt) ∧
      (s (locked 0)).usableSpeed ≠ none ∧ (inState .run (s (locked 0))).line.state = .run := by
  refine ⟨⟨by decide, ⟨_, rfl, rfl⟩, by decide, rfl⟩, by decide, by decide, by decide, by decide, rfl⟩

/-- SpeedReadingsMoveTheTracker at the edges of a band, with a sound table: 60 and 59 below row 1, 80 and 81 above row 0, 250 and
251 above the top row, where no other row is chosen. -/
theorem test_witness_bands :
    let s (k : Nat) (v : Int) : State :=
      let s := withMap [channel .speed] (running.withTracker { running.tracker with speed := v })
      s.withPlanner { s.planner with target := k }
    let chosen (k : Nat) (v : Int) (j : Nat) (a b : Row) : Bool := decide <|
      Passes 7 (s k v) ∧ (s k v).atRest = true ∧ (s k v).line.state = .run ∧ (s k v).planner.plan = none ∧
        (s k v).stack = [] ∧ (s k v).tracker.state = .locked ∧
        (s k v).store.active[min k ((s k v).store.active.length - 1)]? = some a ∧
        rowForSpeed (s k v).store.active k v = some j ∧ (s k v).store.active[j]? = some b
    (HoldsRole 0 .speed (s 1 60) ∧ (250 : Half).toInt = 250 ∧ ∀ k v, StoreSound (s k v)) ∧
      (chosen 1 60 1 row1 row1 ∧ row1.low ≤ 60 ∧ (60 : Int) ≤ row1.high) ∧
      (chosen 1 59 0 row1 row0 ∧ (59 : Int) < row1.low ∧ row0.high < 200) ∧ (chosen 0 80 0 row0 row0 ∧ (80 : Int) ≤ row0.high) ∧
      (chosen 0 81 1 row0 row1 ∧ row0.high < 81) ∧ (chosen 1 250 1 row1 row1 ∧ (250 : Int) ≤ row1.high) ∧
      (chosen 1 251 1 row1 row1 ∧ row1.high < 251 ∧ (s 1 251).planner.overspeed = false) :=
  have sound : tableFault 30 [row0, row1] = none := by decide
  ⟨⟨⟨_, rfl, rfl⟩, by decide, fun _ _ => ⟨.inr sound, nofun⟩⟩, by decide +kernel⟩

/-- AgeMarksStaleAndLoseTheSpeed, at its two marks. -/
theorem test_witness_age :
    let s (st : TrackerState) (a : Nat) := ring.withTracker { Tracker.init with state := st, age := some a }
    (s .acquiring 250).tracker.age = some 250 ∧ (s .locked 250).tracker.state = .locked ∧
      (s .stale 1000).tracker.age = some 1000 ∧ (s .lost 1000).tracker.state ≠ .stale ∧
      (inState .run (s .stale 1000)).line.state = .run := by decide

/-- PositionReadingsMeasureTravel: no last count, no advance, advances of 1, 32767 and 32768, over the wrap; and entries of both
circuits that an advance of 5 matures and leaves, one circuit present. -/
theorem test_witness_position :
    let s (last : Option Nat) := (withMap [channel .position] running).withTracker { running.tracker with lastPosition := last }
    Passes 7 (s none) ∧ (s none).atRest = true ∧ HoldsRole 0 .position (s none) ∧ (2 : Byte).toNat ≤ 2 ∧
      (s (some 65535)).tracker.lastPosition = some 65535 ∧ (s (some 65535)).usableSpeed ≠ none ∧
      ((0 + 65536 - 65535 = 1) ∧ (32766 + 65536 - 65535 = 32767) ∧ (32767 + 65536 - 65535 = 32768)) ∧
      let moving : State :=
        let s := (s (some 10)).withTransit [⟨4, .c1, 100, 0⟩, ⟨5, .c1, 200, 0⟩, ⟨5, .c2, 300, 1⟩, ⟨6, .c1, 400, 1⟩]
        s.withLine { s.line with circuitsPresent := ⟨true, false⟩ }
      let t := after (.reading 7 1 0 15 0) moving
      moving.atRest = true ∧ moving.usableSpeed ≠ none ∧ moving.circuitPresent .c1 = true ∧
        moving.circuitPresent .c2 = false ∧ t.transit = [⟨1, .c1, 400, 1⟩] ∧ (t.circuits.get .c1).setpoint = 200 := by
  refine ⟨by decide, by decide +kernel, ⟨_, rfl, rfl⟩, by decide, rfl, by decide, by decide, by decide +kernel⟩

/-- ValidationIsV1ToV6, RequestsTakeTheLowestRow and SpeedsTakeTheNearestRow: a sound table, and speeds on both sides of the
edges of a band. -/
theorem test_witness_table :
    tableFault 30 [row0, row1] = none ∧ tableFault 81 [row0, row1] = some (0, .v2) ∧ tableFault 30 [] = some (0, .v1) ∧
      tableFault 30 [row0, row0] = some (1, .v3) ∧ rowForRequest [row0, row1] 80 = some 0 ∧
      rowForRequest [row0, row1] 81 = some 1 ∧ rowForRequest [row0, row1] 251 = none ∧
      rowForRequest [row0, row1] (-1) = none ∧ rowForSpeed [row0, row1] 1 60 = some 1 ∧
      rowForSpeed [row0, row1] 1 59 = some 0 ∧ rowForSpeed [row0, row1] 0 81 = some 1 ∧
      rowForSpeed [row0, row1] 9 251 = some 1 := by decide

/-- RowBlocksTravelUnchanged. -/
theorem test_witness_rowBlock :
    (∀ v ∈ [row0.low, row0.high, row0.exhaust, row0.chill.c1, row0.chill.c2], -32768 ≤ v ∧ v ≤ 32767) ∧
      row0.ramp ≤ 255 ∧ parseRow (rowBlock row0) = some row0 := by decide +kernel

/-- WriteRowEditsTheShadow, CommitAcceptsOrRefuses and WithdrawEndsAPendingCommit: rows 0, 1 (the last), 2 (the next), 3 and
16; a table that passes, one that fails; a commit pending and none. -/
theorem test_witness_store :
    let s := tabled ring
    let pending := (inState .run s).withStore { s.store with status := .pending }
    (TakenAlone (.writeRow 7 1 0 (0 :: [])) s ∧ TakenWrite (.writeRow 7 1 0 (0 :: [])) s) ∧
      (TakenAlone (.writeRow 7 1 0 (2 :: rowBlock row1)) s ∧ TakenWrite (.writeRow 7 1 0 (2 :: rowBlock row1)) s) ∧
      (s.store.shadow.length = 2 ∧ parseRow (rowBlock row1) = some row1 ∧ rowBlock row1 ≠ []) ∧
      TakenWrite (.commit 7 1 0 []) s ∧ commitFault s = none ∧ s.safePoint = true ∧ s.line.state = .cold ∧
      TakenWrite (.commit 7 1 0 []) ring ∧ commitFault ring = some (0, .v1) ∧ ring.outlet.queue.length < 32 ∧
      TakenWrite (.commit 7 1 0 []) (inState .heatup s) ∧ commitFault (inState .heatup s) = none ∧
      (inState .heatup s).safePoint = false ∧ TakenWrite (.commit 7 1 0 []) (inState .ready s) ∧
      (TakenAlone (.withdraw 7 1 0 []) s ∧ TakenWrite (.withdraw 7 1 0 []) s ∧ s.store.status ≠ .pending) ∧
      TakenAlone (.withdraw 7 1 0 []) (inState .heatup pending) ∧ pending.store.status = .pending := by
  refine ⟨taken_order rfl (by decide +kernel), taken_order rfl (by decide +kernel), by decide +kernel,
    (taken_order rfl (by decide +kernel)).2, by decide, by decide, rfl, (taken_order rfl (by decide +kernel)).2,
    by decide, by decide, (taken_order rfl (by decide +kernel)).2, by decide, by decide,
    (taken_order rfl (by decide +kernel)).2, ⟨(taken_order rfl (by decide +kernel)).1,
    (taken_order rfl (by decide +kernel)).2, by decide⟩, (taken_order rfl (by decide +kernel)).1, rfl⟩

/-- CommitAcceptsOrRefuses in RUN at a safe point: the row chosen for the speed, the target row without one, a grant that
falls, and a commit toward row 0 with every step in force already. -/
theorem test_witness_commitRun :
    let s (rows : List Row) (k : Nat) : State :=
      let s := running.withStore { running.store with shadow := rows }
      s.withPlanner { s.planner with target := k }
    let low : Row := { row1 with high := 180 }
    let calm := (s [row0] 0).withTracker { Tracker.init with state := .lost }
    TakenWrite (.commit 7 1 0 []) (s [row0, low] 1) ∧ commitFault (s [row0, low] 1) = none ∧
      (s [row0, low] 1).safePoint = true ∧ (s [row0, low] 1).line.state = .run ∧ (s [row0, low] 1).usableSpeed = some 150 ∧
      rowForSpeed [row0, low] 1 150 = some 1 ∧ (s [row0, low] 1).planner.grantRow = some 1 ∧
      low.high < (s [row0, low] 1).planner.ceiling ∧
      (TakenWrite (.commit 7 1 0 []) (calm.withPlanner { calm.planner with inForce := calm.planner.inForce.fromRow row0 })) ∧
      calm.usableSpeed = none ∧ commitFault calm = none ∧ min 0 ([row0].length - 1) = 0 ∧
      adjustSteps (calm.withPlanner { calm.planner with inForce := calm.planner.inForce.fromRow row0 }) 0 row0 = [] := by
  refine ⟨(taken_order rfl (by decide +kernel)).2, by decide +kernel, by decide +kernel, by decide +kernel, by decide +kernel,
    by decide +kernel, by decide +kernel, by decide +kernel, (taken_order rfl (by decide +kernel)).2, by decide +kernel⟩

/-- The invariants of the steps at a state in RUN with two rows in force. -/
theorem test_witness_invariants :
    let s := running.withSupervisor { running.supervisor with permit := true }
    (StoreSound s ∧ paramsSound s.params) ∧ LineSound s ∧ GrantSound s ∧ s.planner.plan = none := by
  have no {p q : Prop} [Decidable p] (h : decide p = false) : p → q := fun x => absurd x (of_decide_eq_false h)
  refine ⟨⟨⟨.inr (by decide +kernel), no (by decide +kernel)⟩, ?_, by decide +kernel⟩, ⟨by decide +kernel, by decide +kernel,
    no (by decide +kernel), no (by decide +kernel), no (by decide +kernel), no (by decide +kernel), no (by decide +kernel),
    no (by decide +kernel)⟩, ⟨?_, no (by decide +kernel), fun _ => by decide +kernel, ?_⟩, by decide +kernel⟩
  · intro id lo hi h
    unfold paramRange at h
    split at h <;> cases h <;> decide +kernel
  · intro g h
    cases h.symm.trans (show _ = some 1 by decide +kernel)
    exact ⟨row1, by decide +kernel, by decide +kernel⟩
  · intro p t v j h
    exact absurd (h.symm.trans (show _ = none by decide +kernel)) nofun

/-- CapacitiesAndOrderAreKept, at a state in RUN with a plan and all the channels. -/
theorem test_witness_capacities :
    let s := (running.withSupervisor { running.supervisor with permit := true }).withChannels (List.replicate 128 .init)
    let t := s.withPlan (some (oneStep (.whenReady 100) 0 none))
    LineSound t ∧ Bounded t ∧ planSized t ∧ keysDiffer t.outlet.queue ∧ causesDiffer t ∧ planOrdered t ∧
      step t = .next (tick t) := by
  have no {p q : Prop} [Decidable p] (h : decide p = false) : p → q := fun x => absurd x (of_decide_eq_false h)
  refine ⟨⟨by decide +kernel, by decide +kernel, no (by decide +kernel), fun _ => by decide +kernel, no (by decide +kernel),
    no (by decide +kernel), no (by decide +kernel), no (by decide +kernel)⟩, ⟨by decide +kernel, by decide +kernel,
    by decide +kernel, by decide +kernel, by decide +kernel, by decide +kernel, by decide +kernel, by decide +kernel, ?_⟩, ?_,
    by decide +kernel, by decide +kernel, ?_, rfl⟩
  · intro p h; cases h; decide
  · intro p h
    cases h
    refine ⟨by decide, fun r _ => ⟨?_, fun _ _ => by decide⟩⟩
    intro t v m k
    cases m with
    | head => cases k
    | tail _ m => cases m
  · intro p h
    cases h
    refine ⟨by decide, fun i t m => ?_⟩
    cases i with
    | zero => cases m; decide
    | succ i => cases m

/-- A trip condition standing: zone 1's LEL at its trip level. -/
def tripping (s : State) : State :=
  s.withSupervisor { s.supervisor with flags := { s.supervisor.flags with z1 := ⟨true, true, false⟩ } }

/-- LineCommandsAreRefusedByState: a state that does not take each command, and the conditions that refuse it. -/
theorem test_witness_lineRefused :
    let unsure := withMap [channel (.brk .d1)] (inState .brk ring)
    (TakenAlone (.start 7 1 0) running ∧ TakenWrite (.start 7 1 0) running ∧ running.line.state ≠ .cold) ∧
      (TakenAlone (.start 7 1 0) (tripping ring) ∧ TakenWrite (.start 7 1 0) (tripping ring) ∧
        (tripping ring).line.state = .cold ∧ (tripping ring).tripCondition = true) ∧
      (TakenAlone (.stop 7 1 0) running ∧ TakenWrite (.stop 7 1 0) running ∧ running.line.state = .run) ∧
      (TakenAlone (.restart 7 1 0) unsure ∧ TakenWrite (.restart 7 1 0) unsure ∧ unsure.line.state = .brk ∧
        ∃ e ∈ unsure.channels, (∃ d, e.role = .brk d) ∧ e.level.map LevelRec.confirmed ≠ some .inactive) ∧
      TakenAlone (.clearLockout 7 1 0) ring ∧ TakenWrite (.clearLockout 7 1 0) ring ∧ ring.line.state ≠ .lockout ∧
      TakenAlone (.clearLockout 7 1 0) (inState .lockout (tripping ring)) ∧
      (inState .lockout (tripping ring)).tripCondition = true := by
  refine ⟨⟨(taken_order rfl (by decide +kernel)).1, (taken_order rfl (by decide +kernel)).2, by decide +kernel⟩,
    ⟨(taken_order rfl (by decide +kernel)).1, (taken_order rfl (by decide +kernel)).2, by decide +kernel, by decide +kernel⟩,
    ⟨(taken_order rfl (by decide +kernel)).1, (taken_order rfl (by decide +kernel)).2, by decide +kernel⟩,
    ⟨(taken_order rfl (by decide +kernel)).1, (taken_order rfl (by decide +kernel)).2, by decide +kernel,
      _, .head _, ⟨_, rfl⟩, by decide +kernel⟩,
    (taken_order rfl (by decide +kernel)).1, (taken_order rfl (by decide +kernel)).2, by decide +kernel,
    (taken_order rfl (by decide +kernel)).1, by decide +kernel⟩

/-- StartChecksMapAndTable: a map for each reason, the checks before it passed. -/
theorem test_witness_startChecks :
    let s (l : List Entry) := withMap l ring
    let three : List Entry := [driven .exhaust 0, channel .speed, channel .position]
    TakenAlone (.start 7 1 0) (s three) ∧ TakenWrite (.start 7 1 0) (s three) ∧ (s three).line.state = .cold ∧
      (s three).tripCondition = false ∧ mapFault (s [channel (.zoneAir .z1)]) = some (.partialZone .z1) ∧
      mapFault (s [channel (.chillWeb .c2)]) = some (.partialChill .c2) ∧ mapFault (s []) = some .noExhaust ∧
      mapFault (s (three.take 1)) = some .noSpeed ∧ mapFault (s (three.take 2)) = some .noPosition ∧
      mapFault (s three) = some .noZone ∧ startFault (s zoneMap) = some .noTable ∧
      startFault ((s zoneMap).withStore { active := [{ row0 with zones := .const none }], shadow := [], status := .none }) =
        some (.tableMask .z1) := by
  refine ⟨(taken_order rfl (by decide +kernel)).1, (taken_order rfl (by decide +kernel)).2, by decide +kernel⟩

/-- StartEntersPurge, with the airflow of the present zone ACTIVE and not. -/
theorem test_witness_startEnters :
    let s := withMap zoneMap (tabled ring)
    let still := withMap (zoneMap.set 5 (channel (.airflow .z1))) (tabled ring)
    let all6 (s : State) (z : Zone) : Prop := ∀ r ∈ zoneRoles z, s.mapped r = true
    TakenWrite (.start 7 1 0) s ∧ s.line.state = .cold ∧ s.tripCondition = false ∧
      (∀ z, (∃ r ∈ zoneRoles z, s.mapped r = true) → all6 s z) ∧
      (∀ k, (∃ r ∈ circuitRoles k, s.mapped r = true) → ∀ r ∈ circuitRoles k, s.mapped r = true) ∧
      (s.mapped .exhaust = true ∧ s.mapped .speed = true ∧ s.mapped .position = true) ∧ all6 s .z1 ∧
      s.store.active = row0 :: [row1] ∧ (∀ z, all6 s z → row0.uses z = true) ∧
      s.confirmedOf (.airflow .z1) = some .active ∧ TakenWrite (.start 7 1 0) still ∧ all6 still .z1 ∧
      still.confirmedOf (.airflow .z1) ≠ some .active := by
  refine ⟨(taken_order rfl (by decide +kernel)).2, by decide +kernel, by decide +kernel, ?_, ?_, by decide +kernel,
    by decide +kernel, by decide +kernel, ?_, by decide +kernel, (taken_order rfl (by decide +kernel)).2, by decide +kernel,
    by decide +kernel⟩
  · intro z; cases z <;> decide +kernel
  · intro k; cases k <;> decide +kernel
  · intro z; cases z <;> decide +kernel

/-- StopCoolsTheLine: each state that takes a STOP, a cooldown test that holds and one that fails, and the timer run out. -/
theorem test_witness_stop :
    let cooling (s : State) : State := s.withLine { s.line with state := .cooldown, cooldown := some 0 }
    TakenWrite (.stop 7 1 0) (inState .purge ring) ∧ TakenWrite (.stop 7 1 0) (inState .heatup ring) ∧
      TakenWrite (.stop 7 1 0) (inState .ready (zoned ring)) ∧ TakenWrite (.stop 7 1 0) (inState .brk ring) ∧
      (inState .brk ring).cooldownTest = true ∧ (inState .ready (zoned ring)).cooldownTest = false ∧
      (inState .ready (zoned ring)).present .z1 = true ∧ (cooling ring).atRest = true ∧ (cooling ring).cooldownTest = true ∧
      (cooling (measured 800 ring)).cooldownTest = false ∧ (cooling (measured 799 ring)).cooldownTest = true := by
  refine ⟨(taken_order rfl (by decide +kernel)).2, (taken_order rfl (by decide +kernel)).2,
    (taken_order rfl (by decide +kernel)).2, (taken_order rfl (by decide +kernel)).2, by decide +kernel⟩

/-- RestartHeatsUpAgain, with a detector INACTIVE and the sensor test passed and failed. -/
theorem test_witness_restart :
    let s := withMap [levelAt (.brk .d1) .inactive] (inState .brk (tabled ring))
    TakenWrite (.restart 7 1 0) s ∧ s.line.state = .brk ∧ s.sensorTestFails = false ∧ (zoned s).sensorTestFails = true ∧
      TakenWrite (.restart 7 1 0) (zoned s) ∧
      ∀ e ∈ s.channels, (∃ d, e.role = .brk d) → e.level.map LevelRec.confirmed = some .inactive := by
  refine ⟨(taken_order rfl (by decide +kernel)).2, by decide +kernel, by decide +kernel, by decide +kernel,
    (taken_order rfl (by decide +kernel)).2, ?_⟩
  intro e he _
  cases he with
  | head => decide +kernel
  | tail _ h => cases h

/-- ClearLockoutReturnsToCold, with a commit pending and none. -/
theorem test_witness_clearLockout :
    let s := inState .lockout (tabled ring)
    let p := s.withStore { s.store with status := .pending }
    TakenWrite (.clearLockout 7 1 0) s ∧ s.line.state = .lockout ∧ s.tripCondition = false ∧ s.store.status ≠ .pending ∧
      TakenWrite (.clearLockout 7 1 0) p ∧ p.store.status = .pending ∧ p.planner.plan = none ∧ p.stack = [] := by
  refine ⟨(taken_order rfl (by decide +kernel)).2, by decide +kernel, by decide +kernel, by decide +kernel,
    (taken_order rfl (by decide +kernel)).2, by decide +kernel⟩

/-- PurgeEndsInHeatup: the purge test failed, passed, and passed with readings that are not current. -/
theorem test_witness_purge :
    let due (s : State) : State := s.withLine { s.line with state := .purge, purge := some 0 }
    let flowing := withMap [levelAt (.airflow .z1) .active] (tabled ring)
    let s := due (measured 250 flowing)
    s.atRest = true ∧ s.line.state = .purge ∧ s.line.purge = some 0 ∧ s.store.active = row0 :: [row1] ∧
      (∀ z, s.present z = true → s.confirmedOf (.airflow z) = some .active) ∧ s.sensorTestFails = false ∧
      (due (zoned flowing)).sensorTestFails = true ∧
      (due (zoned (tabled ring))).present .z1 = true ∧
      (due (zoned (tabled ring))).confirmedOf (.airflow .z1) ≠ some .active := by
  refine ⟨by decide +kernel, by decide +kernel, by decide +kernel, by decide +kernel, ?_, by decide +kernel⟩
  intro z; cases z <;> decide +kernel

/-- SettleEndsInReady. -/
theorem test_witness_settle :
    let s := (tabled ring).withLine { ring.line with state := .heatup, settle := some 0 }
    s.atRest = true ∧ s.line.state = .heatup ∧ s.line.settle = some 0 ∧ s.planner.plan = none ∧
      s.store.status ≠ .pending ∧ ∀ z, s.present z = true → (s.supervisor.flags.get z).warn = false := by
  refine ⟨by decide +kernel, by decide +kernel, by decide +kernel, by decide +kernel, by decide +kernel, ?_⟩
  intro z; cases z <;> decide +kernel

/-- TripsEnterLockout: an ignition and a grace run out, in RUN and in COLD. -/
theorem test_witness_trips :
    let lighting (s : State) : State :=
      zoned (s.withZone .z1 { ZoneRec.init with ignition := .igniting, ignitionTimer := some 0 })
    let missing (s : State) : State := s.withSupervisor { s.supervisor with grace := ⟨some 0, none, none, none⟩ }
    (lighting running).atRest = true ∧ ((lighting running).zones.get .z1).ignition = .igniting ∧
      ((lighting running).zones.get .z1).ignitionTimer = some 0 ∧ (lighting running).present .z1 = true ∧
      (lighting running).line.state ≠ .cold ∧ (lighting running).line.state ≠ .lockout ∧ (lighting ring).line.state = .cold ∧
      (missing running).atRest = true ∧ (missing running).supervisor.grace.get .z1 = some 0 := by decide +kernel

/-- AsksAnsweredWithoutANewPlan, case by case. -/
theorem test_witness_asks :
    let p := oneStep (.whenReady 100) 0 none
    let raising := running.withPlan (some p)
    let held := running.withStack [⟨.splice, false, 200, 1, 1, none, false⟩]
    let ready := (inState .ready running).withPlanner { running.planner with grantRow := some 0, ceiling := 30 }
    (Reaches 7 1 ring ∧ ring.atRest = true ∧ ring.line.state ≠ .ready ∧ ring.line.state ≠ .run) ∧
      (held.atRest = true ∧ held.stack ≠ []) ∧
      (running.stack = [] ∧ rowForRequest running.store.active (251 : Half).toInt = none ∧ ¬ (1201 : Half).toInt ≤ 1200 ∧
        ¬ 0 ≤ (0xFFFF : Half).toInt) ∧
      (ready.atRest = true ∧ (30 : Half).toInt ≤ ready.planner.ceiling ∧
        rowForRequest ready.store.active (30 : Half).toInt ≠ none) ∧
      (raising.atRest = true ∧ raising.planner.plan = some p ∧ p.ordering = .raise ∧
        rowForRequest raising.store.active (201 : Half).toInt = some p.target ∧ GrantWaits p ∧
        raising.planner.ceiling < (201 : Half).toInt) := by
  refine ⟨by decide +kernel, by decide +kernel, by decide +kernel, by decide +kernel, by decide +kernel, by decide +kernel,
    rfl, by decide +kernel, ⟨_, .head _, rfl, _, _, rfl⟩, by decide +kernel⟩

/-- AsksBuildPlans: below the ceiling, at it, and above it. -/
theorem test_witness_asksBuild :
    Reaches 7 1 running ∧ running.atRest = true ∧ running.stack = [] ∧ running.store.status ≠ .pending ∧
      running.store.active[1]? = some row1 ∧
      (rowForRequest running.store.active (199 : Half).toInt = some 1 ∧ (199 : Half).toInt ≤ running.planner.ceiling) ∧
      (rowForRequest running.store.active (200 : Half).toInt = some 1 ∧ (200 : Half).toInt ≤ running.planner.ceiling) ∧
      (rowForRequest running.store.active (201 : Half).toInt = some 1 ∧ running.planner.ceiling < (201 : Half).toInt ∧
        1 ≤ row1.soak ∧ running.planner.plan = none) := by decide +kernel

/-- HeadsFireAndStall: each expiry with its head due, on a last step; and a last QUEUE_CHILL step before a transit line with room
and before a full one, its head's circuit present and not. -/
theorem test_witness_heads :
    let s (p : Plan) := running.withPlan (some p)
    (s (oneStep (.after 20) 2000 none)).atRest = true ∧ running.store.status ≠ .pending ∧
      runOut (s (oneStep (.after 20) 2000 none)) .headTimerAfter = true ∧
      runOut (s (oneStep (.after 20) 1999 none)) .headTimerAfter = false ∧
      runOut (s (oneStep (.whenReady 10) 0 (some 1000))) .soakComplete = true ∧
      runOut (s (oneStep (.whenSlowed 90 10) 0 (some 1000))) .slowedDelayExpiry = true ∧
      (oneStep (.after 20) 2000 none).head + 1 = (oneStep (.after 20) 2000 none).steps.length ∧
      (oneStep (.after 20) 2000 none).target ≠ 0 ∧
      runOut (s (oneStep (.whenReady 10) 300000 none)) .readyTimeout = true ∧
      let p := { oneStep (.after 20) 2000 none with steps := [.waiting (.queueChill .c1 200 1) (.after 20)] }
      let u (n : Nat) (c : Circuit) : State :=
        let s := (s p).withTransit (List.replicate n ⟨5, c, 100, 0⟩)
        s.withLine { s.line with circuitsPresent := ⟨true, false⟩ }
      let forced (c : Circuit) : State := after .headTimerAfter (u 8 c)
      (u 7 .c1).atRest = true ∧ runOut (u 7 .c1) .headTimerAfter = true ∧ runOut (u 8 .c2) .headTimerAfter = true ∧
        (after .headTimerAfter (u 7 .c1)).transit.length = 8 ∧ ((forced .c1).circuits.get .c1).setpoint = 100 ∧
        (forced .c2).circuits = (u 8 .c2).circuits ∧ (forced .c2).transit.length = 8 ∧ (forced .c2).sat.transitForced = 1 ∧
      let q := { p with steps := [.waiting (.setZone .z1 900 20 10) (.after 20)] }
      let lit : State := igniting.withPlan (some q)
      let kept : State := lit.withLine { lit.line with priorMinFire := some 50 }
      kept.atRest = true ∧ runOut kept .headTimerAfter = true ∧ kept.present .z1 = true ∧ kept.line.state.controlled = true ∧
        ((after .headTimerAfter kept).zones.get .z1).burner = 50 := by
  decide +kernel

/-- ReadingsReachTheirRecords. -/
theorem test_witness_readings :
    let s := withMap [channel (.zoneAir .z1), channel (.lel .z1), channel (.chillWeb .c1)] ring
    Passes 7 s ∧ (2 : Byte).toNat ≤ 2 ∧ s.atRest = true ∧ HoldsRole 0 (.zoneAir .z1) s ∧ HoldsRole 1 (.lel .z1) s ∧
      HoldsRole 2 (.chillWeb .c1) s := by
  refine ⟨by decide +kernel, by decide, by decide +kernel, ⟨_, rfl, rfl⟩, ⟨_, rfl, rfl⟩, ⟨_, rfl, rfl⟩⟩

/-- ReadingsReachTheirRecords on a present zone: LEL readings at the edges of the warn and trip levels in RUN and outside, an air
reading at the edge of OVER_TEMP, and a FAILED reading with the permit closed. -/
theorem test_witness_crossings :
    let s (l : LineState) := withMap [channel (.zoneAir .z1), channel (.lel .z1)] (zoned (inState l running))
    let bound : Int := 150 * Params.init.reliefPercent / 100
    (Passes 7 (s .run) ∧ (s .run).atRest = true ∧ (s .run).present .z1 = true ∧ (s .run).line.state.granted = true ∧
        (s .run).stack = [] ∧ (s .run).usableSpeed = some 150 ∧ min (s .run).planner.ceiling bound = bound) ∧
      ((s .purge).atRest = true ∧ (s .purge).line.state.granted = false ∧
        (s .purge).faults.pending &&& FaultCode.lelWarn.bit = 0) ∧
      (HoldsRole 0 (.zoneAir .z1) (s .run) ∧ HoldsRole 1 (.lel .z1) (s .run)) ∧
      ((Params.init.lelWarn : Int) ≤ (250 : Half).toInt ∧ ¬ (Params.init.lelWarn : Int) ≤ (249 : Half).toInt ∧
        ((Params.init.lelWarn - Params.init.lelHyst : Nat) : Int) < (250 : Half).toInt) ∧
      ((Params.init.lelTrip : Int) ≤ (500 : Half).toInt ∧ ¬ (Params.init.lelTrip : Int) ≤ (499 : Half).toInt) ∧
      ((Params.init.overTemp : Int) < (4201 : Half).toInt ∧ ¬ (Params.init.overTemp : Int) < (4200 : Half).toInt) ∧
      ((s .cold).atRest = true ∧ (s .heatup).line.state.permitClosed = true ∧
        (after (.reading 7 1 1 250 0) (s .run)).line.state = .run) :=
  ⟨by decide +kernel, by decide +kernel, ⟨⟨_, rfl, rfl⟩, ⟨_, rfl, rfl⟩⟩, by decide +kernel⟩

/-- ControlPeriodsRampAndTrim: the period due in HEATUP, with a zone present and the others not, at both sides of the ramp step
and of the dead band, untripped after it. -/
theorem test_witness_control :
    let z : ZoneRec := { aired 1000 with current := 1021, target := 1041, ramp := 20, ignition := .proven, burner := 200 }
    let s : State :=
      let s := inState .heatup ((ring.withZones ⟨z, .init, .init, .init⟩))
      let s := withMap [levelAt (.flame .z1) .active, levelAt (.airflow .z1) .active] (zoned s)
      s.withLine { s.line with control := some 0, circuitsPresent := ⟨true, false⟩ }
    s.line.control = some 0 ∧ s.present .z1 = true ∧ s.present .z2 = false ∧ s.line.state.controlled = true ∧
      (|z.target - z.current| ≤ z.ramp ∧ z.ramp < |(1042 : Int) - z.current|) ∧
      (s.line.state.granted = false ∧ s.planner.plan = none ∧ s.stack = []) ∧ s.circuitPresent .c1 = true ∧
      (match exec .controlPeriod s with | .next t => t.line.state | _ => .cold) = .heatup := by decide +kernel

/-- ControlPeriodsRampAndTrim where the burner, band and ignition are judged: READY, RUN and BREAK with its BREAK record, and
the settle test passed and failed in HEATUP. -/
theorem test_witness_judged :
    let z : ZoneRec := { aired 1000 with current := 1000, target := 1000, ignition := .proven, burner := 200, band := .inBand }
    let r : Context := ⟨.brk, false, 200, 1, 1, none, false⟩
    let s (l : LineState) (q : List Context) (z : ZoneRec) : State :=
      let s := (zoned ((inState l running).withZones ⟨z, .init, .init, .init⟩)).withStack q
      let s := withMap [levelAt (.flame .z1) .active, levelAt (.airflow .z1) .active] s
      s.withLine { s.line with control := some 0 }
    let ends (s : State) : LineState := (after .controlPeriod s).line.state
    (s .run [] z).params.lelClearTime ≠ 0 ∧ (s .run [] z).store.status ≠ .pending ∧ (s .run [] z).planner.plan = none ∧
      (ends (s .run [] z) = .run ∧ ends (s .ready [] z) = .ready ∧ ends (s .brk [r] z) = .brk) ∧
      ((s .brk [r] z).stack = r :: [] ∧ r.cause = .brk ∧ r.cleared = false) ∧ ends (s .heatup [] z) = .heatup ∧
      ((after .controlPeriod (s .heatup [] z)).zones.get .z1).band = .inBand ∧
      ((after .controlPeriod (s .heatup [] { z with target := 2000 })).zones.get .z1).band ≠ .inBand ∧
      (let failed := s .run [] { z with air := { z.air with quality := .failed } }
       failed.line.state.permitClosed = true ∧ failed.sensorTestFails = true) := by decide +kernel

/-- PushesSaveThePlanner: a refused push, a record ACTIVE and CLEARED, room in the stack, and a full stack. -/
theorem test_witness_pushes :
    let r (c : Cause) (cleared : Bool) : Context := ⟨c, cleared, 200, 1, 1, none, false⟩
    let s (l : List Context) := running.withStack l
    ring.line.state.granted = false ∧ ((inState .ready running).line.state ≠ .run) ∧
      (∃ x ∈ (s [r .brk false]).stack, x.cause = .brk) ∧
      (s [r .splice false]).stack.find? (fun x => x.cause == .splice) = some (r .splice false) ∧
      (s [r .splice true]).stack.find? (fun x => x.cause == .splice) = some (r .splice true) ∧
      (running.line.state.granted = true ∧ (∀ x ∈ running.stack, x.cause ≠ .splice) ∧ running.stack.length < 4) ∧
      (s [r .splice false, r .speedLost false, r .lelRelief false, r .masterLost false]).stack =
        [r .splice false, r .speedLost false] ++ [r .lelRelief false, r .masterLost false] := by decide +kernel

/-- ReliefEndsWithTheClearTimer: the relief's record as the only one, and beneath another. -/
theorem test_witness_relief :
    let r (c : Cause) : Context := ⟨c, false, 200, 1, 1, none, false⟩
    let s (l : List Context) : State :=
      (running.withStack l).withSupervisor { running.supervisor with reliefHeld := true, clearTimer := some 0 }
    (s [r .lelRelief]).supervisor.clearTimer = some 0 ∧ (s [r .lelRelief]).atRest = true ∧
      (s [r .splice, r .lelRelief]).atRest = true ∧ (s [r .splice, r .lelRelief]).stack = r .splice :: [r .lelRelief] ∧
      (s [r .lelRelief]).planner.grantRow = some 1 ∧ (s [r .lelRelief]).store.active[min 1 1]? = some row1 ∧
      (s [r .lelRelief]).planner.plan = none ∧ (s [r .lelRelief]).line.state = .run := by decide +kernel

/-- ReliefEndsWithTheClearTimer at a restore: a plan that runs, and a frozen one whose head is not due; a saved request taken
up, at the edges of the ceiling and the band, and none. -/
theorem test_witness_restore :
    let record (q : Option Request) (frozen : Bool) : Context := ⟨.lelRelief, false, 200, 1, 1, q, frozen⟩
    let s (q : Option Request) (plan : Option Plan) : State :=
      ((running.withPlan plan).withStack [record q false]).withSupervisor
        { running.supervisor with reliefHeld := true, clearTimer := some 0 }
    let p := oneStep (.whenReady 100) 0 none
    let waiting := { oneStep (.after 20) 1999 none with frozen := true }
    ((s none (some p)).atRest = true ∧ (s none (some p)).planner.plan = some p ∧ p.frozen = false ∧ p.target ≠ 0) ∧
      ((s none (some waiting)).atRest = true ∧ (s none (some waiting)).planner.plan = some waiting ∧
        (∃ h, waiting.steps[waiting.head]? = some h ∧ h.trigger = .after 20) ∧ waiting.headTimer < 100 * 20) ∧
      ((s (some ⟨201, 7⟩) none).atRest = true ∧ (s (some ⟨201, 7⟩) none).store.active[1]? = some row1 ∧
        min (200 : Int) row1.high < 201 ∧ (250 : Int) ≤ row1.high ∧ ¬ (251 : Int) ≤ row1.high ∧ ¬ min 200 row1.high < (200 : Int) ∧
        1 ≤ row1.soak) ∧
      ((s none none).atRest = true ∧ (s none none).planner.plan = none ∧ (s none none).planner.grantRow = some 1 ∧
        (s none none).store.active[min 1 1]? = some row1 ∧ (s none none).line.state = .run ∧
        (s none none).store.status ≠ .pending) :=
  ⟨by decide +kernel, ⟨by decide +kernel, by decide +kernel, ⟨_, rfl, rfl⟩, by decide⟩, by decide +kernel⟩

/-- MasterIsSupervised: each row of the sequence table, over the wrap, the count at 2, 1 and 0, and the mode changes to SPLICE and
away from it in RUN. -/
theorem test_witness_master :
    let v (q : Option Byte) (n : Option Nat) : Supervisor :=
      { ring.supervisor with lastSeq := q, count := n, interval := some 0, lost := true, advanceRun := 2 }
    let s (q : Option Byte) (n : Option Nat) := running.withSupervisor (v q n)
    Passes 7 (s none none) ∧ (v none none).lastSeq = none ∧ (v (some 255) none).lastSeq = some 255 ∧
      (0 : Byte) = 255 + 1 ∧ (1 : Byte) ≠ 255 ∧ (1 : Byte) ≠ 255 + 1 ∧ (s none (some 2)).atRest = true ∧
      (s none (some 2)).supervisor.count = some (0 + 2) ∧ (s none (some 1)).supervisor.count = some 1 ∧
      (s none (some 0)).supervisor.count = some 0 ∧ (s none none).supervisor.interval = some 0 ∧
      (∀ r ∈ (s none none).stack, r.cause ≠ .brk) ∧ (s none none).line.state.granted = true ∧
      let spliced := after (.beat 7 63 0 0 3) running
      running.line.mode ≠ .splice ∧ spliced.line.state = .run ∧ spliced.stack.length = 1 ∧ spliced.line.mode = .splice ∧
        (2 : Byte).toNat < 3 ∧ ¬ (3 : Byte).toNat < 3 ∧ (after (.beat 7 63 1 0 2) spliced).stack = [] := by decide +kernel

/-- ReadOrdersReport. -/
theorem test_witness_reads :
    TakenAlone (.readStatus 7 1 0 []) ring ∧ TakenAlone (.readZone 7 1 0 [4]) ring ∧ TakenAlone (.readChill 7 1 0 [2]) ring ∧
      TakenAlone (.readTransit 7 1 0 []) ring ∧ TakenAlone (.readPlan 7 1 0 [15]) ring ∧
      TakenAlone (.readStack 7 1 0 []) ring ∧ TakenAlone (.readMap 7 1 0 [127]) ring ∧
      TakenAlone (.readRow 7 1 0 [1, 15]) ring ∧ TakenAlone (.readRow 7 1 0 [2, 16]) ring ∧
      TakenAlone (.readParam 7 1 0 [30]) ring ∧ TakenAlone (.readFaults 7 1 0 []) ring :=
  ⟨(taken_order rfl (by decide +kernel)).1, (taken_order rfl (by decide +kernel)).1, (taken_order rfl (by decide +kernel)).1,
    (taken_order rfl (by decide +kernel)).1, (taken_order rfl (by decide +kernel)).1, (taken_order rfl (by decide +kernel)).1,
    (taken_order rfl (by decide +kernel)).1, (taken_order rfl (by decide +kernel)).1, (taken_order rfl (by decide +kernel)).1,
    (taken_order rfl (by decide +kernel)).1, (taken_order rfl (by decide +kernel)).1⟩

/-- OrdersAreDroppedOrRefused: a slot that is not FREE, an unknown code, another source than the manager, and data that is not
the order's. -/
theorem test_witness_refusedOrders :
    let taken := ring.withAgent { ring.agent with slot := .occupied }
    let managed := setParams { Params.init with managerAddress := 6 } ring
    (Reaches 7 1 taken ∧ taken.atRest = true ∧ taken.agent.slot ≠ .free) ∧
      (knownOrderCode 0x2B = false ∧ TakenAlone (.unknownOrder 0x2B 7 1 0 []) ring) ∧
      (TakenAlone (.commit 7 1 0 []) managed ∧ ¬ ManagerAdmits 7 managed) ∧
      (lineCommandData [5] = false ∧ TakenAlone (.lineBadCommand 7 1 0 [5]) ring ∧
        TakenWrite (.lineBadCommand 7 1 0 [5]) ring) ∧
      (TakenAlone (.softReset 7 1 0 [0]) ring ∧ TakenWrite (.softReset 7 1 0 [0]) ring) ∧
      TakenAlone (.writeParam 7 1 0 [2, 30]) ring ∧ TakenAlone (.setHold 7 1 0 []) ring ∧
      TakenAlone (.setFaultEnable 7 1 0 [0]) ring ∧ TakenAlone (.writeRow 7 1 0 []) ring := by
  refine ⟨by decide +kernel, ⟨by decide, (taken_order rfl (by decide +kernel)).1⟩,
    ⟨⟨_, rfl, ⟨⟨by decide +kernel, by decide +kernel⟩, by decide, by decide +kernel, by decide +kernel⟩, by decide +kernel⟩,
      by decide +kernel⟩,
    ⟨by decide, taken_order rfl (by decide +kernel)⟩, taken_order rfl (by decide +kernel),
    (taken_order rfl (by decide +kernel)).1, (taken_order rfl (by decide +kernel)).1, (taken_order rfl (by decide +kernel)).1,
    (taken_order rfl (by decide +kernel)).1⟩

/-- WriteMapGivesTheFields: out of range, a role that changes in RUN, one held elsewhere, a change in COLD, a new active level for
the role held, and roles whose blocks forget, taken away and written. -/
theorem test_witness_writeMap :
    let held := [channel (.airflow .z1), channel .none]
    let write (d : List Byte) (s : State) : Prop := TakenAlone (.writeMap 7 1 0 d) s ∧ TakenWrite (.writeMap 7 1 0 d) s
    (write [128, 0, 0, 0, 1, 0, 0] (withMap held ring) ∧ parseMap [128, 0, 0, 0, 1, 0, 0] = none) ∧
      (write [1, 4, 0, 0, 1, 0, 0] (withMap held running) ∧ (parseMap [1, 4, 0, 0, 1, 0, 0]).isSome = true ∧
        (withMap held running).entry 1 = some (channel .none)) ∧
      (write [1, 7, 1, 0, 1, 0, 0] (withMap held ring) ∧
        ∃ k x, k ≠ 1 ∧ (withMap held ring).entry k = some x ∧ x.role = .airflow .z1) ∧
      (write [0, 7, 1, 8, 0, 255, 3, 1, 2, 127] (withMap held running) ∧
        parseMap [0, 7, 1, 8, 0, 255, 3, 1, 2, 127] = some (0, ⟨.airflow .z1, 8, false, 255, [1, 2, 127]⟩)) ∧
      let read : State :=
        ((withMap [channel .speed, channel .none] ring).withTracker { Tracker.init with state := .locked, speed := 9 }).withZone
          .z1 (aired 500)
      write [0, 1, 1, 0, 1, 0, 0] read ∧
        parseMap [0, 1, 1, 0, 1, 0, 0] = some (0, ⟨.zoneAir .z1, 0, true, 0, []⟩) ∧
        (after (.writeMap 7 1 0 [0, 1, 1, 0, 1, 0, 0]) read).tracker.state = .noSpeed ∧
        ((after (.writeMap 7 1 0 [0, 1, 1, 0, 1, 0, 0]) read).zones.get .z1).air.reading = none := by
  refine ⟨⟨taken_order rfl (by decide +kernel), by decide⟩,
    ⟨taken_order rfl (by decide +kernel), by decide, by decide +kernel⟩,
    ⟨taken_order rfl (by decide +kernel), 0, _, by decide, rfl, rfl⟩, ⟨taken_order rfl (by decide +kernel), by decide⟩,
    taken_order rfl (by decide +kernel), by decide +kernel⟩

/-- WriteParamReplacesOneValue: the ends of a range, each cross-condition at its edge, PATH_LENGTH outside COLD, and the value
already held. -/
theorem test_witness_writeParam :
    TakenWrite (.writeParam 7 1 0 [2, 80, 0]) (tabled ring) ∧ TakenAlone (.writeParam 7 1 0 [31, 0, 0]) ring ∧
      paramRange 31 = none ∧ paramRange 2 = some (0, 80) ∧ ((80 : Int) ≤ row0.high ∧ ¬ (81 : Int) ≤ row0.high) ∧
      (450 + 50 ≤ Params.init.lelTrip ∧ ¬ 451 + 50 ≤ Params.init.lelTrip) ∧
      (Params.init.lelWarn + 50 ≤ 300 ∧ ¬ Params.init.lelWarn + 50 ≤ 299) ∧ ring.link.own.toNat = 1 ∧
      (TakenWrite (.writeParam 7 1 0 [7, 44, 1]) running ∧ paramRange 7 = some (0, 300) ∧ running.line.state.controlled = true ∧
        ring.line.state.controlled = false) ∧
      TakenAlone (.writeParam 7 1 0 [27, 0x58, 2]) running ∧ running.line.state ≠ .cold ∧
      ring.params.get 27 = 0x58 + 256 * 2 := by
  refine ⟨(taken_order rfl (by decide +kernel)).2, (taken_order rfl (by decide +kernel)).1, by decide, by decide, by decide,
    by decide, by decide, by decide +kernel, ⟨(taken_order rfl (by decide +kernel)).2, by decide, by decide, by decide⟩,
    (taken_order rfl (by decide +kernel)).1, by decide +kernel, by decide +kernel⟩

/-- HoldsAndFaultOrdersTakeEffect: a hold that begins, one that ends, an entry to take with its condition and without. -/
theorem test_witness_holds :
    let e : Entry := { driven .exhaust 0 with holdGroup := 8 }
    let s := withMap [e] (inState .heatup ring)
    let held := (withMap [{ e with drive := some ⟨0, 0, some 0, 500, false⟩ }] (inState .heatup ring)).withHolds 0x80
    let lost := ring.withFaults { ring.faults with pending := FaultCode.speedLost.bit ||| FaultCode.ringCheck.bit, out := true }
    TakenWrite (.setHold 7 1 0 [0x80]) s ∧ s.underHold e = false ∧ (s.withHolds 0x80).underHold e = true ∧
      TakenWrite (.setHold 7 1 0 [0]) held ∧ held.underHold e = true ∧
      TakenWrite (.setFaultEnable 7 1 0 [0xFF, 0]) lost ∧ TakenWrite (.faultTake 7 1 0 []) lost ∧
      (lost.faults.pending &&& FaultCode.speedLost.bit ≠ 0 ∧ lost.faults.taken &&& FaultCode.speedLost.bit = 0) ∧
      faultCondition lost .speedLost = true ∧ faultCondition lost .ringCheck = false ∧
      (TakenAlone (.faultTake 7 1 0 []) ring ∧ ring.faults.pending = 0) := by
  refine ⟨(taken_order rfl (by decide +kernel)).2, by decide +kernel, by decide +kernel,
    (taken_order rfl (by decide +kernel)).2, by decide +kernel, (taken_order rfl (by decide +kernel)).2,
    (taken_order rfl (by decide +kernel)).2, by decide +kernel, by decide +kernel, by decide +kernel,
    (taken_order rfl (by decide +kernel)).1, by decide +kernel⟩

/-- CountsAndSoftReset: both orders taken, a SOFT_RESET refused, and its REPLY in transmission under both RETAIN values. -/
theorem test_witness_counts :
    let leaving (n : Nat) : State :=
      (ring.withOutlet { ring.outlet with port := some (.inserted (.reply 7 0x2A 0 [0])) }).withAgent
        { slot := .resetPending, params := { Params.init with retain := n } }
    (TakenAlone (.readCounts 7 1 0 []) ring ∧ TakenWrite (.readCounts 7 1 0 []) ring) ∧
      (TakenAlone (.softReset 7 1 0 []) ring ∧ TakenWrite (.softReset 7 1 0 []) ring ∧ ring.line.state = .cold) ∧
      (TakenAlone (.softReset 7 1 0 []) running ∧ running.line.state ≠ .cold ∧ running.line.state ≠ .lockout) ∧
      (leaving 0).outlet.port = some (.inserted (.reply 7 0x2A 0 [0])) ∧ (leaving 1).agent.slot = .resetPending ∧
      (leaving 1).params.retain = 1 ∧ (leaving 0).params.retain ≠ 1 ∧
      ((leaving 0).withChannels (List.replicate 128 .init)).channels.length = 128 := by
  refine ⟨taken_order rfl (by decide +kernel), ⟨(taken_order rfl (by decide +kernel)).1,
    (taken_order rfl (by decide +kernel)).2, by decide +kernel⟩, ⟨(taken_order rfl (by decide +kernel)).1, by decide +kernel,
    by decide +kernel⟩, by decide +kernel⟩

end Sys2Proof.Tests
end

/-!
SUPPORT. The commands by what they bring: a frame command is its octets at the receiver, an expiry command its work where its
timer has run out; and so what one command can do to the part.
-/

namespace Sys2Proof.Machine

/-! ### Frame commands -/

/-- An order row is its ORDER at the receiver. -/
theorem exec_of_orderFields {c : Instr} {o : OrderFields} (s : State) (h : orderFields c = some o) :
    exec c s = .next (receiveOrder o.src o.dst o.code o.tag o.data s) := by
  cases c <;> cases h <;> rfl

/-- What a frame command spells: the octets of three rows as they stand, a fixed frame of one of five kinds, or an ORDER. -/
theorem frameOf_cases {c : Instr} {o : List Byte} (h : frameOf c = some o) :
    (c = .checkError o ∨ c = .strip o ∨ c = .throughFrame o) ∨
      (∃ kind src dst third value aux, frameKind kind ≠ .order ∧ frameKind kind ≠ .reply ∧
        o = fixedFrame kind src dst third value aux ∧ ∀ s, exec c s = .next (receive o s)) ∨
      ∃ f, orderFields c = some f ∧ o = variableFrame kindOrder f.src f.dst f.code f.tag f.data := by
  have order : ∀ {f : OrderFields}, orderFields c = some f →
      some (variableFrame kindOrder f.src f.dst f.code f.tag f.data) = some o →
      ∃ f, orderFields c = some f ∧ o = variableFrame kindOrder f.src f.dst f.code f.tag f.data :=
    fun k e => ⟨_, k, (Option.some.inj e).symm⟩
  cases c
  case checkError | strip | throughFrame => cases h; simp
  case beat | reading | level | demand | ask =>
    cases h; exact .inr (.inl ⟨_, _, _, _, _, _, by decide, by decide, rfl, fun _ => rfl⟩)
  case readStatus | readZone | readChill | readTransit | readPlan | readStack | readMap | readRow | readParam | readFaults
    | writeMap | writeRow | commit | withdraw | writeParam | start | stop | restart | clearLockout | setHold
    | setFaultEnable | faultTake | readCounts | softReset | unknownOrder | lineBadCommand =>
    exact .inr (.inr (order rfl h))
  all_goals cases h

/-- A frame command is its octets at the receiver. -/
theorem exec_of_frameOf {c : Instr} {o : List Byte} (s : State) (h : frameOf c = some o) :
    exec c s = .next (receive o s) := by
  obtain (rfl | rfl | rfl) | ⟨_, _, _, _, _, _, _, _, _, hx⟩ | ⟨f, hf, rfl⟩ := frameOf_cases h
  · rfl
  · rfl
  · rfl
  · exact hx s
  · exact exec_of_orderFields s hf

theorem orderLength_iff {data : List Byte} : orderLength data = true ↔ data.length ≤ Config.dataLimit :=
  decide_eq_true_iff

/-- A well-formed order row's data fit a frame. -/
theorem orderFields_fits {c : Instr} {f : OrderFields} (h : orderFields c = some f) (hw : c.wellFormed = true) :
    f.data.length ≤ Config.dataLimit := by
  cases c
  case start | stop | restart | clearLockout => cases h; simp [Config.dataLimit]
  case unknownOrder | lineBadCommand => cases h; exact orderLength_iff.mp (Bool.and_eq_true_iff.mp hw).2
  all_goals cases h <;> exact orderLength_iff.mp hw

/-! ### Expiry commands -/

/-- The work of an expiry command whose timer has run out. -/
def expiryWork : Instr → State → State
  | .ringSilenceExpiry => silenceWork
  | .confirmTimerExpiry ch => confirmWork ch.toNat
  | .refreshTimerExpiry ch => refreshWork ch.toNat
  | .ageTimer250 => fun s => s.withTracker s.tracker.at250
  | .ageTimer1000 => fun s => trackerStep s.tracker.at1000 s
  | .purgeTimerExpiry => purgeWork
  | .settleTimerExpiry => readyFromHeatup
  | .cooldownTimerExpiry => cooldownWork
  | .controlPeriod => controlWork
  | .headTimerAfter | .soakComplete | .slowedDelayExpiry => fireWork
  | .readyTimeout => stallWork
  | .ignitionTimerExpiry z => ignitionWork z
  | .clearTimerExpiry => clearRelief
  | .graceTimerExpiry z => graceWork z
  | .supervisionInterval => intervalWork
  | _ => id

/-- What one command can do: start the part from power-on values, nothing, open the bypass switch, bring octets to the receiver,
end a transmission, or do the work of a timer that has run out. -/
inductive CommandEffect (c : Instr) (s : State) : State → Prop
  | power (phase : Phase) (own : Addr) (control interval : Timer) :
      CommandEffect c s { State.powerOn phase own control interval with freeCount := s.freeCount, pending := s.pending }
  | nothing : CommandEffect c s s
  | opened : CommandEffect c s (s.withLink { s.link with phase := .joined, silence := some Config.silenceMs })
  | received (o : List Byte) : CommandEffect c s (receive o s)
  | sent : s.outlet.port.isSome = true → CommandEffect c s (finish (txDoneWork s))
  | expired : runOut s c = true → CommandEffect c s (finish (expiryWork c s))

/-- An expiry command is its work where its timer has run out, and nothing elsewhere. -/
theorem commandEffect_whenDue {c : Instr} {s : State} : CommandEffect c s (whenDue (runOut s c) (expiryWork c) s) := by
  unfold whenDue
  split
  · exact .expired ‹_›
  · exact .nothing

/-- Every command does one of these. -/
theorem exec_effect {c : Instr} {s t : State} (h : exec c s = .next t) : CommandEffect c s t := by
  cases hf : frameOf c with
  | some o =>
    rw [exec_of_frameOf s hf] at h
    cases h
    exact .received o
  | none =>
    cases c
    case resetAssert => cases h; exact .power _ _ _ _
    case resetRelease straps =>
      change execResetRelease straps s = _ at h
      unfold execResetRelease at h
      split at h
      · cases h
        cases validAddress straps
        · exact .power .inert straps none none
        · exact .power .waitingGap straps (some Config.controlMs) (some Config.intervalMs)
      · cases h; exact .nothing
    case bypassOpen =>
      change execBypassOpen s = _ at h
      unfold execBypassOpen at h
      split at h
      · cases h; exact .opened
      · cases h; exact .nothing
    case txFrameDone =>
      cases h
      split
      · exact .sent ‹_›
      · exact .nothing
    case ringSilenceExpiry | confirmTimerExpiry | refreshTimerExpiry | ageTimer250 | ageTimer1000 | purgeTimerExpiry
      | settleTimerExpiry | cooldownTimerExpiry | controlPeriod | headTimerAfter | soakComplete | slowedDelayExpiry
      | readyTimeout | ignitionTimerExpiry | clearTimerExpiry | graceTimerExpiry | supervisionInterval =>
      cases h; exact commandEffect_whenDue
    all_goals cases hf

end Sys2Proof.Machine

/-!
SUPPORT. The ring interface of a part at rest: an event that leaves it at rest has nothing more to do at its end. What a raise, a
restarted refresh timer and a frame in the through buffer leave at rest, and the insert queue's places for a frame.
-/

namespace Sys2Proof.Machine

/-! ### Raising an entry -/

/-- An entry just raised is not taken, so it stays, and the output follows (R183, R184). -/
theorem faultsSettled_raiseFault {s : State} (e : FaultCode) (h : faultsSettled s = true) :
    faultsSettled (raiseFault e s) = true := by
  have mask : (raiseFault e s).conditionMask = s.conditionMask := faultMask_congr fun c => by cases c <;> rfl
  simp only [faultsSettled, Bool.and_eq_true, decide_eq_true_eq, beq_iff_eq] at h ⊢
  refine ⟨?_, rfl⟩
  rw [mask]
  have gone := h.1
  refine BitVec.eq_of_getLsbD_eq fun i hi => ?_
  have bit := congrArg (fun x : Half => x.getLsbD i) gone
  simp only [raiseFault, State.withFaults_faults, Faults.driven, BitVec.getLsbD_and, BitVec.getLsbD_or,
    BitVec.getLsbD_not, hi, decide_true, Bool.true_and] at bit ⊢
  revert bit
  cases s.faults.pending.getLsbD i <;> cases s.faults.taken.getLsbD i <;> cases s.conditionMask.getLsbD i <;> simp

/-- A raise leaves a part at rest at rest. -/
theorem atRest_raiseFault {s : State} (e : FaultCode) (h : s.atRest = true) : (raiseFault e s).atRest = true := by
  obtain ⟨drives, store, faults, port, grants⟩ := atRest_iff.mp h
  exact atRest_iff.mpr ⟨(drivesFollow_withFaults s _).trans drives, store, faultsSettled_raiseFault e faults, port, grants⟩

/-- A saturating count leaves a part at rest at rest. -/
theorem atRest_withSat {s : State} (x : SatCounts) (h : s.atRest = true) : (s.withSat x).atRest = true :=
  (sameJudged_withSat s x).atRest h (atRest_iff.mp h).2.2.2.1

/-- A change of the ring's receiving side that keeps the through buffer leaves a part at rest at rest. -/
theorem atRest_withLink {s : State} {x : Link} (hx : x.through = s.link.through) (h : s.atRest = true) :
    (s.withLink x).atRest = true := by
  refine (sameJudged_withLink s x).atRest h ?_
  have port := (atRest_iff.mp h).2.2.2.1
  unfold portSettled at port ⊢
  rw [State.withLink_link, hx]
  exact port

/-! ### A restarted refresh timer -/

theorem findRole_undriven (r : Role) (n : Nat) (l : List Entry) :
    findRole r n (l.map Entry.undriven) = (findRole r n l).map fun p => (p.1, p.2.undriven) := by
  induction l generalizing n with
  | nil => rfl
  | cons e l ih =>
    simp only [List.map_cons, findRole, ih]
    show (if e.role = r then _ else _) = _
    split <;> rfl

/-- The conditions of the fault entries do not read the drive records. -/
theorem conditionMask_of_undriven {s : State} {l : List Entry}
    (h : l.map Entry.undriven = s.channels.map Entry.undriven) :
    (s.withChannels l).conditionMask = s.conditionMask := by
  have confirmed : ∀ r, (s.withChannels l).confirmedOf r = s.confirmedOf r := fun r => by
    have role : (findRole r 0 l).map (fun p => (p.1, p.2.undriven)) =
        (findRole r 0 s.channels).map fun p => (p.1, p.2.undriven) := by
      rw [← findRole_undriven, ← findRole_undriven, h]
    have k := congrArg (Option.map fun p : Nat × Entry => (p.2.level.map LevelRec.confirmed).getD .unknown) role
    rwa [Option.map_map, Option.map_map] at k
  have anyOf : ∀ f : Entry → Bool, (∀ e, f e.undriven = f e) → l.any f = s.channels.any f := fun f hf => by
    have k := congrArg (List.any · f) h
    simpa [List.any_map, Function.comp_def, hf] using k
  have flame := anyOf Entry.flameActive fun _ => rfl
  have brk := anyOf Entry.breakActive fun _ => rfl
  have zone : ∀ z, (s.withChannels l).present z = s.present z := fun _ => rfl
  have speed : (s.withChannels l).usableSpeed = s.usableSpeed := rfl
  refine faultMask_congr fun e => ?_
  cases e <;>
    simp only [faultCondition, confirmed, flame, brk, zone, speed, State.withChannels_channels,
      State.withChannels_supervisor, State.withChannels_line, State.withChannels_zones, State.withChannels_store,
      State.withChannels_planner, State.params, State.withChannels_agent]

theorem set_undriven {l : List Entry} {n : Nat} {e e' : Entry} (h : l[n]? = some e) (he : e'.undriven = e.undriven) :
    (l.set n e').map Entry.undriven = l.map Entry.undriven := by
  rw [List.map_set, he]
  refine List.ext_getElem? fun i => ?_
  rw [List.getElem?_set]
  split
  · rename_i hi
    subst hi
    rw [List.length_map, if_pos (List.getElem?_eq_some_iff.mp h).1, List.getElem?_map, h]
    rfl
  · rfl

theorem faultsSettled_withEntry {s : State} {n : Nat} {e e' : Entry} (h : s.entry n = some e)
    (he : e'.undriven = e.undriven) (hs : faultsSettled s = true) : faultsSettled (s.withEntry n e') = true := by
  unfold faultsSettled at hs ⊢
  rw [show (s.withEntry n e').conditionMask = s.conditionMask from conditionMask_of_undriven (set_undriven h he)]
  exact hs

/-- The source of a demand does not read the channel map. -/
theorem demandSource_withEntry (s : State) (n : Nat) (e : Entry) (r : Role) :
    demandSource (s.withEntry n e) r = demandSource s r := by cases r <;> rfl

theorem follow_refresh (c : Int) (b : Bool) (d : DriveRec) (n : Nat) :
    ({ d with refresh := n } : DriveRec).follow c b = { d.follow c b with refresh := n } := by
  rcases d with ⟨computed, sent, held, refresh, owed⟩
  cases b <;> cases held <;> rfl

theorem settled_refresh {c : Int} {b : Bool} {d : DriveRec} (n : Nat) (h : d.settled c b) :
    ({ d with refresh := n } : DriveRec).settled c b :=
  ⟨by rw [follow_refresh, h.1], h.2⟩

/-- A refresh timer restarted leaves a part at rest at rest (R37). -/
theorem atRest_refreshed {s : State} {ch : Nat} {e : Entry} {d : DriveRec} (n : Nat) (he : s.entry ch = some e)
    (hd : e.drive = some d) (h : s.atRest = true) :
    (s.withEntry ch { e with drive := some { d with refresh := n } }).atRest = true := by
  obtain ⟨drives, store, faults, port, grants⟩ := atRest_iff.mp h
  refine atRest_iff.mpr ⟨?_, store, faultsSettled_withEntry he rfl faults, port, grants⟩
  rw [drivesFollow_iff] at drives ⊢
  intro x hx y hy
  rw [demandSource_withEntry]
  rcases List.mem_or_eq_of_mem_set hx with hx | rfl
  · exact drives x hx y hy
  · cases hy
    exact settled_refresh n (drives e (List.mem_of_getElem? he) d hd)

/-! ### Frames in the through buffer -/

/-- A part at rest with an idle port holds no frame (R16). -/
theorem idle_of_portSettled {s : State} (h : portSettled s = true) (hp : s.outlet.port = none) :
    s.link.through = [] ∧ s.outlet.queue = [] := by
  simpa [portSettled, hp] using h

theorem sameJudged_joinThrough (f : ThroughFrame) (s : State) : SameJudged s (joinThrough f s) := by
  unfold joinThrough
  split
  · exact (sameJudged_withLink _ _).trans (sameJudged_arbitrate _)
  · exact sameJudged_withLink _ _

/-- A frame that joins the through buffer or is dropped leaves a part at rest at rest (R11, R16). -/
theorem atRest_joinThrough {s : State} (f : ThroughFrame) (h : s.atRest = true) : (joinThrough f s).atRest = true := by
  refine (sameJudged_joinThrough f s).atRest h ?_
  unfold joinThrough
  split
  · exact portSettled_arbitrate _
  · exact (atRest_iff.mp h).2.2.2.1

/-- With a free port and no frame to insert, the buffer's head starts to leave (R16). -/
theorem arbitrate_through_alone {s : State} (hp : s.outlet.port = none) (ht : s.link.through ≠ [])
    (hq : s.outlet.queue = []) : arbitrate s = startThrough s := by
  obtain ⟨f, l, through⟩ := List.exists_cons_of_ne_nil ht
  unfold arbitrate
  rw [hp, through, hq]

/-- A good frame at the through buffer of a part at rest: the ring's receiving side and the port (R6, R11, R16). -/
theorem joinThrough_countGood {s : State} (f : ThroughFrame) (h : portSettled s = true) :
    joinThrough f (countGood s) = (s.withLink (linkAfter f s)).withOutlet (outletAfter s) := by
  unfold joinThrough linkAfter outletAfter
  by_cases room : s.link.through.length < Config.throughCapacity
  · rw [if_pos (show (countGood s).link.through.length < _ from room), if_pos room]
    cases hp : s.outlet.port with
    | some x =>
      rw [arbitrate_busy (by simp [countGood, hp]), if_neg (fun k => nomatch k.2)]
      rfl
    | none =>
      have queue := (idle_of_portSettled h hp).2
      refine (arbitrate_through_alone (by exact hp) (by simp) (by exact queue)).trans ?_
      rw [if_pos ⟨room, rfl⟩]
      rfl
  · rw [if_neg (show ¬ (countGood s).link.through.length < _ from room), if_neg room, if_neg fun k => room k.1]
    rfl

/-- The event of a good frame of another station that the through buffer alone takes (R6, R11, R16). -/
theorem finish_joinThrough {s : State} (f : ThroughFrame) (h : s.atRest = true) :
    finish (joinThrough f (countGood s)) = (s.withLink (linkAfter f s)).withOutlet (outletAfter s) := by
  rw [finish_atRest (atRest_joinThrough f (atRest_countGood h))]
  exact joinThrough_countGood f (atRest_iff.mp h).2.2.2.1

/-! ### The insert queue's places (R14) -/

/-- The first waiting frame of the same key is replaced in place. -/
theorem replaceWaiting_same {f g : OwnFrame} {p q : List OwnFrame} (hf : f.key ≠ none) (hg : g.key = f.key)
    (hp : ∀ x ∈ p, x.key ≠ f.key) : replaceWaiting f (p ++ g :: q) = some (p ++ f :: q) := by
  induction p with
  | nil => simp [replaceWaiting, hg, Option.isSome_iff_ne_none.mpr hf]
  | cons x p ih =>
    have hx : (f.key == x.key) = false := beq_eq_false_iff_ne.mpr fun e => hp x (by simp) e.symm
    simp [replaceWaiting, hx, ih fun y hy => hp y (by simp [hy])]

/-- A frame replaces another only where one of its key waits. -/
theorem replaceWaiting_eq_none {f : OwnFrame} {q : List OwnFrame} :
    replaceWaiting f q = none ↔ f.key = none ∨ ∀ x ∈ q, x.key ≠ f.key := by
  induction q with
  | nil => simp [replaceWaiting]
  | cons x q ih =>
    unfold replaceWaiting
    cases hk : f.key with
    | none => simpa [hk] using ih
    | some k =>
      by_cases hx : x.key = some k
      · simp [hx]
      · have : (some k == x.key) = false := beq_eq_false_iff_ne.mpr (Ne.symm hx)
        simpa [this, hk, hx] using ih

/-- A frame that replaces none joins the tail where there is room, and is lost and counted elsewhere. -/
theorem insertFrame_of_new {f : OwnFrame} {s : State} (h : replaceWaiting f s.outlet.queue = none) :
    insertFrame f s =
      if s.outlet.queue.length < Config.insertCapacity then s.withOutlet { s.outlet with queue := s.outlet.queue ++ [f] }
      else s.withSat { s.sat with insertLoss := satInc s.sat.insertLoss } := by
  unfold insertFrame queueInsert
  rw [h]
  by_cases room : s.outlet.queue.length < Config.insertCapacity <;> simp [room]

/-- A frame that finds one of its key replaces it. -/
theorem insertFrame_of_same {f : OwnFrame} {s : State} {q : List OwnFrame}
    (h : replaceWaiting f s.outlet.queue = some q) :
    insertFrame f s = s.withOutlet { s.outlet with queue := q } := by
  unfold insertFrame queueInsert
  rw [h]

/-! ### Blocks that change -/

/-- A state that differs in the saturating counters and the fault entries at most. -/
theorem onlyChanges_sat_faults {s t : State} (h : t = { s with sat := t.sat, faults := t.faults }) :
    OnlyChanges [.sat, .faults] s t := by
  intro b hb
  rw [h]
  cases b
  case sat | faults => simp at hb
  all_goals rfl

end Sys2Proof.Machine

/-!
SUPPORT. The statements about ring frames and the pass path, one command and one operation at a time.
-/

namespace Sys2Proof.Machine

/-! ### Opening, silence, good frames (R1 to R5, R18) -/

/-- Settles O5: a closed switch lets no octets to the receiver, and the silence expiry leaves a part at rest at rest. -/
theorem ringOpensAndFallsSilent : Obligations.RingOpensAndFallsSilent := by
  refine ⟨fun s h => ?_, fun s h => ?_, fun c o s hf h => ?_, fun s hs h => ?_⟩
  · exact if_pos h
  · exact if_neg h
  · rw [exec_of_frameOf s hf, receive_off h]
  · have silent := finish_atRest (atRest_withLink (x := { s.link with silence := none, ringSilent := true }) rfl h)
    have due : timerDue s.link.silence = true := by rw [hs]; rfl
    show Host.Outcome.next (whenDue (timerDue s.link.silence) silenceWork s) = _
    rw [due]
    exact congrArg _ silent

/-- Every well-formed frame command that is not CHECK_ERROR spells a good frame (R1 to R3). -/
theorem goodFrame_of_wellFormed {c : Instr} {o : List Byte} (hf : frameOf c = some o) (hw : c.wellFormed = true)
    (hc : ∀ x, c ≠ .checkError x) : goodFrame o = true := by
  obtain (rfl | rfl | rfl) | ⟨kind, src, dst, third, value, aux, ho, hr, rfl, _⟩ | ⟨f, h, rfl⟩ := frameOf_cases hf
  · exact absurd rfl (hc o)
  · exact hw
  · exact (Bool.and_eq_true_iff.mp hw).1
  · exact goodFrame_fixedFrame _ _ _ _ _ _ ⟨ho, hr⟩
  · exact goodFrame_variableFrame _ _ _ _ _ _ (.inl frameKind_order) (orderFields_fits h hw)

/-- Settles O6, by what a frame command spells. -/
theorem frameCommandsSpellGoodFrames : Obligations.FrameCommandsSpellGoodFrames := by
  intro c o hf hw
  split
  · cases hf
    exact Bool.not_eq_true' _ ▸ hw
  · rename_i other
    exact goodFrame_of_wellFormed hf hw other

/-! ### The ends of a frame (R3, R6, R7, R10, R11) -/

/-- A saturating counter stands at 255 (R19). -/
theorem satInc_eq (b : Byte) : satInc b = if b = 255 then 255 else b + 1 := by
  by_cases full : b = 255#8
  · subst full; rfl
  · exact (if_neg full).trans (if_neg full).symm

/-- Settles O7: an entry just raised stays, so the event's end has nothing to do. -/
theorem checkErrorsAreDiscarded : Obligations.CheckErrorsAreDiscarded := by
  intro c o s hf hs hg h
  have counted := atRest_withSat { s.sat with rxCheckErr := satInc s.sat.rxCheckErr } h
  rw [exec_of_frameOf s hf, receive, if_pos hs, hg, if_neg nofun, checkErrorWork, ← satInc_eq]
  by_cases full : s.sat.rxCheckErr = 254
  · rw [if_pos full, finish_atRest (atRest_raiseFault _ counted)]
    exact ⟨_, rfl, onlyChanges_sat_faults rfl, rfl, fun k => absurd full k, fun _ => ⟨rfl, rfl, rfl⟩⟩
  · rw [if_neg full, finish_atRest counted]
    exact ⟨_, rfl, onlyChanges_sat_faults rfl, rfl, fun _ => rfl, fun k => absurd k full⟩

/-- Settles O8. -/
theorem ownFramesAreStripped : Obligations.OwnFramesAreStripped := by
  intro c o s hf hs hg h own
  have stripped : frameEnd s.link.own o = .stripped := if_pos own
  rw [exec_of_frameOf s hf, receive_good hs hg, classify, stripped]
  exact congrArg _ (finish_atRest (atRest_withLink rfl (atRest_countGood h)))

/-- A frame of no kind that is copied is copied nowhere (R9). -/
theorem copyFrame_of_other {o : List Byte} (s : State) (h : Instr.ownRowKind (frameKind (octetAt o 0)) = false) :
    copyFrame o s = s := by
  unfold copyFrame
  dsimp only
  split
  · rename_i kind; rw [kind] at h; cases h
  · rename_i kind; rw [kind] at h; cases h
  · rename_i kind; rw [kind] at h; cases h
  all_goals rfl

/-- Settles O9. -/
theorem otherFramesPassUntouched : Obligations.OtherFramesPassUntouched := by
  intro c o s hf hs hg h passed kind
  have forward : forwardFrame o (countGood s) = joinThrough ⟨o, none⟩ (countGood s) :=
    if_neg fun demand => by rw [demand] at kind; cases kind
  rw [exec_of_frameOf s hf, receive_good hs hg, classify, passed]
  simp only [copyFrame_of_other _ kind, forward, finish_joinThrough _ h]

/-- A DEMAND of another station is handed to the through buffer alone (R6, R9, R10). -/
theorem exec_demand {src dst ch aux : Byte} {value : Half} {s : State} (h : Passes src s) :
    exec (.demand src dst ch value aux) s =
      .next (finish (joinDemand (fixedFrame kindDemand src dst ch value aux) (countGood s))) := by
  show Host.Outcome.next (receive _ _) = _
  rw [receive_passes h.1 h.2 (by simp)]
  simp [forwardFrame, copyFrame]

theorem rewriteDemand_fixedFrame (kind src dst ch aux : Byte) (value : Half) (v : Int) :
    rewriteDemand (fixedFrame kind src dst ch value aux) v = fixedFrame kind src dst ch (BitVec.ofInt 16 v) 1 := by
  simp [rewriteDemand]

/-- Settles O10, by whether the channel has a drive record and the through buffer room. -/
theorem demandsCarryThePartsDemand : Obligations.DemandsCarryThePartsDemand := by
  intro src dst ch value aux s hs h
  refine ⟨?_, fun untouched => ?_⟩
  · intro e d he hd room f
    have joined : joinDemand (fixedFrame kindDemand src dst ch value aux) (countGood s) =
        joinThrough f (countGood (s.withEntry ch.toNat { e with drive := some { d with refresh := 500 } })) := by
      have drive : driveOf (countGood s) ch.toNat = some (e, d) := by
        unfold driveOf
        rw [show (countGood s).entry ch.toNat = some e from he]
        simp [hd]
      unfold joinDemand
      simp only [octetAt_fixed_3, drive, rewriteDemand_fixedFrame]
      exact if_pos room
    rw [exec_demand hs, joined, finish_joinThrough f (atRest_refreshed 500 he hd h)]
    rfl
  · rw [exec_demand hs]
    have joined : joinDemand (fixedFrame kindDemand src dst ch value aux) (countGood s) =
        joinThrough ⟨fixedFrame kindDemand src dst ch value aux, none⟩ (countGood s) := by
      unfold joinDemand driveOf
      simp only [octetAt_fixed_3]
      rw [show (countGood s).entry ch.toNat = s.entry ch.toNat from rfl]
      cases he : s.entry ch.toNat with
      | none => rfl
      | some e =>
        cases hd : e.drive with
        | none => simp [hd]
        | some d =>
          have full : ¬ (countGood s).link.through.length < Config.throughCapacity :=
            not_lt.mpr (untouched.resolve_left (by simp [he, hd]))
          simp only [Option.map_some, hd]
          rw [if_neg full]
    rw [joined, finish_joinThrough _ h]

/-! ### The end of a transmission (R11, R15, R16, R38) -/

/-- TX_FRAME_DONE at a busy port whose work leaves nothing to judge: the arbiter decides on what the work leaves. -/
theorem exec_txFrameDone {s t u : State} (h : t.atRest = true) (busy : s.outlet.port.isSome = true)
    (work : txDoneWork s = u) (judged : SameJudged t u) : exec .txFrameDone s = .next (arbitrate u) := by
  show Host.Outcome.next (if s.outlet.port.isSome then finish (txDoneWork s) else s) = _
  rw [if_pos busy, work, finish, judged.closeEvent h]

/-- A change of the port and of the ring's receiving side changes nothing that is judged. -/
theorem sameJudged_port_link (s : State) (p : Option Transmission) (x : Link) :
    SameJudged s ((s.withOutlet { s.outlet with port := p }).withLink x) :=
  ⟨rfl, rfl, rfl, rfl, rfl, rfl, rfl, rfl, rfl, rfl, rfl, rfl, rfl⟩

/-- Settles O11, by what the port holds and, for a substituted DEMAND, by the channel's drive record. -/
theorem transmissionsEnd : Obligations.TransmissionsEnd := by
  intro s h free left
  have judged : SameJudged s left := sameJudged_port_link s none _
  refine ⟨fun hp => ?_, fun f hp hr => ?_, fun hp hs => ?_, fun ch v e d hp hs he hd => ?_⟩
  · show Host.Outcome.next (if s.outlet.port.isSome then finish (txDoneWork s) else s) = _
    rw [hp]
    rfl
  · refine exec_txFrameDone h (by simp [hp]) ?_ (sameJudged_port_link s none _)
    unfold txDoneWork
    rw [hp]
    refine if_neg ?_
    rintro ⟨reset, slot⟩
    rcases hr with hr | hr
    · simp [hr] at reset
    · exact hr slot
  · refine exec_txFrameDone h (by simp [hp]) ?_ judged
    unfold txDoneWork
    rw [hp]
    rcases hs with hs | ⟨ch, v, hs, undriven⟩
    · simp only [hs]; rfl
    · simp only [hs, correctDemand, driveOf]
      rw [show (throughLeft (freePort s)).entry ch = s.entry ch from rfl]
      cases he : s.entry ch with
      | none => rfl
      | some e => simp only [show e.drive = none by simpa [he] using undriven]; rfl
  · have work : txDoneWork s = if d.sent = v then left else originate ch e d left := by
      unfold txDoneWork
      rw [hp]
      simp only [hs, correctDemand, driveOf]
      rw [show (throughLeft (freePort s)).entry ch = s.entry ch from rfl, he]
      simp only [hd]
      rfl
    by_cases same : d.sent = v
    · rw [if_pos same] at work ⊢
      exact exec_txFrameDone h (by simp [hp]) work judged
    · rw [if_neg same] at work ⊢
      refine exec_txFrameDone (atRest_refreshed 500 he hd h) (by simp [hp]) work ?_
      exact (sameJudged_port_link _ none _).trans (sameJudged_insertFrame _ _)

/-- An inserted frame that starts takes the port and leaves the queue (R14, R16). -/
theorem startInserted_outlet (f : OwnFrame) (q : List OwnFrame) (s : State) :
    (startInserted f q s).outlet = { s.outlet with queue := q, port := some (.inserted f), runCount := 0 } := by
  unfold startInserted
  dsimp only
  split <;> rfl

/-- Settles O12, by which of the two sources hold frames. -/
theorem arbiterChoosesByTable : Obligations.ArbiterChoosesByTable := by
  intro s hp
  refine ⟨fun ht hq => ?_, fun f q hq row => ?_, fun ht row => ?_⟩
  · exact arbitrate_of_settled (by simp [portSettled, ht, hq])
  · have chosen : arbitrate s = startInserted f q s := by
      unfold arbitrate
      rw [hp, hq]
      cases ht : s.link.through with
      | nil => rfl
      | cons g l =>
        refine if_pos ?_
        unfold choosesInsert Config.alternateDepth Config.runLimit
        rcases row with row | row | row
        · simp [ht] at row
        · rw [if_pos (by omega)]; exact decide_eq_true row.2
        · rw [if_neg (by omega)]; exact decide_eq_true row.2
    simp only [chosen, startInserted_outlet, and_self]
  · have chosen : arbitrate s = startThrough s := by
      obtain ⟨g, l, through⟩ := List.exists_cons_of_ne_nil ht
      unfold arbitrate
      rw [hp, through]
      cases hq : s.outlet.queue with
      | nil => rfl
      | cons f q =>
        refine if_neg ?_
        rw [hq] at row
        unfold choosesInsert Config.alternateDepth Config.runLimit
        rcases row with row | row | row
        · cases row
        · rw [if_pos (by omega)]; simp; omega
        · rw [if_neg (by omega)]; simp; omega
    rw [chosen]
    exact ⟨rfl, rfl, rfl, rfl⟩

/-! ### The insert queue (R14) -/

/-- Settles O13. -/
theorem insertionsReplaceOrJoin : Obligations.InsertionsReplaceOrJoin := by
  intro f s
  refine ⟨fun p g q hq hf hg hp => ?_, fun new => ?_⟩
  · exact insertFrame_of_same (hq ▸ replaceWaiting_same hf hg hp)
  · rw [insertFrame_of_new (replaceWaiting_eq_none.mpr new), ← satInc_eq]
    exact ⟨fun room => if_pos room, fun full => if_neg (not_lt.mpr full)⟩

end Sys2Proof.Machine

/-!
SUPPORT. The reset state: every invariant, and every block at its power-on values.
-/

namespace Sys2Proof.Machine

theorem lineSound_reset : LineSound State.reset where
  permit := rfl
  grant := rfl
  ceiling _ := rfl
  plan := nofun
  purge := nofun
  settle := nofun
  cooldown := nofun
  stack h := absurd rfl h

theorem storeSound_reset : StoreSound State.reset := ⟨.inl rfl, nofun⟩

theorem grantSound_reset : GrantSound State.reset where
  within _ h := by cases h
  ready h := by cases h
  table h := by cases h
  plan _ _ _ _ h := by cases h

/-- The defaults of R195 lie within their ranges. -/
theorem paramsSound_init : paramsSound Params.init := by
  refine ⟨fun id lo hi h => ?_, by decide⟩
  unfold paramRange at h
  split at h <;> cases h <;> decide

theorem bounded_reset : Bounded State.reset where
  through := Nat.zero_le _
  queue := Nat.zero_le _
  run := Nat.zero_le _
  transit := Nat.zero_le _
  stack := Nat.zero_le _
  channels := List.length_replicate
  active := Nat.zero_le _
  shadow := Nat.zero_le _
  plan := nofun

theorem fresh_reset : Fresh State.reset where
  line := ⟨rfl, rfl, rfl, rfl, rfl, rfl⟩
  presence := ⟨fun z => by cases z <;> rfl, fun c => by cases c <;> rfl⟩
  tracker := rfl
  commit := rfl
  grant := ⟨rfl, rfl, rfl, rfl, rfl, rfl⟩
  inForce := ⟨rfl, fun c => by cases c <;> rfl, fun z => by cases z <;> rfl⟩
  zones z := by cases z <;> rfl
  circuits c := by cases c <;> rfl
  queues := ⟨rfl, rfl, rfl, rfl, rfl⟩
  supervisor := ⟨rfl, rfl, fun z => by cases z <;> exact ⟨rfl, rfl⟩, rfl, rfl, rfl, rfl, rfl⟩
  faults := ⟨rfl, rfl, rfl⟩
  counts := rfl
  holds := rfl
  slot := rfl

theorem unconfigured_reset : Unconfigured State.reset where
  channels := ⟨List.length_replicate, fun _ => List.eq_of_mem_replicate⟩
  store := ⟨rfl, rfl⟩
  enable := rfl
  params := rfl

/-- The reset state is at rest: no entry has a drive record, and nothing waits. -/
theorem atRest_reset : State.reset.atRest = true := by
  have drives : drivesFollow State.reset = true := by
    rw [drivesFollow_iff]
    intro e he d hd
    rw [List.eq_of_mem_replicate he] at hd
    cases hd
  exact atRest_iff.mpr ⟨drives, rfl, by simp [faultsSettled, State.reset, State.powerOn, Faults.output], rfl, rfl⟩

/-- Settles O60, block by block. -/
theorem resetHasEveryInvariant : Obligations.ResetHasEveryInvariant :=
  ⟨atRest_reset, lineSound_reset, storeSound_reset, grantSound_reset, paramsSound_init, rfl, nofun, bounded_reset, nofun,
    List.nodup_nil, List.nodup_nil, nofun, fresh_reset, unconfigured_reset, rfl, rfl, rfl, rfl, rfl, rfl, rfl, rfl, rfl, rfl⟩

end Sys2Proof.Machine

/-!
SUPPORT. What the capacities are: one predicate over the blocks, and a plan's part of it, which a firing step, an appended exhaust
step and a plan as built keep.
-/

namespace Sys2Proof.Machine

/-! ### A plan within its capacity -/

/-- A plan in its order and size, toward a table and with an in-force exhaust (R101, R106, R163). -/
structure Plan.Fits (active : List Row) (exhaust : Int) (p : Plan) : Prop where
  head : p.head ≤ p.steps.length
  done : ∀ i t, p.steps[i]? = some t → (t.done = true ↔ i < p.head)
  length : p.steps.length ≤ 12
  carries : ∀ r, active[p.target]? = some r → ∀ t v, t ∈ p.steps → t.kind = .setExhaust v → v = r.exhaust
  room : ∀ r, active[p.target]? = some r → exhaust ≠ r.exhaust → p.exhaustWaits = false → p.steps.length ≤ 11

/-- A plan's fit is a matter of its steps, its head and its target row. -/
theorem Plan.Fits.of_same {a : List Row} {x : Int} {p q : Plan} (h : p.Fits a x) (hs : q.steps = p.steps)
    (hh : q.head = p.head) (ht : q.target = p.target) : q.Fits a x := by
  have waits : q.exhaustWaits = p.exhaustWaits := by unfold Plan.exhaustWaits; rw [hs]
  constructor
  · rw [hs, hh]; exact h.head
  · rw [hs, hh]; exact h.done
  · rw [hs]; exact h.length
  · rw [hs, ht]; exact h.carries
  · rw [hs, ht, waits]; exact h.room

theorem exhaustWaits_iff {p : Plan} :
    p.exhaustWaits = true ↔ ∃ t ∈ p.steps, t.done = false ∧ ∃ v, t.kind = .setExhaust v := by
  unfold Plan.exhaustWaits
  rw [List.any_eq_true]
  refine exists_congr fun t => and_congr_right fun _ => ?_
  cases t.kind <;> simp

/-! ### The head fires (R106) -/

theorem getElem?_advanced (n : Nat) (p : Plan) (i : Nat) :
    (p.advanced n).steps[i]? = (p.steps[i]?).map fun t => if p.head = i then { t with done := true } else t := by
  show (p.steps.modify p.head _)[i]? = _
  rw [List.getElem?_modify]
  cases p.steps[i]? with
  | none => rfl
  | some t =>
    show some (if p.head = i then _ else _) = some _
    split <;> rfl

/-- A firing changes no step's kind. -/
theorem mem_advanced {n : Nat} {p : Plan} {t : PlanStep} (h : t ∈ (p.advanced n).steps) :
    ∃ u ∈ p.steps, u.kind = t.kind := by
  obtain ⟨i, hi⟩ := List.mem_iff_getElem?.mp h
  rw [getElem?_advanced] at hi
  obtain ⟨u, hu, rfl⟩ := Option.map_eq_some_iff.mp hi
  exact ⟨u, List.mem_of_getElem? hu, by split <;> rfl⟩

/-- An exhaust step waits on while another step fires. -/
theorem exhaustWaits_advanced {n : Nat} {p : Plan} {t : PlanStep} (ht : p.steps[p.head]? = some t)
    (hk : ∀ v, t.kind ≠ .setExhaust v) (h : p.exhaustWaits = true) : (p.advanced n).exhaustWaits = true := by
  rw [exhaustWaits_iff] at h ⊢
  obtain ⟨u, hu, waiting, v, kind⟩ := h
  obtain ⟨i, hi⟩ := List.mem_iff_getElem?.mp hu
  have ne : p.head ≠ i := fun e => by
    rw [e, hi] at ht
    cases ht
    exact hk v kind
  refine ⟨u, List.mem_of_getElem? (i := i) ?_, waiting, v, kind⟩
  rw [getElem?_advanced, hi, Option.map_some, if_neg ne]

/-- A plan fits once its head has fired, if the in-force exhaust is then an exhaust step's value, or as before by any other
step. -/
theorem Plan.Fits.advanced {a : List Row} {x y : Int} {p : Plan} {t : PlanStep} (n : Nat) (h : p.Fits a x)
    (ht : p.steps[p.head]? = some t)
    (hy : t.kind = .setExhaust y ∨ (y = x ∧ ∀ v, t.kind ≠ .setExhaust v)) : (p.advanced n).Fits a y := by
  have length : (p.advanced n).steps.length = p.steps.length := List.length_modify ..
  have within : p.head < p.steps.length := (List.getElem?_eq_some_iff.mp ht).1
  refine ⟨?_, fun i u hu => ?_, length ▸ h.length, fun r hr u v hu hv => ?_, fun r hr ne waits => ?_⟩
  · rw [length]; exact within
  · rw [getElem?_advanced] at hu
    obtain ⟨w, hw, rfl⟩ := Option.map_eq_some_iff.mp hu
    have before := h.done i w hw
    show _ ↔ i < p.head + 1
    by_cases e : p.head = i
    · simp [e]
    · rw [if_neg e, before]; omega
  · obtain ⟨w, hw, kind⟩ := mem_advanced hu
    exact h.carries r hr w v hw (kind.trans hv)
  · rw [length]
    rcases hy with hy | ⟨rfl, hk⟩
    · exact absurd (h.carries r hr t y (List.mem_of_getElem? ht) hy) ne
    · refine h.room r hr ne (Bool.eq_false_iff.mpr fun k => ?_)
      rw [exhaustWaits_advanced ht hk k] at waits
      cases waits

/-! ### The plan the restore keeps (R163) -/

/-- The exhaust step that the restore appends. -/
abbrev exhaustStep (r : Row) : PlanStep := .waiting (.setExhaust r.exhaust) (.after 0)

/-- An exhaust step appended behind the others, where there is room for one. -/
theorem Plan.Fits.appended {a : List Row} {x : Int} {p q : Plan} {r : Row} (h : p.Fits a x)
    (hr : a[p.target]? = some r) (room : p.steps.length ≤ 11) (hs : q.steps = p.steps ++ [exhaustStep r])
    (hh : q.head = p.head) (ht : q.target = p.target) : q.Fits a x := by
  have waits : q.exhaustWaits = true :=
    exhaustWaits_iff.mpr ⟨exhaustStep r, by simp [hs], rfl, r.exhaust, rfl⟩
  have length : q.steps.length = p.steps.length + 1 := by simp [hs]
  have head := h.head
  refine ⟨by omega, fun i t hi => ?_, by omega, fun r' hr' t v hm hv => ?_, fun _ _ _ k => ?_⟩
  · rw [hs] at hi
    rw [hh]
    rcases Nat.lt_or_ge i p.steps.length with before | behind
    · rw [List.getElem?_append_left before] at hi
      exact h.done i t hi
    · rw [List.getElem?_append_right behind] at hi
      rw [List.mem_singleton.mp (List.mem_of_getElem? hi)]
      exact ⟨nofun, fun k => absurd k (by omega)⟩
  · rw [ht] at hr'
    rw [hs] at hm
    rcases List.mem_append.mp hm with hm | hm
    · exact h.carries r' hr' t v hm hv
    · rw [List.mem_singleton.mp hm] at hv
      cases hv
      cases hr.symm.trans hr'
      rfl
  · rw [waits] at k
    cases k

theorem Plan.Fits.kept {s : State} {p : Plan} (h : p.Fits s.store.active s.planner.inForce.exhaust) :
    (p.kept s).Fits s.store.active s.planner.inForce.exhaust := by
  unfold Plan.kept
  split
  · rename_i r hr
    split
    · rename_i short
      exact h.appended hr (h.room r hr short.1 short.2) rfl rfl rfl
    · exact h.of_same rfl rfl rfl
  · exact h.of_same rfl rfl rfl

/-! ### Plans as built (R108 to R111) -/

/-- Steps as a plan toward row `r` is built with: all WAITING, the exhaust step where R108 calls for one, and at most eleven
others. -/
structure StepsOf (s : State) (r : Row) (l : List PlanStep) : Prop where
  waiting : ∀ t ∈ l, t.done = false
  exhausts : ∀ v, .setExhaust v ∈ l.map PlanStep.kind → .setExhaust v ∈ exhaustKinds s r
  exhaust : ∀ k ∈ exhaustKinds s r, k ∈ l.map PlanStep.kind
  length : l.length ≤ (exhaustKinds s r).length + 11

theorem exhaustKinds_cases (s : State) (r : Row) :
    exhaustKinds s r = [] ∨ exhaustKinds s r = [.setExhaust r.exhaust] := by
  unfold exhaustKinds
  split
  · exact .inl rfl
  · split
    · exact .inl rfl
    · exact .inr rfl

/-- A plan as built fits. -/
theorem StepsOf.fits {s u : State} {r : Row} {l : List PlanStep} {j : Nat} {a : List Row} (h : StepsOf s r l)
    (hr : a[j]? = some r) (o : Origin) (ord : Ordering3) (req : Option Request) (x : Int) :
    (Plan.built u o ord req j l).Fits a x := by
  have row : ∀ r', a[j]? = some r' → r' = r := fun r' k => (Option.some.inj (hr.symm.trans k)).symm
  refine ⟨Nat.zero_le _, fun i t ht => ?_, ?_, fun r' hr' t v ht hv => ?_, fun r' _ _ waits => ?_⟩
  · rw [h.waiting t (List.mem_of_getElem? ht)]
    exact ⟨nofun, nofun⟩
  · have := h.length
    rcases exhaustKinds_cases s r with e | e <;> rw [e] at this <;> exact this.trans (by simp)
  · have listed := h.exhausts v (List.mem_map.mpr ⟨t, ht, hv⟩)
    rw [row r' hr']
    rcases exhaustKinds_cases s r with e | e <;> rw [e] at listed
    · cases listed
    · cases List.mem_singleton.mp listed; rfl
  · have length := h.length
    rcases exhaustKinds_cases s r with e | e
    · rw [e] at length; exact length
    · obtain ⟨t, ht, kind⟩ := List.mem_map.mp (h.exhaust _ (e ▸ List.mem_singleton_self _))
      have : (Plan.built u o ord req j l).exhaustWaits = true :=
        exhaustWaits_iff.mpr ⟨t, ht, h.waiting t ht, _, kind⟩
      rw [this] at waits
      cases waits

@[simp] theorem map_kind_stepsWith (a b : Trigger) (l : List StepKind) : (stepsWith a b l).map PlanStep.kind = l := by
  cases l with
  | nil => rfl
  | cons k l => simp [stepsWith, PlanStep.waiting, Function.comp_def]

@[simp] theorem length_stepsWith (a b : Trigger) (l : List StepKind) : (stepsWith a b l).length = l.length := by
  rw [← List.length_map (f := PlanStep.kind), map_kind_stepsWith]

theorem waiting_stepsWith (a b : Trigger) (l : List StepKind) : ∀ t ∈ stepsWith a b l, t.done = false := by
  cases l with
  | nil => nofun
  | cons k l =>
    intro t ht
    rcases List.mem_cons.mp ht with rfl | ht
    · rfl
    · obtain ⟨_, _, rfl⟩ := List.mem_map.mp ht
      rfl

theorem length_fanKinds (s : State) (r : Row) : (fanKinds s r).length ≤ 4 := List.length_filterMap_le ..
theorem length_zoneKinds (s : State) (r : Row) : (zoneKinds s r).length ≤ 4 := List.length_filterMap_le ..
theorem length_chillKinds (s : State) (j : Nat) (r : Row) : (chillKinds s j r).length ≤ 2 := List.length_filterMap_le ..

theorem setExhaust_notMem_fanKinds (s : State) (r : Row) (v : Int) : .setExhaust v ∉ fanKinds s r := by
  unfold fanKinds
  rw [List.mem_filterMap]
  rintro ⟨z, _, h⟩
  split at h
  · split at h <;> cases h
  · cases h

theorem setExhaust_notMem_zoneKinds (s : State) (r : Row) (v : Int) : .setExhaust v ∉ zoneKinds s r := by
  unfold zoneKinds
  rw [List.mem_filterMap]
  rintro ⟨z, _, h⟩
  split at h
  · split at h <;> cases h
  · cases h

theorem setExhaust_notMem_chillKinds (s : State) (j : Nat) (r : Row) (v : Int) : .setExhaust v ∉ chillKinds s j r := by
  unfold chillKinds
  rw [List.mem_filterMap]
  rintro ⟨c, _, h⟩
  split at h <;> cases h

section orderings

variable (s : State) (j : Nat) (r : Row) (v : Int)

theorem waiting_openingSteps : ∀ t ∈ openingSteps s r, t.done = false := by
  intro t ht
  rcases List.mem_append.mp ht with ht | ht <;> exact waiting_stepsWith _ _ _ t ht

theorem stepsOf_raiseSteps : StepsOf s r (raiseSteps s j r v) := by
  have fan := length_fanKinds s r
  have zone := length_zoneKinds s r
  have chill := length_chillKinds s j r
  refine ⟨fun t ht => ?_, fun x hx => ?_, fun k hk => ?_, ?_⟩
  · simp only [raiseSteps, List.mem_append, List.mem_singleton] at ht
    rcases ht with (ht | rfl) | ht
    · exact waiting_openingSteps s r t ht
    · rfl
    · exact waiting_stepsWith _ _ _ t ht
  · simpa [raiseSteps, openingSteps, closingSteps, PlanStep.waiting, setExhaust_notMem_fanKinds,
      setExhaust_notMem_zoneKinds, setExhaust_notMem_chillKinds] using hx
  · simp [raiseSteps, openingSteps, hk]
  · simp only [raiseSteps, openingSteps, closingSteps, List.length_append, length_stepsWith, List.length_singleton]
    omega

theorem stepsOf_adjustSteps : StepsOf s r (adjustSteps s j r) := by
  have fan := length_fanKinds s r
  have zone := length_zoneKinds s r
  have chill := length_chillKinds s j r
  refine ⟨fun t ht => ?_, fun x hx => ?_, fun k hk => ?_, ?_⟩
  · rcases List.mem_append.mp ht with ht | ht
    · exact waiting_openingSteps s r t ht
    · exact waiting_stepsWith _ _ _ t ht
  · simpa [adjustSteps, openingSteps, closingSteps, setExhaust_notMem_fanKinds,
      setExhaust_notMem_zoneKinds, setExhaust_notMem_chillKinds] using hx
  · simp [adjustSteps, openingSteps, hk]
  · simp only [adjustSteps, openingSteps, closingSteps, List.length_append, length_stepsWith]
    omega

theorem stepsOf_lowerSteps (granting : Bool) : StepsOf s r (lowerSteps s j r v granting) := by
  have fan := length_fanKinds s r
  have zone := length_zoneKinds s r
  have chill := length_chillKinds s j r
  refine ⟨fun t ht => ?_, fun x hx => ?_, fun k hk => ?_, ?_⟩
  · simp only [lowerSteps, closingSteps, List.mem_append] at ht
    rcases ht with (((ht | ht) | ht) | ht) | ht
    · cases granting
      · cases ht
      · rw [List.mem_singleton.mp ht]; rfl
    all_goals exact waiting_stepsWith _ _ _ t ht
  · cases granting <;>
      simpa [lowerSteps, closingSteps, PlanStep.waiting, setExhaust_notMem_fanKinds, setExhaust_notMem_zoneKinds,
        setExhaust_notMem_chillKinds] using hx
  · simp [lowerSteps, hk]
  · have grant : (if granting then [PlanStep.waiting (.grant v j) (.after 0)] else []).length ≤ 1 := by
      cases granting <;> simp
    simp only [lowerSteps, closingSteps, List.length_append, length_stepsWith]
    omega

end orderings

end Sys2Proof.Machine

/-!
SUPPORT. The work of an event keeps the ring interface's counts, the through buffer's depth and the port, and everything within its
capacity: one lemma per shared operation.
-/

namespace Sys2Proof.Machine

/-! ### The capacities together -/

/-- Every queue, copy of the table, stack and plan within its capacity and in its order. -/
structure Capable (s : State) : Prop where
  through : s.link.through.length ≤ Config.throughCapacity
  queue : s.outlet.queue.length ≤ Config.insertCapacity
  keys : keysDiffer s.outlet.queue
  run : s.outlet.runCount ≤ Config.runLimit
  transit : s.transit.length ≤ Config.transitCapacity
  stack : s.stack.length ≤ Config.stackCapacity
  causes : causesDiffer s
  channels : s.channels.length = Config.channelCount
  active : s.store.active.length ≤ Config.tableCapacity
  shadow : s.store.shadow.length ≤ Config.tableCapacity
  plan : ∀ p, s.planner.plan = some p → p.Fits s.store.active s.planner.inForce.exhaust

/-- The capacities as the statement lists them. -/
theorem capable_iff {s : State} :
    Capable s ↔ Bounded s ∧ planSized s ∧ keysDiffer s.outlet.queue ∧ causesDiffer s ∧ planOrdered s := by
  constructor
  · intro h
    refine ⟨⟨h.through, h.queue, h.run, h.transit, h.stack, h.channels, h.active, h.shadow,
      fun p hp => (h.plan p hp).length.trans (by omega)⟩, fun p hp => ?_, h.keys, h.causes, fun p hp => ?_⟩
    · exact ⟨(h.plan p hp).length, fun r hr => ⟨(h.plan p hp).carries r hr, (h.plan p hp).room r hr⟩⟩
    · exact ⟨(h.plan p hp).head, (h.plan p hp).done⟩
  · rintro ⟨bounded, sized, keys, causes, ordered⟩
    exact {
      bounded with
      keys := keys
      causes := causes
      plan := fun p hp => ⟨(ordered p hp).1, (ordered p hp).2, (sized p hp).1, fun r hr => ((sized p hp).2 r hr).1,
        fun r hr => ((sized p hp).2 r hr).2⟩ }

/-- The ring interface's counts, the through buffer's depth and the port are the same. -/
structure Conveyed (s t : State) : Prop where
  wrap : t.link.wrap = s.link.wrap
  held : t.link.through.length = s.link.through.length
  port : t.outlet.port = s.outlet.port

/-- And the capacities are kept. -/
structure Keeps (s t : State) : Prop extends Conveyed s t where
  capable : Capable s → Capable t

theorem Conveyed.refl (s : State) : Conveyed s s := ⟨rfl, rfl, rfl⟩

theorem Conveyed.trans {s t u : State} (h : Conveyed s t) (k : Conveyed t u) : Conveyed s u :=
  ⟨k.wrap.trans h.wrap, k.held.trans h.held, k.port.trans h.port⟩

@[simp] theorem Keeps.refl (s : State) : Keeps s s := ⟨.refl s, id⟩

theorem Keeps.trans {s t u : State} (h : Keeps s t) (k : Keeps t u) : Keeps s u :=
  ⟨h.toConveyed.trans k.toConveyed, fun c => k.capable (h.capable c)⟩

/-- A choice between two results that keep the capacities keeps them. -/
theorem Keeps.ite {s t u : State} {c : Prop} [Decidable c] (h : Keeps s t) (k : Keeps s u) :
    Keeps s (if c then t else u) := by split <;> assumption

/-! ### Updates -/

@[simp] theorem keeps_withSat (s : State) (x : SatCounts) : Keeps s (s.withSat x) := ⟨⟨rfl, rfl, rfl⟩, fun h => { h with }⟩
@[simp] theorem keeps_withHolds (s : State) (x : Byte) : Keeps s (s.withHolds x) := ⟨⟨rfl, rfl, rfl⟩, fun h => { h with }⟩
@[simp] theorem keeps_withTracker (s : State) (x : Tracker) : Keeps s (s.withTracker x) :=
  ⟨⟨rfl, rfl, rfl⟩, fun h => { h with }⟩
@[simp] theorem keeps_withLine (s : State) (x : Line) : Keeps s (s.withLine x) := ⟨⟨rfl, rfl, rfl⟩, fun h => { h with }⟩
@[simp] theorem keeps_withZones (s : State) (x : PerZone ZoneRec) : Keeps s (s.withZones x) :=
  ⟨⟨rfl, rfl, rfl⟩, fun h => { h with }⟩
@[simp] theorem keeps_withZone (s : State) (z : Zone) (x : ZoneRec) : Keeps s (s.withZone z x) := keeps_withZones _ _
@[simp] theorem keeps_withCircuits (s : State) (x : PerCircuit CircuitRec) : Keeps s (s.withCircuits x) :=
  ⟨⟨rfl, rfl, rfl⟩, fun h => { h with }⟩
@[simp] theorem keeps_withCircuit (s : State) (c : Circuit) (x : CircuitRec) : Keeps s (s.withCircuit c x) :=
  keeps_withCircuits _ _
@[simp] theorem keeps_withSupervisor (s : State) (x : Supervisor) : Keeps s (s.withSupervisor x) :=
  ⟨⟨rfl, rfl, rfl⟩, fun h => { h with }⟩
@[simp] theorem keeps_withFaults (s : State) (x : Faults) : Keeps s (s.withFaults x) := ⟨⟨rfl, rfl, rfl⟩, fun h => { h with }⟩
@[simp] theorem keeps_withAgent (s : State) (x : Agent) : Keeps s (s.withAgent x) := ⟨⟨rfl, rfl, rfl⟩, fun h => { h with }⟩

/-- The receiving side with the counts and the through buffer as they are. -/
theorem keeps_withLink {s : State} {x : Link} (hw : x.wrap = s.link.wrap := by rfl)
    (ht : x.through = s.link.through := by rfl) : Keeps s (s.withLink x) :=
  ⟨⟨hw, congrArg List.length ht, rfl⟩, fun h => { h with through := ht ▸ h.through }⟩

theorem keeps_withChannels {s : State} {l : List Entry} (hl : l.length = s.channels.length) :
    Keeps s (s.withChannels l) := ⟨⟨rfl, rfl, rfl⟩, fun h => { h with channels := hl.trans h.channels }⟩

@[simp] theorem keeps_withEntry (s : State) (n : Nat) (e : Entry) : Keeps s (s.withEntry n e) :=
  keeps_withChannels List.length_set

/-- A change of the map's entries one by one. -/
@[simp] theorem keeps_mapChannels (g : Entry → Entry) (s : State) : Keeps s (s.withChannels (s.channels.map g)) :=
  keeps_withChannels (List.length_map _)

theorem keeps_withTransit {s : State} {l : List TransitEntry} (hl : l.length ≤ s.transit.length) :
    Keeps s (s.withTransit l) := ⟨⟨rfl, rfl, rfl⟩, fun h => { h with transit := hl.trans h.transit }⟩

/-- A stack whose causes are among those of the one before, in its order. -/
theorem keeps_withStack {s : State} {l : List Context}
    (hl : (l.map Context.cause).Sublist (s.stack.map Context.cause)) : Keeps s (s.withStack l) :=
  ⟨⟨rfl, rfl, rfl⟩, fun h =>
    { h with
      stack := le_trans (by simpa using hl.length_le) h.stack
      causes := h.causes.sublist hl }⟩

/-- A change of the stack's records that leaves their causes. -/
theorem keeps_mapStack {s : State} {l : List Context} (hl : l.map Context.cause = s.stack.map Context.cause) :
    Keeps s (s.withStack l) := keeps_withStack (hl ▸ List.Sublist.refl _)

/-- The sending side with another destination, or other frames owed. -/
theorem keeps_withOutlet {s : State} {x : Outlet} (hq : x.queue = s.outlet.queue := by rfl)
    (hp : x.port = s.outlet.port := by rfl) (hr : x.runCount = s.outlet.runCount := by rfl) : Keeps s (s.withOutlet x) :=
  ⟨⟨rfl, rfl, hp⟩, fun h => { h with queue := hq ▸ h.queue, keys := hq ▸ h.keys, run := hr ▸ h.run }⟩

/-- The planner with the plan and the in-force exhaust as they are. -/
theorem keeps_withPlanner {s : State} {x : Planner} (hp : x.plan = s.planner.plan := by rfl)
    (he : x.inForce.exhaust = s.planner.inForce.exhaust := by rfl) : Keeps s (s.withPlanner x) :=
  ⟨⟨rfl, rfl, rfl⟩, fun h => { h with plan := fun p k => he ▸ h.plan p (hp ▸ k) }⟩

/-- The planner without a plan. -/
theorem keeps_withoutPlan {s : State} {x : Planner} (hp : x.plan = none := by rfl) : Keeps s (s.withPlanner x) :=
  ⟨⟨rfl, rfl, rfl⟩, fun h => { h with plan := fun p k => by rw [State.withPlanner_planner, hp] at k; cases k }⟩

/-- The planner with a plan that fits what is in force with it. -/
theorem keeps_withFitting {s : State} {x : Planner} {p : Plan}
    (hf : Capable s → p.Fits s.store.active x.inForce.exhaust) (hp : x.plan = some p := by rfl) : Keeps s (s.withPlanner x) :=
  ⟨⟨rfl, rfl, rfl⟩, fun h =>
    { h with plan := fun q k => by rw [State.withPlanner_planner, hp] at k; cases k; exact hf h }⟩

/-- The plan replaced by one that fits as it did. -/
theorem keeps_withPlan {p q : Plan} {s : State} (hp : s.planner.plan = some p)
    (hf : ∀ a x, p.Fits a x → q.Fits a x) : Keeps s (s.withPlan (some q)) :=
  keeps_withFitting fun h => hf _ _ (h.plan p hp)

/-- The plan changed in what its fit does not read. -/
theorem keeps_mapPlan (f : Plan → Plan) (hs : ∀ p a x, p.Fits a x → (f p).Fits a x) (s : State) :
    Keeps s (s.withPlan (s.planner.plan.map f)) := by
  cases hp : s.planner.plan with
  | none => exact keeps_withoutPlan
  | some p => exact keeps_withPlan hp (hs p)

/-- The store with the active table as it is and the shadow copy within its capacity. -/
theorem keeps_withStore {s : State} {x : Store} (ha : x.active = s.store.active)
    (hs : s.store.shadow.length ≤ Config.tableCapacity → x.shadow.length ≤ Config.tableCapacity) :
    Keeps s (s.withStore x) :=
  ⟨⟨rfl, rfl, rfl⟩, fun h =>
    { h with active := ha ▸ h.active, shadow := hs h.shadow, plan := fun p k => ha ▸ h.plan p k }⟩

/-! ### Folds over zones and circuits -/

theorem keeps_forZones (f : Zone → State → State) (hf : ∀ z s, Keeps s (f z s)) (s : State) : Keeps s (forZones f s) :=
  ((hf _ _).trans (hf _ _)).trans ((hf _ _).trans (hf _ _))

theorem keeps_forCircuits (f : Circuit → State → State) (hf : ∀ c s, Keeps s (f c s)) (s : State) :
    Keeps s (forCircuits f s) := (hf _ _).trans (hf _ _)

/-! ### Faults, counters, frames -/

@[simp] theorem keeps_raiseFault (e : FaultCode) (s : State) : Keeps s (raiseFault e s) := keeps_withFaults _ _

@[simp] theorem keeps_sweepFaults (s : State) : Keeps s (sweepFaults s) := by unfold sweepFaults; split <;> simp

@[simp] theorem keeps_countKindMismatch (s : State) : Keeps s (countKindMismatch s) := keeps_withSat _ _

/-- A replaced frame has the key of the one it replaces (R14). -/
theorem replaceWaiting_keys {f : OwnFrame} {q r : List OwnFrame} (h : replaceWaiting f q = some r) :
    r.filterMap OwnFrame.key = q.filterMap OwnFrame.key := by
  induction q generalizing r with
  | nil => cases h
  | cons g q ih =>
    unfold replaceWaiting at h
    split at h
    · rename_i same
      cases h
      rw [List.filterMap_cons, List.filterMap_cons, eq_of_beq (Bool.and_eq_true_iff.mp same).2]
    · obtain ⟨r', hr', rfl⟩ := Option.map_eq_some_iff.mp h
      rw [List.filterMap_cons, List.filterMap_cons, ih hr']

/-- A frame that replaces none brings a key of its own, or none (R14). -/
theorem keysDiffer_append {f : OwnFrame} {q : List OwnFrame} (h : replaceWaiting f q = none) (k : keysDiffer q) :
    keysDiffer (q ++ [f]) := by
  unfold keysDiffer
  rw [List.filterMap_append]
  rcases replaceWaiting_eq_none.mp h with none | new
  · simpa [none] using k
  · cases hf : f.key with
    | none => simpa [hf] using k
    | some x =>
      rw [show [f].filterMap OwnFrame.key = [x] by simp [hf]]
      refine List.nodup_append.mpr ⟨k, List.nodup_singleton x, fun a ha b hb => ?_⟩
      obtain ⟨g, hg, key⟩ := List.mem_filterMap.mp ha
      rw [List.mem_singleton.mp hb]
      exact fun same => new g hg (by rw [key, hf, same])

@[simp] theorem keeps_insertFrame (f : OwnFrame) (s : State) : Keeps s (insertFrame f s) := by
  have length := insertFrame_length f (s := s)
  cases h : replaceWaiting f s.outlet.queue with
  | some q =>
    rw [insertFrame_of_same h] at length ⊢
    exact ⟨⟨rfl, rfl, rfl⟩, fun c =>
      { c with queue := length c.queue, keys := (congrArg List.Nodup (replaceWaiting_keys h)).mpr c.keys }⟩
  | none =>
    rw [insertFrame_of_new h] at length ⊢
    split
    · rename_i room
      rw [if_pos room] at length
      exact ⟨⟨rfl, rfl, rfl⟩, fun c => { c with queue := length c.queue, keys := keysDiffer_append h c.keys }⟩
    · exact keeps_withSat _ _

@[simp] theorem keeps_insertAll (l : List OwnFrame) (s : State) : Keeps s (insertAll l s) := by
  induction l generalizing s with
  | nil => exact .refl s
  | cons f l ih => exact (keeps_insertFrame _ _).trans (ih _)

@[simp] theorem keeps_oweGrant (st : GrantStatus) (tag : Byte) (s : State) : Keeps s (oweGrant st tag s) :=
  keeps_withOutlet

@[simp] theorem keeps_payGrants (s : State) : Keeps s (payGrants s) :=
  Keeps.trans keeps_withOutlet (keeps_insertAll _ _)

@[simp] theorem keeps_sendGrant (st : GrantStatus) (tag : Byte) (s : State) : Keeps s (sendGrant st tag s) :=
  (keeps_payGrants s).trans (keeps_insertFrame _ _)

@[simp] theorem keeps_sendUnasked (st : GrantStatus) (s : State) : Keeps s (sendUnasked st s) := keeps_sendGrant _ _ _

@[simp] theorem keeps_forwardLevels (b : Bool) (l : List Nat) (s : State) : Keeps s (forwardLevels b l s) :=
  keeps_insertAll _ _

/-! ### The drive stage -/

@[simp] theorem keeps_followDrives (s : State) : Keeps s (followDrives s) := keeps_mapChannels _ s

@[simp] theorem keeps_originateOwed (s : State) : Keeps s (originateOwed s) :=
  (keeps_mapChannels _ s).trans (keeps_insertAll _ _)

@[simp] theorem keeps_driveStage (s : State) : Keeps s (driveStage s) :=
  (keeps_followDrives _).trans (keeps_originateOwed _)

@[simp] theorem keeps_originate (ch : Nat) (e : Entry) (d : DriveRec) (s : State) : Keeps s (originate ch e d s) :=
  (keeps_withEntry _ _ _).trans (keeps_insertFrame _ _)

/-! ### Zone loops, chill loops, transit line -/

@[simp] theorem keeps_zonePeriod (z : Zone) (s : State) : Keeps s (zonePeriod z s) := by
  unfold zonePeriod; split <;> simp

@[simp] theorem keeps_zoneEntry (z : Zone) (s : State) : Keeps s (zoneEntry z s) := by unfold zoneEntry; split <;> simp

@[simp] theorem keeps_retargetZone (z : Zone) (a f r : Int) (s : State) : Keeps s (retargetZone z a f r s) := by
  unfold retargetZone; split <;> simp

@[simp] theorem keeps_circuitPeriod (c : Circuit) (s : State) : Keeps s (circuitPeriod c s) := by
  unfold circuitPeriod; split <;> simp

@[simp] theorem keeps_circuitEntry (c : Circuit) (s : State) : Keeps s (circuitEntry c s) := by
  unfold circuitEntry; split <;> simp

@[simp] theorem keeps_setSetpoint (c : Circuit) (v : Int) (s : State) : Keeps s (setSetpoint c v s) := by
  unfold setSetpoint; split <;> simp

@[simp] theorem keeps_flushTransit (s : State) : Keeps s (flushTransit s) := keeps_withTransit (Nat.zero_le _)

@[simp] theorem keeps_mature (e : TransitEntry) (s : State) : Keeps s (mature e s) := keeps_setSetpoint _ _ _

@[simp] theorem keeps_matureAll (l : List TransitEntry) (s : State) : Keeps s (matureAll l s) := by
  induction l generalizing s with
  | nil => exact .refl s
  | cons e es ih => exact (keeps_mature _ _).trans (ih _)

@[simp] theorem keeps_advanceTransit (n : Nat) (s : State) : Keeps s (advanceTransit n s) := by
  refine (keeps_withTransit ?_).trans (keeps_matureAll _ _)
  rw [List.length_map]
  exact List.length_filter_le _ _

@[simp] theorem keeps_forceHead (s : State) : Keeps s (forceHead s) := by
  unfold forceHead
  split
  · simp
  · rename_i e rest h
    refine ((keeps_withTransit ?_).trans (keeps_mature _ _)).trans ((keeps_withSat _ _).trans (keeps_raiseFault _ _))
    rw [h]
    exact Nat.le_succ _

/-- A QUEUE_CHILL step forces a full line's head, so its entry finds room (R144). -/
@[simp] theorem keeps_appendTransit (c : Circuit) (v : Int) (r : Nat) (s : State) : Keeps s (appendTransit c v r s) := by
  have forced : Keeps s (if s.transit.length < Config.transitCapacity then s else forceHead s) :=
    (Keeps.refl s).ite (keeps_forceHead s)
  exact ⟨forced.toConveyed.trans ⟨rfl, rfl, rfl⟩, fun h =>
    { forced.capable h with transit := appendTransit_length c v r h.transit }⟩

/-! ### Requests to the planner, the context stack -/

@[simp] theorem keeps_discardPlan (s : State) : Keeps s (discardPlan s) := keeps_withoutPlan
@[simp] theorem keeps_withdrawGrant (s : State) : Keeps s (withdrawGrant s) := keeps_withPlanner
@[simp] theorem keeps_setOverspeed (b : Bool) (s : State) : Keeps s (setOverspeed b s) := keeps_withPlanner
@[simp] theorem keeps_setTarget (j : Nat) (s : State) : Keeps s (setTarget j s) := keeps_withPlanner
@[simp] theorem keeps_emptyStack (s : State) : Keeps s (emptyStack s) := keeps_withStack (List.nil_sublist _)

@[simp] theorem keeps_freezePlan (s : State) : Keeps s (freezePlan s) :=
  keeps_mapPlan (fun p => { p with frozen := true }) (fun _ _ _ h => h.of_same rfl rfl rfl) s

@[simp] theorem keeps_holdCeiling (b : Int) (s : State) : Keeps s (holdCeiling b s) :=
  Keeps.trans keeps_withPlanner (keeps_oweGrant _ _ _)

@[simp] theorem keeps_setGrant (g : Nat) (c : Int) (s : State) : Keeps s (setGrant g c s) := by
  have set : Keeps s (s.withPlanner { s.planner with ceiling := c, grantRow := some g }) := keeps_withPlanner
  exact set.ite (set.trans (keeps_sendUnasked _ _))

/-- The relief opens the exhaust once no plan stands (R155). -/
theorem keeps_openExhaust {s : State} (h : s.planner.plan = none) : Keeps s (openExhaust s) := keeps_withoutPlan h

@[simp] theorem keeps_overlay (c : Cause) (s : State) : Keeps s (overlay c s) := by
  cases c <;> unfold overlay
  case lelRelief =>
    exact (((keeps_discardPlan _).trans (keeps_openExhaust rfl)).trans (keeps_followDrives _)).trans (keeps_holdCeiling _ _)
  all_goals simp

theorem conveyed_saveContext (c : Cause) (s : State) : Conveyed s (saveContext c s) :=
  (keeps_overlay c s).toConveyed.trans ⟨rfl, rfl, rfl⟩

/-- A record on top of a stack that has room and none of its cause (R153). -/
theorem capable_saveContext {c : Cause} {s : State} (h : Capable s) (room : s.stack.length < Config.stackCapacity)
    (new : c ∉ s.stack.map Context.cause) : Capable (saveContext c s) := by
  have same : (overlay c s).stack = s.stack := (overlay_rest c s).2.1
  refine { (keeps_overlay c s).capable h with stack := ?_, causes := ?_ }
  · show (overlay c s).stack.length + 1 ≤ _
    rw [same]
    exact room
  · show (c :: (overlay c s).stack.map Context.cause).Nodup
    rw [same]
    exact List.nodup_cons.mpr ⟨new, h.causes⟩

@[simp] theorem keeps_reactivate (c : Cause) (s : State) : Keeps s (reactivate c s) := by
  refine (keeps_overlay c s).trans (keeps_mapStack ?_)
  rw [List.map_map]
  refine List.map_congr_left fun r _ => ?_
  show Context.cause (if _ then _ else _) = _
  split <;> rfl

theorem mapLast_cause {f : Context → Context} (hf : ∀ r, (f r).cause = r.cause) (l : List Context) :
    (mapLast f l).map Context.cause = l.map Context.cause := by
  induction l with
  | nil => rfl
  | cons a l ih =>
    cases l with
    | nil => simp [mapLast, hf]
    | cons b l => rw [mapLast, List.map_cons, ih]; rfl

/-- An overflow removes the bottom record's cause alone (R158). -/
theorem overflowStack_causes (s : State) :
    (overflowStack s).stack.map Context.cause = (s.stack.map Context.cause).dropLast := by
  show (mapLast (baseContext s) s.stack.dropLast).map Context.cause = _
  rw [mapLast_cause (f := baseContext s) (fun _ => rfl), List.map_dropLast]

@[simp] theorem keeps_overflowStack (s : State) : Keeps s (overflowStack s) := by
  refine (keeps_withStack ?_).trans ((keeps_withSat _ _).trans (keeps_raiseFault _ _))
  exact overflowStack_causes s ▸ List.dropLast_sublist _

/-- A push, in every case of R152: a new record finds room, by the removal of the bottom one where the stack is full. -/
@[simp] theorem keeps_push (c : Cause) (s : State) : Keeps s (push c s) := by
  unfold push
  split
  · simp
  split
  · simp
  split
  · split <;> simp
  · rename_i absent
    have new : c ∉ s.stack.map Context.cause := fun h => by
      obtain ⟨r, hr, cause⟩ := List.mem_map.mp h
      exact List.find?_eq_none.mp absent r hr (beq_iff_eq.mpr cause)
    split
    · rename_i room
      exact ⟨conveyed_saveContext _ _, fun h => capable_saveContext h room new⟩
    · refine ⟨(keeps_overflowStack s).toConveyed.trans (conveyed_saveContext _ _), fun h => ?_⟩
      have length := congrArg List.length (overflowStack_causes s)
      have stack := h.stack
      refine capable_saveContext ((keeps_overflowStack s).capable h) ?_ ?_
      · simp only [List.length_map, List.length_dropLast, Config.stackCapacity] at length stack ⊢
        omega
      · rw [overflowStack_causes]
        exact fun h => new (List.mem_of_mem_dropLast h)

/-! ### State entries -/

@[simp] theorem keeps_grantAtEntry (l : LineState) (s : State) : Keeps s (grantAtEntry l s) := by
  unfold grantAtEntry
  refine (Keeps.refl s).ite (Keeps.ite ?_ (keeps_withdrawGrant s))
  exact (keeps_withdrawGrant _).trans (keeps_sendUnasked _ _)

@[simp] theorem keeps_enterLine (l : LineState) (s : State) : Keeps s (enterLine l s) :=
  (((keeps_grantAtEntry l s).trans (keeps_withLine _ _)).trans (keeps_withSupervisor _ _)).trans
    (((keeps_forZones _ keeps_zoneEntry _).trans (keeps_forCircuits _ keeps_circuitEntry _)).trans
      (keeps_followDrives _))

@[simp] theorem keeps_enterCold (s : State) : Keeps s (enterCold s) :=
  (keeps_flushTransit _).trans (keeps_enterLine _ _)

@[simp] theorem keeps_purgeJudged (s : State) : Keeps s (purgeJudged s) := keeps_withLine _ _

@[simp] theorem keeps_enterPurge (s : State) : Keeps s (enterPurge s) :=
  (keeps_enterLine _ _).trans (keeps_purgeJudged _)

@[simp] theorem keeps_cooldownJudged (s : State) : Keeps s (cooldownJudged s) := by
  unfold cooldownJudged; split <;> simp

@[simp] theorem keeps_enterCooldown (s : State) : Keeps s (enterCooldown s) :=
  (((keeps_emptyStack _).trans (keeps_flushTransit _)).trans (keeps_enterLine _ _)).trans
    ((keeps_withLine _ _).trans (keeps_cooldownJudged _))

@[simp] theorem keeps_tripLine (s : State) : Keeps s (tripLine s) := by
  unfold tripLine
  refine (Keeps.refl s).ite ?_
  exact (((keeps_emptyStack _).trans (keeps_discardPlan _)).trans (keeps_flushTransit _)).trans (keeps_enterLine _ _)

@[simp] theorem keeps_trip (e : FaultCode) (s : State) : Keeps s (trip e s) :=
  (keeps_raiseFault _ _).trans (keeps_tripLine _)

@[simp] theorem keeps_sensorTested (b : Bool) (s : State) : Keeps s (sensorTested b s) := by
  unfold sensorTested; split <;> simp

@[simp] theorem keeps_sensorJudged (s : State) : Keeps s (sensorJudged s) := keeps_sensorTested _ s

@[simp] theorem keeps_lelWarning (s : State) : Keeps s (lelWarning s) :=
  ((keeps_withSupervisor _ _).trans (keeps_raiseFault _ _)).trans (keeps_push _ _)

@[simp] theorem keeps_masterAtReady (s : State) : Keeps s (masterAtReady s) := by unfold masterAtReady; split <;> simp

@[simp] theorem keeps_readyFromHeatup (s : State) : Keeps s (readyFromHeatup s) :=
  (((keeps_enterLine _ _).trans keeps_withPlanner).trans (keeps_sendUnasked _ _)).trans
    ((Keeps.ite (keeps_lelWarning _) (.refl _)).trans (keeps_masterAtReady _))

@[simp] theorem keeps_readyFromRun (s : State) : Keeps s (readyFromRun s) :=
  ((keeps_enterLine _ _).trans keeps_withPlanner).trans ((keeps_sendUnasked _ _).trans (keeps_masterAtReady _))

@[simp] theorem keeps_speedLost (s : State) : Keeps s (speedLost s) := (keeps_raiseFault _ _).trans (keeps_push _ _)

@[simp] theorem keeps_enterRun (s : State) : Keeps s (enterRun s) :=
  (keeps_enterLine .run s).trans
    ((Keeps.ite (keeps_speedLost _) (.refl _)).trans (Keeps.ite (keeps_push _ _) (.refl _)))

@[simp] theorem keeps_webBreak (s : State) : Keeps s (webBreak s) := by
  refine (keeps_raiseFault .webBreak s).trans (Keeps.ite ?_ (.refl _))
  exact (((keeps_push _ _).trans (keeps_discardPlan _)).trans (keeps_flushTransit _)).trans (keeps_enterLine _ _)

/-! ### Plans -/

@[simp] theorem keeps_fireGrant (r : Option Request) (v : Int) (j : Nat) (s : State) : Keeps s (fireGrant r v j s) := by
  cases r
  · exact Keeps.trans keeps_withPlanner (keeps_sendUnasked _ _)
  · exact Keeps.trans keeps_withPlanner (keeps_sendGrant _ _ _)

@[simp] theorem keeps_setTargets (z : Zone) (f : ZoneTargets → ZoneTargets) (s : State) : Keeps s (setTargets z f s) :=
  keeps_withPlanner

/-- A step that sets no exhaust leaves the in-force exhaust. -/
theorem keeps_stepEffect {k : StepKind} (hk : ∀ v, k ≠ .setExhaust v) (r : Option Request) (s : State) :
    Keeps s (stepEffect r k s) := by
  cases k
  case setExhaust v => exact absurd rfl (hk v)
  case setFan => exact keeps_withPlanner
  case setZone => exact (keeps_setTargets _ _ _).trans (keeps_retargetZone _ _ _ _ _)
  case queueChill => exact Keeps.trans keeps_withPlanner (keeps_appendTransit _ _ _ _)
  case grant => exact keeps_fireGrant _ _ _ _

/-- The head's firing: an exhaust step brings the in-force exhaust to its target row's (R102, R106). -/
theorem keeps_fireHead {p : Plan} {t : PlanStep} {s : State} (hp : s.planner.plan = some p)
    (ht : p.steps[p.head]? = some t) : Keeps s (fireHead p t.kind s) := by
  refine Keeps.trans ?_ (keeps_followDrives _)
  by_cases hk : ∃ v, t.kind = .setExhaust v
  · obtain ⟨v, hv⟩ := hk
    rw [hv]
    exact keeps_withFitting fun h => (h.plan p hp).advanced _ ht (.inl hv)
  · have other : ∀ v, t.kind ≠ .setExhaust v := not_exists.mp hk
    refine Keeps.trans ?_ (keeps_stepEffect other _ _)
    exact keeps_withFitting fun h => (h.plan p hp).advanced _ ht (.inr ⟨rfl, other⟩)

@[simp] theorem keeps_completePlan (p : Plan) (s : State) : Keeps s (completePlan p s) :=
  (keeps_discardPlan s).trans (Keeps.ite (keeps_readyFromRun _) (.refl _))

@[simp] theorem keeps_testHead (n : Nat) (s : State) : Keeps s (testHead n s) := by
  induction n generalizing s with
  | zero => exact .refl s
  | succ n ih =>
    unfold testHead
    split
    · simp
    rename_i p hp
    split
    · simp
    rename_i t ht
    refine (Keeps.refl s).ite (Keeps.ite ?_ ?_)
    · exact (keeps_fireHead hp ht).trans (ih _)
    · exact keeps_withPlan hp fun _ _ h => h.of_same rfl rfl rfl

@[simp] theorem keeps_runPlan (s : State) : Keeps s (runPlan s) := by unfold runPlan; split <;> simp

@[simp] theorem keeps_fireWork (s : State) : Keeps s (fireWork s) := by
  unfold fireWork
  split
  · rename_i p hp
    unfold fireDue
    split
    · simp
    · rename_i t ht
      exact (keeps_fireHead hp ht).trans (keeps_testHead _ _)
  · simp

/-- A plan that fits is put in existence (R108). -/
theorem keeps_installPlan {p : Plan} {s : State} (hf : p.Fits s.store.active s.planner.inForce.exhaust) :
    Keeps s (installPlan p s) :=
  ((keeps_withFitting (x := { s.planner with plan := some p, target := p.target }) fun _ => hf).trans
    (Keeps.ite (keeps_enterRun _) (.refl _))).trans (keeps_runPlan _)

@[simp] theorem keeps_stallPlan (p : Plan) (s : State) : Keeps s (stallPlan p s) := by
  have gone : Keeps s (raiseFault .heatShortfall (s.withPlan none)) := (keeps_discardPlan s).trans (keeps_raiseFault _ _)
  unfold stallPlan
  split
  · exact gone.trans (keeps_sendGrant _ _ _)
  · exact gone

@[simp] theorem keeps_bandReportToPlan (s : State) : Keeps s (bandReportToPlan s) := by
  unfold bandReportToPlan; repeat' split
  all_goals simp

@[simp] theorem keeps_speedReportToPlan (s : State) : Keeps s (speedReportToPlan s) := by
  unfold speedReportToPlan; repeat' split
  all_goals simp

theorem keeps_crossAbove {j : Nat} {r : Row} {s : State} (hr : s.store.active[j]? = some r) :
    Keeps s (crossAbove j r s) := by
  unfold crossAbove
  refine Keeps.ite (Keeps.ite (.refl s) ?_) ?_
  · exact (keeps_raiseFault _ _).trans (keeps_setOverspeed _ _)
  · exact (keeps_raiseFault .overspeed s).trans (keeps_installPlan ((stepsOf_adjustSteps _ j r).fits hr _ _ _ _))

theorem keeps_crossingLower {j : Nat} {r : Row} {s : State} (hr : s.store.active[j]? = some r) :
    Keeps s (crossingLower j r s) := keeps_installPlan ((stepsOf_lowerSteps s j r _ _).fits hr _ _ _ _)

@[simp] theorem keeps_crossingTest (s : State) : Keeps s (crossingTest s) := by
  unfold crossingTest
  refine Keeps.ite ?_ (.refl s)
  split
  · simp
  split
  · split
    · simp
    · rename_i hr
      exact (keeps_crossingLower hr).ite ((keeps_crossAbove hr).ite (keeps_setOverspeed _ _))
  · simp

/-! ### Clearance and restore -/

theorem keeps_restorePlan {p : Plan} {s : State} (hp : s.planner.plan = some p) : Keeps s (restorePlan p s) := by
  have kept : Keeps s (s.withPlan (some (p.kept s))) := keeps_withFitting fun h => (h.plan p hp).kept
  exact (kept.trans (keeps_runPlan _)).ite kept

theorem keeps_resumeAdjust {j : Nat} {r : Row} {s : State} (hr : s.store.active[j]? = some r) :
    Keeps s (resumeAdjust j r s) :=
  (Keeps.refl s).ite (keeps_installPlan ((stepsOf_adjustSteps s j r).fits hr _ _ _ _))

theorem keeps_resumePlan {j : Nat} {r : Row} {s : State} (hr : s.store.active[j]? = some r) (q : Option Request) :
    Keeps s (resumePlan q j r s) := by
  cases q
  · exact keeps_resumeAdjust hr
  · exact (keeps_installPlan ((stepsOf_raiseSteps s j r _).fits hr _ _ _ _)).ite (keeps_resumeAdjust hr)

@[simp] theorem keeps_restoreDryer (b : Context) (g : Nat) (s : State) : Keeps s (restoreDryer b g s) := by
  unfold restoreDryer
  dsimp only
  split
  · rename_i hr
    exact (keeps_setTarget (restoreTarget b g) s).trans (keeps_resumePlan (s := setTarget (restoreTarget b g) s) hr _)
  · simp

@[simp] theorem keeps_restoreRest (b : Context) (g : Nat) (s : State) : Keeps s (restoreRest b g s) := by
  unfold restoreRest
  split
  · rename_i hp
    exact keeps_restorePlan hp
  · simp

@[simp] theorem keeps_restore (b : Context) (s : State) : Keeps s (restore b s) := by
  unfold restore
  split
  · simp
  · exact Keeps.trans (keeps_setGrant _ _ s) (keeps_restoreRest _ _ _)

theorem popCleared_suffix (l : List Context) (b : Option Context) : (popCleared l b).1 <:+ l := by
  induction l generalizing b with
  | nil => exact List.suffix_refl _
  | cons r l ih =>
    unfold popCleared
    split
    · exact (ih _).trans (List.suffix_cons r l)
    · exact List.suffix_refl _

@[simp] theorem keeps_popStack (s : State) : Keeps s (popStack s) := by
  unfold popStack
  split
  · exact (keeps_emptyStack s).trans (keeps_restore _ _)
  · rename_i l b _ h
    have suffix := popCleared_suffix s.stack none
    rw [h] at suffix
    exact keeps_withStack (suffix.sublist.map _)

@[simp] theorem keeps_clearCause (c : Cause) (s : State) : Keeps s (clearCause c s) := by
  refine Keeps.ite ((keeps_mapStack ?_).trans (keeps_popStack _)) (.refl s)
  rw [List.map_map]
  refine List.map_congr_left fun r _ => ?_
  show Context.cause (if _ then _ else _) = _
  split <;> rfl

end Sys2Proof.Machine

/-!
SUPPORT. The blocks' answers to frames, expiries and orders keep the counts, the port and the capacities, and so does what ends an
event.
-/

namespace Sys2Proof.Machine

/-! ### The supervisor -/

@[simp] theorem keeps_setFlags (z : Zone) (f : ZoneFlags) (s : State) : Keeps s (setFlags z f s) :=
  keeps_withSupervisor _ _

@[simp] theorem keeps_judgeWarn (z : Zone) (s : State) : Keeps s (judgeWarn z s) :=
  (keeps_setFlags _ _ _).trans (Keeps.ite (keeps_lelWarning _) (.refl _))

@[simp] theorem keeps_judgeTrip (z : Zone) (s : State) : Keeps s (judgeTrip z s) :=
  (keeps_setFlags _ _ _).trans (Keeps.ite (keeps_trip _ _) (.refl _))

@[simp] theorem keeps_judgeHot (z : Zone) (s : State) : Keeps s (judgeHot z s) :=
  (keeps_setFlags _ _ _).trans (Keeps.ite (keeps_trip _ _) (.refl _))

theorem keeps_ifPresent (f : Zone → State → State) (hf : ∀ z s, Keeps s (f z s)) (z : Zone) (s : State) :
    Keeps s (ifPresent f z s) := Keeps.ite (hf z s) (.refl s)

@[simp] theorem keeps_judgeZone (z : Zone) (s : State) : Keeps s (judgeZone z s) :=
  keeps_ifPresent _ (fun _ _ => ((keeps_judgeWarn _ _).trans (keeps_judgeTrip _ _)).trans (keeps_judgeHot _ _)) z s

@[simp] theorem keeps_setClearTimer (t : Timer) (s : State) : Keeps s (setClearTimer t s) := keeps_withSupervisor _ _

@[simp] theorem keeps_clearRelief (s : State) : Keeps s (clearRelief s) :=
  (keeps_withSupervisor _ _).trans (keeps_clearCause _ _)

@[simp] theorem keeps_clearJudged (s : State) : Keeps s (clearJudged s) := by
  unfold clearJudged; repeat' split
  all_goals simp

@[simp] theorem keeps_setGrace (z : Zone) (t : Timer) (s : State) : Keeps s (setGrace z t s) := keeps_withSupervisor _ _

@[simp] theorem keeps_superviseFlame (z : Zone) (b : Bool) (s : State) : Keeps s (superviseFlame z b s) := by
  unfold superviseFlame
  split
  · exact (keeps_setGrace _ _ _).trans (Keeps.ite (.refl _) (keeps_trip _ _))
  · repeat' split
    all_goals simp

@[simp] theorem keeps_superviseAirflow (z : Zone) (b : Bool) (s : State) : Keeps s (superviseAirflow z b s) := by
  unfold superviseAirflow; repeat' split
  all_goals simp

@[simp] theorem keeps_superviseLevel (r : Role) (b : Bool) (s : State) : Keeps s (superviseLevel r b s) := by
  cases r <;> simp [superviseLevel]

@[simp] theorem keeps_superviseBeat (q : Byte) (s : State) : Keeps s (superviseBeat q s) := by
  unfold superviseBeat
  refine (keeps_withSupervisor _ _).trans ((Keeps.ite (keeps_withSat _ _) (.refl _)).trans (Keeps.ite ?_ (.refl _)))
  exact (keeps_withSupervisor _ _).trans (keeps_clearCause _ _)

@[simp] theorem keeps_masterRunOut (s : State) : Keeps s (masterRunOut s) := by
  refine (keeps_withSupervisor _ _).trans (Keeps.ite (.refl _) ?_)
  exact (keeps_raiseFault _ _).trans (keeps_push _ _)

@[simp] theorem keeps_superviseInterval (s : State) : Keeps s (superviseInterval s) := by
  unfold superviseInterval
  split
  · exact (keeps_withSupervisor _ _).trans (Keeps.ite (keeps_masterRunOut _) (.refl _))
  · simp

@[simp] theorem keeps_superviseReading (z : Zone) (q : Nat) (s : State) : Keeps s (superviseReading z q s) := by
  unfold superviseReading; repeat' split
  all_goals simp

/-! ### Readings -/

@[simp] theorem keeps_countRange (g : Int × Int) (v : Int) (q : Nat) (s : State) : Keeps s (countRange g v q s) := by
  unfold countRange; split <;> simp

@[simp] theorem keeps_airReading (z : Zone) (v : Int) (q : Nat) (s : State) : Keeps s (airReading z v q s) :=
  (keeps_countRange _ _ _ _).trans ((keeps_withZone _ _ _).trans (keeps_superviseReading _ _ _))

@[simp] theorem keeps_lelReading (z : Zone) (v : Int) (q : Nat) (s : State) : Keeps s (lelReading z v q s) :=
  ((keeps_countRange _ _ _ _).trans ((keeps_withZone _ _ _).trans (keeps_superviseReading _ _ _))).trans
    (Keeps.ite (keeps_clearJudged _) (.refl _))

@[simp] theorem keeps_webReading (c : Circuit) (v : Int) (q : Nat) (s : State) : Keeps s (webReading c v q s) :=
  (keeps_countRange _ _ _ _).trans (keeps_withCircuit _ _ _)

@[simp] theorem keeps_speedReport (s : State) : Keeps s (speedReport s) :=
  (keeps_crossingTest s).trans (keeps_speedReportToPlan _)

@[simp] theorem keeps_trackerReport (r : TrackerReport) (s : State) : Keeps s (trackerReport r s) := by
  cases r
  · exact .refl _
  · exact keeps_speedReport _
  · exact (keeps_speedReport _).trans (keeps_clearCause _ _)
  · exact Keeps.ite (keeps_speedLost _) (.refl _)

@[simp] theorem keeps_trackerStep (r : Tracker × TrackerReport) (s : State) : Keeps s (trackerStep r s) :=
  (keeps_withTracker _ _).trans (keeps_trackerReport _ _)

@[simp] theorem keeps_speedReading (v : Int) (q : Nat) (s : State) : Keeps s (speedReading v q s) :=
  (Keeps.ite (keeps_countKindMismatch s) (.refl s)).trans (keeps_trackerStep _ _)

@[simp] theorem keeps_positionReading (n q : Nat) (s : State) : Keeps s (positionReading n q s) := by
  have stored : Keeps s (s.withTracker { s.tracker with lastPosition := some n }) := keeps_withTracker _ _
  refine (Keeps.refl s).ite ?_
  dsimp only
  split
  · exact stored
  · refine stored.trans ?_
    unfold positionFrom
    split <;> simp

@[simp] theorem keeps_routeReading (ch : Nat) (v : Half) (q : Nat) (s : State) : Keeps s (routeReading ch v q s) := by
  unfold routeReading
  split <;> simp

/-! ### Levels -/

@[simp] theorem keeps_proveZone (z : Zone) (s : State) : Keeps s (proveZone z s) := keeps_withZone _ _ _

@[simp] theorem keeps_purgeTested (s : State) : Keeps s (purgeTested s) := by unfold purgeTested; split <;> simp

@[simp] theorem keeps_reportTransition (r : Role) (b : Bool) (s : State) : Keeps s (reportTransition r b s) := by
  cases r <;> simp only [reportTransition, Keeps.refl]
  · exact (keeps_superviseFlame _ _ _).trans (Keeps.ite (keeps_proveZone _ _) (.refl _))
  · exact (keeps_superviseAirflow _ _ _).trans (keeps_purgeTested _)
  · exact Keeps.ite (keeps_webBreak _) (.refl _)

@[simp] theorem keeps_changeLevel (ch : Nat) (e : Entry) (old new : LevelRec) (s : State) :
    Keeps s (changeLevel ch e old new s) := by
  refine (keeps_withEntry s ch { e with level := some new }).trans ?_
  dsimp only [changeLevel]
  split
  · exact (keeps_reportTransition _ _ _).trans (keeps_forwardLevels _ _ _)
  · exact .refl _

@[simp] theorem keeps_routeLevel (ch : Nat) (b : Bool) (s : State) : Keeps s (routeLevel ch b s) := by
  unfold routeLevel levelHanded
  repeat' split
  all_goals simp

/-! ### Copied frames -/

@[simp] theorem keeps_takeMode (m : PressMode) (s : State) : Keeps s (takeMode m s) := by
  unfold takeMode
  refine Keeps.ite (.refl _) ((keeps_withLine _ _).trans (Keeps.ite (keeps_push _ _) ?_))
  exact Keeps.ite (keeps_clearCause _ _) (.refl _)

@[simp] theorem keeps_destFromBeat (a : Addr) (s : State) : Keeps s (destFromBeat a s) := by
  unfold destFromBeat
  split
  · simp
  · exact keeps_withOutlet
  · exact keeps_withOutlet

@[simp] theorem keeps_copyBeat (a : Addr) (q x : Byte) (s : State) : Keeps s (copyBeat a q x s) := by
  have supervised := (keeps_destFromBeat a s).trans (keeps_superviseBeat q _)
  unfold copyBeat
  split
  · exact supervised.trans (keeps_takeMode _ _)
  · exact supervised.trans (keeps_countKindMismatch _)

@[simp] theorem keeps_copyFrame (o : List Byte) (s : State) : Keeps s (copyFrame o s) := by
  unfold copyFrame copyReading copyLevel
  dsimp only
  split
  · simp
  · exact Keeps.ite (keeps_routeReading _ _ _ _) (keeps_countKindMismatch _)
  · exact Keeps.ite (keeps_routeLevel _ _ _) (keeps_countKindMismatch _)
  all_goals exact .refl s

/-! ### The planner's answer to an ASK -/

/-- A retagged plan has its steps' kinds but for the grant's speed, and its steps' progress (R116). -/
theorem Plan.Fits.retagged {a : List Row} {x : Int} {p : Plan} (v : Int) (tag : Byte) (h : p.Fits a x) :
    (p.retagged v tag).Fits a x := by
  have step : ∀ t : PlanStep, (t.regranted v).done = t.done ∧
      ∀ w, (t.regranted v).kind = .setExhaust w ↔ t.kind = .setExhaust w := fun t => by
    unfold PlanStep.regranted
    split
    · rename_i hk
      simp [hk]
    · simp
  have length : (p.retagged v tag).steps.length = p.steps.length := List.length_map _
  have waits : (p.retagged v tag).exhaustWaits = p.exhaustWaits := by
    rw [Bool.eq_iff_iff, exhaustWaits_iff, exhaustWaits_iff]
    simp [Plan.retagged, step]
  refine ⟨length ▸ h.head, fun i t ht => ?_, length ▸ h.length, fun r hr t w ht hw => ?_, ?_⟩
  · obtain ⟨u, hu, rfl⟩ := Option.map_eq_some_iff.mp (List.getElem?_map ▸ ht)
    rw [(step u).1]
    exact h.done i u hu
  · obtain ⟨u, hu, rfl⟩ := List.mem_map.mp ht
    exact h.carries r hr u w hu (((step u).2 w).mp hw)
  · rw [waits, length]
    exact h.room

theorem keeps_buildAsked {v : Int} {g : Byte} {j : Nat} {r : Row} {s : State} (hr : s.store.active[j]? = some r) :
    Keeps s (buildAsked v g j r s) := by
  have sent : ∀ st, (sendGrant st g (discardPlan s)).store.active[j]? = some r := fun st => by
    rw [(steady_sendGrant st g _).store]
    exact hr
  unfold buildAsked
  refine (keeps_discardPlan s).trans (Keeps.ite ?_ ?_)
  · exact (keeps_sendGrant _ _ _).trans (keeps_installPlan ((stepsOf_raiseSteps _ j r v).fits (sent _) _ _ _ _))
  · dsimp only
    split
    · exact keeps_installPlan ((stepsOf_lowerSteps _ j r v _).fits hr _ _ _ _)
    · exact (keeps_sendGrant _ _ _).trans
        (keeps_installPlan ((stepsOf_lowerSteps _ j r v _).fits (sent _) _ _ _ _))

@[simp] theorem keeps_answerAsk (v : Option Int) (g : Byte) (s : State) : Keeps s (answerAsk v g s) := by
  unfold answerAsk
  refine (keeps_sendGrant _ _ _).ite ((keeps_sendGrant _ _ _).ite ?_)
  split
  · simp
  split
  · simp
  rename_i v _ j _
  refine (keeps_sendGrant _ _ _).ite (Keeps.ite ?_ ?_)
  · exact (keeps_mapPlan (Plan.retagged v g) (fun _ _ _ => Plan.Fits.retagged v g) s).trans (keeps_sendGrant _ _ _)
  · split
    · rename_i hr
      exact keeps_buildAsked hr
    · simp

@[simp] theorem keeps_takeAsk (a : Addr) (g : Byte) (v : Half) (s : State) : Keeps s (takeAsk a g v s) := by
  have tagged : Keeps s (setLastTag g (destFromAsk a s)) :=
    Keeps.trans (t := destFromAsk a s) keeps_withOutlet keeps_withPlanner
  unfold takeAsk
  refine tagged.trans (Keeps.ite (keeps_answerAsk _ _ _) ?_)
  exact (keeps_countKindMismatch _).trans (keeps_answerAsk _ _ _)

/-! ### The end of an event -/

@[simp] theorem keeps_boundCeiling (b : Int) (s : State) : Keeps s (boundCeiling b s) := by
  unfold boundCeiling
  exact Keeps.ite (Keeps.trans keeps_withPlanner (keeps_sendUnasked _ _)) (.refl s)

@[simp] theorem keeps_zoneFromRow (r : Row) (z : Zone) (s : State) : Keeps s (zoneFromRow r z s) := by
  unfold zoneFromRow; split <;> simp

/-- Row 0 taken in READY, where no plan stands (R68). -/
theorem keeps_commitReady {r : Row} {s : State} (h : s.planner.plan = none) : Keeps s (commitReady r s) := by
  have row : Keeps s (s.withPlanner { s.planner with inForce := s.planner.inForce.fromRow r }) := keeps_withoutPlan h
  have loops : ∀ u, Keeps u (forCircuits (fun c => setSetpoint c (r.chill.get c)) (forZones (zoneFromRow r) u)) :=
    fun u => (keeps_forZones _ (keeps_zoneFromRow r) u).trans
      (keeps_forCircuits _ (fun c s => keeps_setSetpoint c (r.chill.get c) s) _)
  exact (row.trans (keeps_flushTransit _)).trans ((loops _).trans (keeps_boundCeiling _ _))

@[simp] theorem keeps_boundByGrantRow (s : State) : Keeps s (boundByGrantRow s) := by
  unfold boundByGrantRow; split <;> simp

@[simp] theorem keeps_commitRun (s : State) : Keeps s (commitRun s) := by
  unfold commitRun
  split
  · simp
  · rename_i j _
    have bound : Keeps s (boundByGrantRow (lowerGrantRow j s)) :=
      Keeps.trans (t := lowerGrantRow j s) keeps_withPlanner (keeps_boundByGrantRow _)
    dsimp only
    split
    · exact bound
    · rename_i hr
      exact bound.trans (keeps_installPlan ((stepsOf_adjustSteps _ j _).fits hr _ _ _ _))

/-- A commit is carried out where no plan stands, so no plan reads the table it replaces (R66, R67). -/
theorem keeps_carryOut {s : State} (h : s.planner.plan = none) : Keeps s (carryOut s) := by
  have taken : Keeps s (s.withStore { s.store with active := s.store.shadow, status := .done }) :=
    ⟨⟨rfl, rfl, rfl⟩, fun c =>
      { c with
        active := c.shadow
        plan := fun p hp => by rw [State.withStore_planner, h] at hp; cases hp }⟩
  refine taken.trans ?_
  unfold carryOut
  dsimp only
  split
  · split
    · exact keeps_commitReady h
    · exact .refl _
  · exact keeps_commitRun _
  all_goals exact .refl _

@[simp] theorem keeps_settleStore (s : State) : Keeps s (settleStore s) := by
  unfold settleStore
  split
  · rename_i due
    refine keeps_carryOut ?_
    have safe := due.2
    simp only [State.safePoint, Bool.and_eq_true, Option.isNone_iff_eq_none] at safe
    exact safe.1.2
  · exact .refl s

@[simp] theorem keeps_closeEvent (s : State) : Keeps s (closeEvent s) :=
  ((keeps_settleStore s).trans (keeps_driveStage _)).trans ((keeps_payGrants _).trans (keeps_sweepFaults _))

/-! ### The entry into HEATUP -/

/-- The ring interface's counts, the through buffer's depth and the port are the same, and under a condition the capacities are
kept. -/
structure KeepsIf (c : Prop) (s t : State) : Prop extends Conveyed s t where
  keeps : c → Keeps s t

theorem Keeps.when {s t : State} (c : Prop) (h : Keeps s t) : KeepsIf c s t := ⟨h.toConveyed, fun _ => h⟩

theorem KeepsIf.trans {c : Prop} {s t u : State} (h : KeepsIf c s t) (k : Keeps t u) : KeepsIf c s u :=
  ⟨h.toConveyed.trans k.toConveyed, fun hc => (h.keeps hc).trans k⟩

theorem KeepsIf.mono {c d : Prop} {s t : State} (h : KeepsIf c s t) (k : d → c) : KeepsIf d s t :=
  ⟨h.toConveyed, fun hd => h.keeps (k hd)⟩

/-- The entry into HEATUP takes the in-force set from row 0, toward which a plan that stood would not fit (R81, R84). -/
theorem keepsIf_enterHeatup (s : State) : KeepsIf (s.planner.plan = none) s (enterHeatup s) := by
  unfold enterHeatup
  refine KeepsIf.trans ?_ ((keeps_enterLine _ _).trans (keeps_sensorJudged _))
  exact ⟨⟨rfl, rfl, rfl⟩, fun h => keeps_withoutPlan h⟩

/-! ### Orders -/

@[simp] theorem keeps_forgetRole (r : Role) (s : State) : Keeps s (forgetRole r s) := by
  unfold forgetRole; split <;> simp

@[simp] theorem keeps_superviseRederived (a b : Entry) (s : State) : Keeps s (superviseRederived a b s) := by
  unfold superviseRederived; repeat' split
  all_goals simp

@[simp] theorem keeps_writeMapTaken (ch : Nat) (f : MapFields) (e : Entry) (s : State) :
    Keeps s (writeMapTaken ch f e s) := by
  refine (keeps_withEntry s ch (e.written f)).trans (Keeps.trans (Keeps.ite ?_ ?_) (keeps_purgeTested _))
  · exact (keeps_forgetRole _ _).trans (keeps_forgetRole _ _)
  · exact keeps_superviseRederived _ _ _

theorem keeps_writeMapBody (d : List Byte) (s : State) : Keeps s (writeMapBody d s).state := by
  unfold writeMapBody
  split
  · exact .refl s
  split
  · exact .refl s
  split
  · exact .refl s
  split
  · exact .refl s
  · exact keeps_writeMapTaken _ _ _ s

/-- A withdrawal changes the commit status alone. -/
theorem withdrawn_tables (t : Store) : t.withdrawn.active = t.active ∧ t.withdrawn.shadow = t.shadow := by
  unfold Store.withdrawn; split <;> exact ⟨rfl, rfl⟩

theorem keeps_writeShadow {l : List Row} {s : State}
    (h : s.store.shadow.length ≤ Config.tableCapacity → l.length ≤ Config.tableCapacity) :
    Keeps s (writeShadow l s) := by
  obtain ⟨active, shadow⟩ := withdrawn_tables { s.store with shadow := l }
  exact keeps_withStore active (by rw [shadow]; exact h)

theorem keeps_writeRowBody (d : List Byte) (s : State) : Keeps s (writeRowBody d s).state := by
  unfold writeRowBody
  split
  · exact .refl s
  dsimp only
  split
  · exact .refl s
  rename_i i block small
  split
  · exact keeps_writeShadow fun h => (List.length_take_le' _ _).trans h
  split
  · exact .refl s
  split
  · exact keeps_writeShadow fun h => by rwa [List.length_set]
  split
  · rename_i last
    exact keeps_writeShadow fun _ => by rw [List.length_append, List.length_singleton]; omega
  · exact .refl s

theorem keeps_withdrawn (s : State) : Keeps s (s.withStore s.store.withdrawn) := by
  obtain ⟨active, shadow⟩ := withdrawn_tables s.store
  exact keeps_withStore active (by rw [shadow]; exact id)

theorem keeps_commitBody (s : State) : Keeps s (commitBody s).state := by
  unfold commitBody
  split
  · exact keeps_withdrawn s
  · exact keeps_withStore rfl id

@[simp] theorem keeps_keepMinFire (id : Nat) (s : State) : Keeps s (keepMinFire id s) := by
  unfold keepMinFire; split <;> simp

@[simp] theorem keeps_refreshBurner (z : Zone) (s : State) : Keeps s (refreshBurner z s) :=
  keeps_ifPresent _ (fun _ _ => keeps_withZone _ _ _) z s

@[simp] theorem keeps_refreshValve (c : Circuit) (s : State) : Keeps s (refreshValve c s) := by
  unfold refreshValve; split <;> simp

@[simp] theorem keeps_paramEffect (id v : Nat) (s : State) : Keeps s (paramEffect id v s) := by
  unfold paramEffect
  split
  · exact (keeps_boundCeiling _ _).ite (.refl s)
  · exact (keeps_forZones _ keeps_refreshBurner s).ite (.refl s)
  · exact (keeps_forCircuits _ keeps_refreshValve s).ite (.refl s)
  · exact keeps_forZones _ (keeps_ifPresent _ keeps_judgeWarn) s
  · exact keeps_forZones _ (keeps_ifPresent _ keeps_judgeTrip) s
  · exact keeps_forZones _ (keeps_ifPresent _ keeps_judgeHot) s
  · exact .refl s

@[simp] theorem keeps_writeParamTaken (id v : Nat) (s : State) : Keeps s (writeParamTaken id v s) :=
  (Keeps.refl s).ite ((keeps_keepMinFire id s).trans ((keeps_withAgent _ _).trans (keeps_paramEffect _ _ _)))

theorem keeps_writeParamBody (d : List Byte) (s : State) : Keeps s (writeParamBody d s).state := by
  unfold writeParamBody
  split
  · dsimp only
    split
    · exact .refl s
    · split
      · exact .refl s
      · split
        · exact .refl s
        · exact keeps_writeParamTaken _ _ s
  · exact .refl s

@[simp] theorem keeps_fixPresence (s : State) : Keeps s (fixPresence s) :=
  ((keeps_withLine _ _).trans (keeps_withZones _ _)).trans ((keeps_withCircuits _ _).trans (keeps_withSupervisor _ _))

theorem keeps_startBody (s : State) : Keeps s (startBody s).state := by
  unfold startBody
  split
  · split
    · exact .refl s
    · exact (keeps_fixPresence s).trans (keeps_enterPurge _)
  · exact .refl s

theorem keeps_stopBody (s : State) : Keeps s (stopBody s).state := by
  unfold stopBody
  split
  · exact keeps_enterCooldown s
  · exact .refl s

theorem keeps_clearLockoutBody (s : State) : Keeps s (clearLockoutBody s).state := by
  unfold clearLockoutBody
  split
  · exact keeps_enterCold s
  · exact .refl s

/-- RESTART enters HEATUP from BREAK, where no plan stands (R84, R92). -/
theorem keepsIf_restartBody (s : State) :
    KeepsIf (s.line.state = .brk → s.planner.plan = none) s (restartBody s).state := by
  unfold restartBody
  split
  · rename_i taken
    have entered := (keepsIf_enterHeatup (emptyStack s)).mono (d := s.line.state = .brk → s.planner.plan = none)
      fun h => h taken.1
    exact ⟨(keeps_emptyStack s).toConveyed.trans entered.toConveyed, fun h => (keeps_emptyStack s).trans (entered.keeps h)⟩
  · exact (Keeps.refl s).when _

theorem keepsIf_lineBody (d : List Byte) (s : State) :
    KeepsIf (s.line.state = .brk → s.planner.plan = none) s (lineBody d s).state := by
  unfold lineBody
  split
  · exact (keeps_startBody s).when _
  · exact (keeps_stopBody s).when _
  · exact keepsIf_restartBody s
  · exact (keeps_clearLockoutBody s).when _
  · exact (Keeps.refl s).when _

theorem keeps_faultTakeBody (s : State) : Keeps s (faultTakeBody s).state := by
  unfold faultTakeBody
  split
  · exact .refl s
  · exact (keeps_withFaults _ _).trans (keeps_sweepFaults _)

/-! A read order changes nothing, whatever its data. -/

theorem readPlain_state (f : State → List Byte) (d : List Byte) (s : State) : (readPlain f d s).state = s := by
  unfold readPlain; split <;> rfl

theorem readZoneBody_state (d : List Byte) (s : State) : (readZoneBody d s).state = s := by
  unfold readZoneBody; repeat' split
  all_goals rfl

theorem readChillBody_state (d : List Byte) (s : State) : (readChillBody d s).state = s := by
  unfold readChillBody; repeat' split
  all_goals rfl

theorem readPlanBody_state (d : List Byte) (s : State) : (readPlanBody d s).state = s := by
  unfold readPlanBody; repeat' split
  all_goals rfl

theorem readMapBody_state (d : List Byte) (s : State) : (readMapBody d s).state = s := by
  unfold readMapBody; repeat' split
  all_goals rfl

theorem readRowBody_state (d : List Byte) (s : State) : (readRowBody d s).state = s := by
  unfold readRowBody; repeat' split
  all_goals rfl

theorem readParamBody_state (d : List Byte) (s : State) : (readParamBody d s).state = s := by
  unfold readParamBody; repeat' split
  all_goals rfl

theorem keeps_withoutData {body : State → Answer} (hb : ∀ s, Keeps s (body s).state) (d : List Byte) (s : State) :
    Keeps s (withoutData body d s).state := by
  unfold withoutData
  split
  · exact hb s
  · exact .refl s

theorem keeps_of_eq {s t : State} (h : t = s) : Keeps s t := h ▸ .refl s

/-- Every order's body keeps the counts and the port; and the capacities, where no plan stands in BREAK (R84). -/
theorem keepsIf_orderBody (code : Nat) (d : List Byte) (s : State) :
    KeepsIf (s.line.state = .brk → s.planner.plan = none) s (orderBody code d s).state := by
  unfold orderBody
  split
  · exact (keeps_of_eq (readPlain_state _ d s)).when _
  · exact (keeps_of_eq (readZoneBody_state d s)).when _
  · exact (keeps_of_eq (readChillBody_state d s)).when _
  · exact (keeps_of_eq (readPlain_state _ d s)).when _
  · exact (keeps_of_eq (readPlanBody_state d s)).when _
  · exact (keeps_of_eq (readPlain_state _ d s)).when _
  · exact (keeps_of_eq (readMapBody_state d s)).when _
  · exact (keeps_of_eq (readRowBody_state d s)).when _
  · exact (keeps_of_eq (readParamBody_state d s)).when _
  · exact (keeps_of_eq (readPlain_state _ d s)).when _
  · exact (keeps_writeMapBody d s).when _
  · exact (keeps_writeRowBody d s).when _
  · split
    · exact (keeps_commitBody s).when _
    · exact (Keeps.refl s).when _
  · exact (keeps_withoutData keeps_withdrawn d s).when _
  · exact (keeps_writeParamBody d s).when _
  · exact keepsIf_lineBody d s
  · refine Keeps.when _ ?_
    unfold setHoldBody
    split
    · exact keeps_withHolds _ _
    · exact .refl s
  · refine Keeps.when _ ?_
    unfold setFaultEnableBody
    split
    · exact keeps_withFaults _ _
    · exact .refl s
  · exact (keeps_withoutData keeps_faultTakeBody d s).when _
  · exact (keeps_withoutData (fun s => keeps_withSat s _) d s).when _
  · refine (keeps_withoutData (fun s => ?_) d s).when _
    unfold softResetBody
    split <;> exact .refl s
  · exact (Keeps.refl s).when _

theorem keepsIf_decideOrder (src : Addr) (code : Nat) (d : List Byte) (s : State) :
    KeepsIf (s.line.state = .brk → s.planner.plan = none) s (decideOrder src code d s).state := by
  unfold decideOrder
  split
  · exact (Keeps.refl s).when _
  · exact keepsIf_orderBody code d s

/-- A SOFT_RESET keeps the through buffer, its counts and the port, and empties what else has a capacity (R197). -/
@[simp] theorem keeps_softResetEffect (s : State) : Keeps s (softResetEffect s) :=
  ⟨⟨rfl, List.length_map _, rfl⟩, fun h =>
    { through := (List.length_map _).trans_le h.through
      queue := Nat.zero_le _
      keys := List.nodup_nil
      run := h.run
      transit := Nat.zero_le _
      stack := Nat.zero_le _
      causes := List.nodup_nil
      channels := (List.length_map _).trans h.channels
      active := by
        show (s.store.softReset _).active.length ≤ _
        unfold Store.softReset
        split
        · exact h.active
        · exact Nat.zero_le _
      shadow := by
        show (s.store.softReset _).shadow.length ≤ _
        unfold Store.softReset
        split
        · exact h.shadow
        · exact Nat.zero_le _
      plan := nofun }⟩

@[simp] theorem keeps_reply (a : Addr) (code tag : Byte) (d : List Byte) (s : State) : Keeps s (reply a code tag d s) := by
  unfold reply
  refine (keeps_insertFrame _ s).trans (Keeps.ite (Keeps.ite ?_ (.refl _)) ?_)
  · exact keeps_softResetEffect _
  · exact keeps_withAgent _ _

theorem keepsIf_takeOrder (a : Addr) (code tag : Byte) (d : List Byte) (s : State) :
    KeepsIf (s.line.state = .brk → s.planner.plan = none) s (takeOrder a code tag d s) := by
  unfold takeOrder
  split
  · exact (keepsIf_decideOrder a code.toNat d s).trans ((keeps_closeEvent _).trans (keeps_reply _ _ _ _ _))
  · exact ((keeps_withSat s _).trans (keeps_closeEvent _)).when _

/-! ### Expiries -/

@[simp] theorem keeps_controlWork (s : State) : Keeps s (controlWork s) := by
  have loops : ∀ s, Keeps s (followDrives (forCircuits circuitPeriod (forZones zonePeriod s))) := fun s =>
    ((keeps_forZones _ keeps_zonePeriod s).trans (keeps_forCircuits _ keeps_circuitPeriod _)).trans (keeps_followDrives _)
  have settled : ∀ s, Keeps s (settleJudged s) := fun s => by unfold settleJudged; split <;> simp
  unfold controlWork
  refine (keeps_withLine s { s.line with control := some Config.controlMs, priorMinFire := none }).trans ?_
  refine (loops _).trans (((settled _).trans (keeps_bandReportToPlan _)).trans ?_)
  exact ((keeps_forZones _ keeps_judgeZone _).trans (keeps_clearJudged _)).trans (keeps_sensorTested _ _)

@[simp] theorem keeps_confirmWork (ch : Nat) (s : State) : Keeps s (confirmWork ch s) := by
  unfold confirmWork; split <;> simp

@[simp] theorem keeps_refreshWork (ch : Nat) (s : State) : Keeps s (refreshWork ch s) := by
  unfold refreshWork; split <;> simp

/-- The purge timer's expiry enters HEATUP, or stops the timer (R79). -/
theorem keepsIf_purgeWork (s : State) : KeepsIf (s.planner.plan = none) s (purgeWork s) := by
  unfold purgeWork
  split
  · exact keepsIf_enterHeatup s
  · exact (keeps_withLine s _).when _

/-- No plan stands outside RUN (R84). -/
theorem noPlan_outside_run {s : State} (h : LineSound s) (hs : s.line.state ≠ .run) : s.planner.plan = none :=
  Option.not_isSome_iff_eq_none.mp fun hp => hs (h.plan hp)

/-- No plan stands where the purge timer has run out (R78). -/
theorem noPlan_of_purge {s : State} (h : LineSound s) (due : timerDue s.line.purge = true) : s.planner.plan = none := by
  have purge := h.purge (by rw [eq_of_beq due]; rfl)
  exact noPlan_outside_run h (by rw [purge]; nofun)

/-- The work of an expiry keeps the counts and the port, and the capacities where the line's blocks are sound. -/
theorem keepsIf_expiryWork {c : Instr} {s : State} (due : runOut s c = true) :
    KeepsIf (LineSound s) s (expiryWork c s) := by
  cases c
  case purgeTimerExpiry => exact (keepsIf_purgeWork s).mono fun h => noPlan_of_purge h due
  case ringSilenceExpiry => exact Keeps.when _ keeps_withLink
  case confirmTimerExpiry ch => exact (keeps_confirmWork _ s).when _
  case refreshTimerExpiry ch => exact (keeps_refreshWork _ s).when _
  case ageTimer250 => exact (keeps_withTracker s _).when _
  case ageTimer1000 => exact (keeps_trackerStep _ s).when _
  case settleTimerExpiry => exact (keeps_readyFromHeatup s).when _
  case cooldownTimerExpiry => exact ((keeps_withLine s _).trans (keeps_cooldownJudged _)).when _
  case controlPeriod => exact (keeps_controlWork s).when _
  case headTimerAfter | soakComplete | slowedDelayExpiry => exact (keeps_fireWork s).when _
  case readyTimeout =>
    refine Keeps.when _ ?_
    show Keeps s (stallWork s)
    unfold stallWork
    split <;> simp
  case ignitionTimerExpiry z => exact ((keeps_withZone s z _).trans (keeps_trip _ _)).when _
  case clearTimerExpiry => exact (keeps_clearRelief s).when _
  case graceTimerExpiry z => exact ((keeps_setGrace z none s).trans (keeps_trip _ _)).when _
  case supervisionInterval => exact ((keeps_withSupervisor s _).trans (keeps_superviseInterval _)).when _
  all_goals exact (Keeps.refl s).when _

/-- A millisecond moves times alone (R101, R103 to R105). -/
theorem keeps_tick (s : State) : Keeps s (tick s) :=
  ⟨⟨rfl, rfl, rfl⟩, fun h =>
    { h with
      channels := (List.length_map _).trans h.channels
      plan := fun p hp => by
        obtain ⟨q, hq, rfl⟩ := Option.map_eq_some_iff.mp hp
        have fits := h.plan q hq
        unfold Plan.tick
        split
        · exact fits
        · exact fits.of_same rfl rfl rfl }⟩

end Sys2Proof.Machine

/-!
SUPPORT. One step keeps R19's sum, the through frame in its buffer and the capacities: what the ring interface itself does to them,
and the two statements.
-/

namespace Sys2Proof.Machine

/-! ### What one event keeps -/

/-- R19's sum with the port's through frame in the buffer, and, under a condition, the capacities. -/
structure EventKeeps (c : Prop) (s t : State) : Prop where
  ring : goodConserved s ∧ throughHeld s → goodConserved t ∧ throughHeld t
  capable : c → Capable s → Capable t

theorem EventKeeps.refl (c : Prop) (s : State) : EventKeeps c s s := ⟨id, fun _ => id⟩

theorem EventKeeps.trans {c d : Prop} {s t u : State} (h : EventKeeps c s t) (k : EventKeeps d t u) (cd : c → d) :
    EventKeeps c s u := ⟨fun r => k.ring (h.ring r), fun hc r => k.capable (cd hc) (h.capable hc r)⟩

/-- Work that leaves the counts, the depth of the buffer and the port leaves the sum and the frame (R19). -/
theorem KeepsIf.event {c : Prop} {s t : State} (h : KeepsIf c s t) : EventKeeps c s t where
  ring := by
    rintro ⟨good, held⟩
    refine ⟨?_, fun sending => ?_⟩
    · show t.link.wrap.rxGood = _
      rw [h.wrap, h.held]
      exact good
    · rw [h.port] at sending
      rw [← List.length_pos_iff, h.held, List.length_pos_iff]
      exact held sending
  capable hc := (h.keeps hc).capable

theorem Keeps.event {s t : State} (h : Keeps s t) (c : Prop) : EventKeeps c s t := (h.when c).event

/-! ### The arbiter (R16) -/

theorem capable_startInserted {f : OwnFrame} {q : List OwnFrame} {s : State} (h : Capable s)
    (hq : s.outlet.queue = f :: q) : Capable (startInserted f q s) := by
  have taken : Capable (s.withOutlet { s.outlet with queue := q, port := some (.inserted f), runCount := 0 }) :=
    { h with
      queue := (Nat.le_succ _).trans (by simpa [hq] using h.queue)
      keys := h.keys.sublist (hq ▸ (List.sublist_cons_self f q).filterMap OwnFrame.key)
      run := Nat.zero_le _ }
  unfold startInserted
  dsimp only
  split
  · exact (keeps_withAgent _ _).capable taken
  · exact taken

theorem capable_startThrough {s : State} (h : Capable s) : Capable (startThrough s) :=
  { h with run := Nat.min_le_right _ _ }

/-- The arbiter's three decisions. -/
theorem arbitrate_cases (s : State) :
    arbitrate s = s ∨ (∃ f q, s.outlet.queue = f :: q ∧ arbitrate s = startInserted f q s) ∨
      (s.link.through ≠ [] ∧ arbitrate s = startThrough s) := by
  unfold arbitrate
  split
  · exact .inl rfl
  · exact .inl rfl
  · rename_i hq
    exact .inr (.inl ⟨_, _, hq, rfl⟩)
  · rename_i ht _
    exact .inr (.inr ⟨by simp [ht], rfl⟩)
  · rename_i ht hq
    split
    · exact .inr (.inl ⟨_, _, hq, rfl⟩)
    · exact .inr (.inr ⟨by simp [ht], rfl⟩)

/-- The arbiter sends a through frame only from the buffer (R11, R16). -/
theorem eventKeeps_arbitrate (c : Prop) (s : State) : EventKeeps c s (arbitrate s) where
  ring := by
    have link := (outletAlone_arbitrate s).link
    rintro ⟨good, held⟩
    refine ⟨by rw [goodConserved, link]; exact good, fun sending => ?_⟩
    rw [link]
    obtain same | ⟨f, q, _, started⟩ | ⟨some, _⟩ := arbitrate_cases s
    · exact held (same ▸ sending)
    · rw [started, startInserted_outlet] at sending
      cases sending
    · exact some
  capable _ h := by
    obtain same | ⟨f, q, hq, started⟩ | ⟨_, started⟩ := arbitrate_cases s
    · rwa [same]
    · rw [started]
      exact capable_startInserted h hq
    · rw [started]
      exact capable_startThrough h

theorem eventKeeps_finish (c : Prop) (s : State) : EventKeeps c s (finish s) :=
  ((keeps_closeEvent s).event c).trans (eventKeeps_arbitrate c _) id

/-! ### The ends of a good frame (R6 to R11, R19) -/

/-- A good frame counted once more at one of its ends, the buffer as it is. -/
theorem eventKeeps_counted {c : Prop} {s : State} {w : WrapCounts} (x : Link)
    (hw : x.wrap = w) (hx : x.through = s.link.through)
    (sum : goodConserved s → w.rxGood = w.txThrough + w.rxConsumed + w.rxStripped + w.throughDrop +
      BitVec.ofNat 8 s.link.through.length) : EventKeeps c s (s.withLink x) where
  ring := by
    rintro ⟨good, held⟩
    refine ⟨?_, fun sending => ?_⟩
    · show x.wrap.rxGood = _
      rw [State.withLink_link, hw, hx]
      exact sum good
    · rw [State.withLink_link, hx]
      exact held sending
  capable _ h := { h with through := hx ▸ h.through }

/-- A stripped frame (R7). -/
theorem eventKeeps_strip (c : Prop) (s : State) : EventKeeps c s (stripWork (countGood s)) := by
  refine eventKeeps_counted _ rfl rfl fun good => ?_
  simp only [countGood, State.withLink_link, wrapInc, goodConserved] at good ⊢
  rw [good]
  ac_rfl

/-- A consumed frame (R8). -/
theorem eventKeeps_arrived (c : Prop) (s : State) : EventKeeps c s (arrived s) := by
  refine eventKeeps_counted _ rfl rfl fun good => ?_
  simp only [countGood, State.withLink_link, wrapInc, goodConserved] at good ⊢
  rw [good]
  ac_rfl

/-- A good frame that joins the through buffer, or is dropped (R11); what else of the part has changed meanwhile leaves its ring
interface. -/
theorem eventKeeps_joinThrough {c : Prop} {s u : State} (f : ThroughFrame) (hu : Keeps s u) (hl : u.link = s.link) :
    EventKeeps c s (joinThrough f (countGood u)) := by
  have through : (countGood u).link.through = s.link.through := by rw [← hl]; rfl
  unfold joinThrough
  split
  · rename_i room
    refine EventKeeps.trans (d := c) ⟨?_, fun _ h => ?_⟩ (eventKeeps_arbitrate c _) id
    · rintro ⟨good, _⟩
      refine ⟨?_, fun _ => by simp⟩
      simp only [countGood, State.withLink_link, wrapInc, goodConserved, hl, List.length_append,
        List.length_singleton, BitVec.ofNat_add] at good ⊢
      rw [good]
      ac_rfl
    · refine { hu.capable h with through := ?_ }
      simp only [State.withLink_link, List.length_append, List.length_singleton]
      exact room
  · refine ⟨?_, fun _ h => { hu.capable h with }⟩
    rintro ⟨good, held⟩
    refine ⟨?_, fun sending => ?_⟩
    · simp only [countWrap, countGood, State.withLink_link, wrapInc, goodConserved, hl] at good ⊢
      rw [good]
      ac_rfl
    · show (countGood u).link.through ≠ []
      rw [through]
      exact held (hu.port ▸ sending)

/-- A frame of case 3 or 4 of R6 at the through buffer. -/
theorem eventKeeps_forwardFrame (c : Prop) (o : List Byte) (s : State) :
    EventKeeps c s (forwardFrame o (countGood s)) := by
  unfold forwardFrame
  split
  · unfold joinDemand
    dsimp only
    split
    · exact eventKeeps_joinThrough _ (.refl s) rfl
    · rename_i e d _
      split
      · exact eventKeeps_joinThrough (u := s.withEntry _ { e with drive := some { d with refresh := Config.refreshMs } }) _
          (keeps_withEntry _ _ _) rfl
      · exact eventKeeps_joinThrough _ (.refl s) rfl
  · exact eventKeeps_joinThrough _ (.refl s) rfl

/-- Octets at the receiver, by the four ends of a good frame and the end of a bad one (R3, R6). -/
theorem eventKeeps_receive (o : List Byte) (s : State) : EventKeeps (LineSound s) s (receive o s) := by
  unfold receive
  split
  · split
    · unfold classify
      split
      · exact (eventKeeps_strip _ s).trans (eventKeeps_finish _ _) id
      · exact (eventKeeps_arrived _ s).trans (((keeps_takeAsk _ _ _ _).event _).trans (eventKeeps_finish _ _) id) id
      · exact (eventKeeps_arrived _ s).trans
          ((keepsIf_takeOrder _ _ _ _ _).event.trans (eventKeeps_arbitrate _ _) id)
          fun h brk => noPlan_outside_run (s := s) h fun run => nomatch brk.symm.trans run
      · exact (eventKeeps_forwardFrame _ o s).trans
          (((keeps_copyFrame o _).event _).trans (eventKeeps_finish _ _) id) id
    · have counted : Keeps s (checkErrorWork s) :=
        Keeps.ite ((keeps_withSat s _).trans (keeps_raiseFault _ _)) (keeps_withSat s _)
      exact (counted.event _).trans (eventKeeps_finish _ _) id
  · exact .refl _ s

/-! ### The end of a transmission (R11, R15) -/

theorem keeps_correctDemand (f : Option (Nat × Int)) (s : State) : Keeps s (correctDemand f s) := by
  unfold correctDemand
  split
  · simp
  · split
    · exact (Keeps.refl s).ite (keeps_originate _ _ _ s)
    · simp

/-- The port free, with no frame to hold. -/
theorem eventKeeps_freePort (c : Prop) (s : State) : EventKeeps c s (freePort s) :=
  ⟨fun r => ⟨r.1, nofun⟩, fun _ h => { h with }⟩

/-- A through frame that has left stood in the buffer, and is counted (R11, R19). -/
theorem eventKeeps_throughLeft {c : Prop} {s : State} (sending : s.outlet.port = some .through) :
    EventKeeps c s (throughLeft (freePort s)) where
  ring := by
    rintro ⟨good, held⟩
    obtain ⟨f, l, through⟩ := List.exists_cons_of_ne_nil (held sending)
    refine ⟨?_, nofun⟩
    simp only [goodConserved, throughLeft, freePort, State.withOutlet_link, State.withLink_link, wrapInc, through,
      List.length_cons, List.tail_cons, BitVec.ofNat_add] at good ⊢
    rw [good]
    ac_rfl
  capable _ h := { h with through := (List.tail_sublist s.link.through).length_le.trans h.through }

/-- An inserted frame that has left is counted where R19's sum does not read. -/
theorem eventKeeps_insertedLeft (c : Prop) (s : State) :
    EventKeeps c s (countWrap (fun w => { w with txInserted := wrapInc w.txInserted }) (freePort s)) :=
  (eventKeeps_freePort c s).trans (eventKeeps_counted (c := c) _ rfl rfl id) id

theorem eventKeeps_txDoneWork (c : Prop) (s : State) : EventKeeps c s (txDoneWork s) := by
  unfold txDoneWork
  split
  · exact .refl _ s
  · rename_i sending
    exact (eventKeeps_throughLeft sending).trans ((keeps_correctDemand _ _).event c) id
  · refine (eventKeeps_insertedLeft c s).trans (Keeps.event ?_ c) id
    exact (keeps_softResetEffect _).ite (.refl _)

/-! ### One step -/

/-- The power-on values have every invariant, whatever the timers (R21, R198). -/
theorem eventKeeps_powerOn (c : Prop) (phase : Phase) (own : Addr) (control interval : Timer) (s : State) :
    EventKeeps c s
      { State.powerOn phase own control interval with freeCount := s.freeCount, pending := s.pending } where
  ring _ := ⟨rfl, nofun⟩
  capable _ _ :=
    { through := Nat.zero_le _, queue := Nat.zero_le _, keys := List.nodup_nil, run := Nat.zero_le _,
      transit := Nat.zero_le _, stack := Nat.zero_le _, causes := List.nodup_nil, channels := List.length_replicate,
      active := Nat.zero_le _, shadow := Nat.zero_le _, plan := nofun }

theorem eventKeeps_exec {i : Instr} {s t : State} (h : exec i s = .next t) : EventKeeps (LineSound s) s t := by
  obtain ⟨phase, own, control, interval⟩ | _ | _ | o | _ | due := exec_effect h
  · exact eventKeeps_powerOn _ phase own control interval s
  · exact .refl _ s
  · exact Keeps.event keeps_withLink _
  · exact eventKeeps_receive o s
  · exact (eventKeeps_txDoneWork _ s).trans (eventKeeps_finish _ _) id
  · exact (keepsIf_expiryWork due).event.trans (eventKeeps_finish _ _) id

/-- A command taken off the queue leaves the line's blocks sound. -/
theorem lineSound_withPending {s : State} (q : List Instr) (h : LineSound s) : LineSound (s.withPending q) := { h with }

theorem eventKeeps_step {s t : State} (h : step s = .next t) : EventKeeps (LineSound s) s t := by
  unfold step at h
  split at h
  · cases h
    exact (keeps_tick s).event _
  · rename_i c rest _
    have taken : Keeps s (s.withPending rest) := ⟨⟨rfl, rfl, rfl⟩, fun c => { c with }⟩
    exact (taken.event _).trans (eventKeeps_exec h) (lineSound_withPending _)

/-- Settles O14: every end of a good frame counts it once, and the port's through frame stands in the buffer. -/
theorem goodFramesAreConserved : Obligations.GoodFramesAreConserved :=
  fun _ _ good held h => (eventKeeps_step h).ring ⟨good, held⟩

/-- Settles O59: each operation keeps the capacities it touches, and no plan stands where the in-force set or the table is
replaced. -/
theorem capacitiesAndOrderAreKept : Obligations.CapacitiesAndOrderAreKept := by
  intro s t line bounded sized keys causes ordered h
  have capable := (eventKeeps_step h).capable line (capable_iff.mpr ⟨bounded, sized, keys, causes, ordered⟩)
  exact capable_iff.mp capable

end Sys2Proof.Machine

/-!
SUPPORT. The work of an event, update by update: what the line controller, the planner, the context stack, the loops, the supervisor
and the end of an event do to the part is a run of these updates, and what every one of them keeps, the whole run keeps.
-/

namespace Sys2Proof.Machine

/-- The same readings are stored in two zone records. -/
def ZoneRec.sameReadings (r r' : ZoneRec) : Prop := r'.air = r.air ∧ r'.lel = r.lel

/-- The updates an event's work is made of, one after another. A line state with holds in effect is entered from such a state alone,
INSERT_LOSS does not fall, the FAULT output follows the entries, and readings stand. -/
inductive Work : State → State → Prop
  | refl (s : State) : Work s s
  | trans {s t u : State} : Work s t → Work t u → Work s u
  | outlet (s : State) (x : Outlet) : Work s (s.withOutlet x)
  | sat (s : State) (x : SatCounts) : s.sat.insertLoss.toNat ≤ x.insertLoss.toNat → Work s (s.withSat x)
  | drives (s : State) : Work s (followDrives s)
  | paid (s : State) : Work s (s.withChannels (s.channels.map Entry.paid))
  | store (s : State) (x : Store) : Work s (s.withStore x)
  | line (s : State) (x : Line) : (x.state.controlled = true → s.line.state.controlled = true) → Work s (s.withLine x)
  | planner (s : State) (x : Planner) : Work s (s.withPlanner x)
  | zones (s : State) (x : PerZone ZoneRec) : (∀ z, (s.zones.get z).sameReadings (x.get z)) → Work s (s.withZones x)
  | circuits (s : State) (x : PerCircuit CircuitRec) : (∀ c, (x.get c).web = (s.circuits.get c).web) →
      Work s (s.withCircuits x)
  | transit (s : State) (x : List TransitEntry) : Work s (s.withTransit x)
  | stack (s : State) (x : List Context) : Work s (s.withStack x)
  | supervisor (s : State) (x : Supervisor) : Work s (s.withSupervisor x)
  | faults (s : State) (x : Faults) : Work s (s.withFaults x.driven)
  | slot (s : State) (x : Slot) : Work s (setSlot x s)

/-- A choice between two results of work is a result of work. -/
theorem Work.ite {s t u : State} {c : Prop} [Decidable c] (h : Work s t) (k : Work s u) : Work s (if c then t else u) := by
  split <;> assumption

/-! ### What the work of an event leaves alone -/

/-- The blocks that work does not reach are the same; an entry keeps all but the contents of its drive record; readings stand, and
INSERT_LOSS does not fall. -/
structure Undisturbed (s t : State) : Prop where
  link : t.link = s.link
  holds : t.holds = s.holds
  tracker : t.tracker = s.tracker
  params : t.params = s.params
  freeCount : t.freeCount = s.freeCount
  pending : t.pending = s.pending
  loss : s.sat.insertLoss.toNat ≤ t.sat.insertLoss.toNat
  entry : ∀ ch e, s.entry ch = some e → ∃ d, t.entry ch = some { e with drive := d } ∧ d.isSome = e.drive.isSome
  zones : ∀ z, (s.zones.get z).sameReadings (t.zones.get z)
  circuits : ∀ c, (t.circuits.get c).web = (s.circuits.get c).web

/-- Every entry as it is. -/
theorem entry_self (s : State) (ch : Nat) (e : Entry) (h : s.entry ch = some e) :
    ∃ d, s.entry ch = some { e with drive := d } ∧ d.isSome = e.drive.isSome := ⟨e.drive, h, rfl⟩

theorem Undisturbed.refl (s : State) : Undisturbed s s :=
  ⟨rfl, rfl, rfl, rfl, rfl, rfl, le_rfl, entry_self s, fun _ => ⟨rfl, rfl⟩, fun _ => rfl⟩

theorem Undisturbed.trans {s t u : State} (h : Undisturbed s t) (k : Undisturbed t u) : Undisturbed s u where
  link := k.link.trans h.link
  holds := k.holds.trans h.holds
  tracker := k.tracker.trans h.tracker
  params := k.params.trans h.params
  freeCount := k.freeCount.trans h.freeCount
  pending := k.pending.trans h.pending
  loss := h.loss.trans k.loss
  entry ch e he := by
    obtain ⟨d, hd, some⟩ := h.entry ch e he
    obtain ⟨d', hd', some'⟩ := k.entry ch _ hd
    exact ⟨d', hd', some'.trans some⟩
  zones z := ⟨(k.zones z).1.trans (h.zones z).1, (k.zones z).2.trans (h.zones z).2⟩
  circuits c := (k.circuits c).trans (h.circuits c)

/-- A change of the map that changes the contents of drive records alone. -/
theorem undisturbed_mapDrives (s : State) (g : Entry → Entry)
    (hg : ∀ e, ∃ d, g e = { e with drive := d } ∧ d.isSome = e.drive.isSome) :
    Undisturbed s (s.withChannels (s.channels.map g)) :=
  { Undisturbed.refl s with
    entry := fun ch e he => by
      obtain ⟨d, hd, some⟩ := hg e
      refine ⟨d, ?_, some⟩
      show (s.channels.map g)[ch]? = _
      rw [List.getElem?_map, show s.channels[ch]? = _ from he, Option.map_some, hd] }

theorem undisturbed_followDrives (s : State) : Undisturbed s (followDrives s) :=
  undisturbed_mapDrives s _ fun _ => ⟨_, rfl, Option.isSome_map⟩

theorem undisturbed_paid (s : State) : Undisturbed s (s.withChannels (s.channels.map Entry.paid)) :=
  undisturbed_mapDrives s _ fun _ => ⟨_, rfl, Option.isSome_map⟩

theorem Work.undisturbed {s t : State} (h : Work s t) : Undisturbed s t := by
  induction h with
  | trans _ _ h k => exact h.trans k
  | drives s => exact undisturbed_followDrives s
  | paid s => exact undisturbed_paid s
  | sat s x loss => exact { Undisturbed.refl s with loss := loss }
  | zones s x readings => exact { Undisturbed.refl s with zones := readings }
  | circuits s x readings => exact { Undisturbed.refl s with circuits := readings }
  | _ s => exact { Undisturbed.refl s with }

/-! ### The FAULT output (R184) -/

/-- The FAULT output follows the entries. -/
def outputFollows (s : State) : Prop := s.faults.out = s.faults.output

theorem Work.outputFollows {s t : State} (h : Work s t) : outputFollows s → outputFollows t := by
  induction h with
  | trans _ _ h k => exact fun f => k (h f)
  | faults s x => exact fun _ => rfl
  | _ => exact id

/-! ### Demands under hold (R41) -/

/-- Where a channel is under hold, its hold is in effect and holds the sent demand at a value. -/
def HeldAt (ch : Nat) (v : Int) (s : State) : Prop :=
  ∀ e d, s.entry ch = some e → e.drive = some d → s.underHold e = true → d.held.isSome = true ∧ d.sent = v

/-- A hold in effect stands, and the sent demand with it (R40, R41). -/
theorem followed_of_held {d : DriveRec} (c : Int) (h : d.held.isSome = true) :
    (d.followed c true).held.isSome = true ∧ (d.followed c true).sent = d.sent := by
  rcases d with ⟨computed, sent, held, refresh, owed⟩
  cases held with
  | none => cases h
  | some v => simp [DriveRec.followed, DriveRec.follow]

theorem heldAt_followDrives {ch : Nat} {v : Int} {s : State} (h : HeldAt ch v s) : HeldAt ch v (followDrives s) := by
  intro e d he hd hold
  obtain ⟨x, hx, rfl⟩ := Option.map_eq_some_iff.mp ((List.getElem?_map ..).symm.trans he)
  obtain ⟨y, hy, rfl⟩ := Option.map_eq_some_iff.mp hd
  have hold : s.underHold x = true := hold
  obtain ⟨held, sent⟩ := h x y hx hy hold
  rw [hold, (followed_of_held _ held).2]
  exact ⟨(followed_of_held _ held).1, sent⟩

theorem heldAt_paid {ch : Nat} {v : Int} {s : State} (h : HeldAt ch v s) :
    HeldAt ch v (s.withChannels (s.channels.map Entry.paid)) := by
  intro e d he hd hold
  obtain ⟨x, hx, rfl⟩ := Option.map_eq_some_iff.mp ((List.getElem?_map ..).symm.trans he)
  obtain ⟨y, hy, rfl⟩ := Option.map_eq_some_iff.mp hd
  exact h x y hx hy hold

theorem underHold_iff {s : State} {e : Entry} :
    s.underHold e = true ↔ s.line.state.controlled = true ∧ s.groupHeld e.holdGroup = true := Bool.and_eq_true_iff

theorem heldAt_withLine {ch : Nat} {v : Int} {s : State} {x : Line}
    (hx : x.state.controlled = true → s.line.state.controlled = true) (h : HeldAt ch v s) : HeldAt ch v (s.withLine x) :=
  fun e d he hd hold => h e d he hd (underHold_iff.mpr ⟨hx (underHold_iff.mp hold).1, (underHold_iff.mp hold).2⟩)

/-- Work keeps the demands under hold: no update of it ends a hold that is in effect again at its end. -/
theorem Work.heldAt {s t : State} (h : Work s t) {ch : Nat} {v : Int} : HeldAt ch v s → HeldAt ch v t := by
  induction h with
  | trans _ _ h k => exact fun f => k (h f)
  | drives s => exact heldAt_followDrives
  | paid s => exact heldAt_paid
  | line s x entered => exact heldAt_withLine entered
  | _ => exact id

end Sys2Proof.Machine

/-!
SUPPORT. The shared operations as work: one lemma per operation of the line controller, the planner, the context stack, the loops and
the supervisor, and of what ends an event.
-/

namespace Sys2Proof.Machine

/-! ### Updates -/

theorem ZoneRec.sameReadings_refl (r : ZoneRec) : r.sameReadings r := ⟨rfl, rfl⟩

theorem PerZone.get_set {α : Type} (p : PerZone α) (z y : Zone) (a : α) :
    (p.set z a).get y = if y = z then a else p.get y := by cases z <;> cases y <;> rfl

theorem PerCircuit.get_set {α : Type} (p : PerCircuit α) (c k : Circuit) (a : α) :
    (p.set c a).get k = if k = c then a else p.get k := by cases c <;> cases k <;> rfl

@[simp] theorem PerZone.get_map {α β : Type} (f : Zone → α → β) (p : PerZone α) (z : Zone) :
    (p.map f).get z = f z (p.get z) := by cases z <;> rfl

@[simp] theorem PerCircuit.get_map {α β : Type} (f : Circuit → α → β) (p : PerCircuit α) (c : Circuit) :
    (p.map f).get c = f c (p.get c) := by cases c <;> rfl

/-- One zone's record with its readings as they are. -/
theorem work_withZone {s : State} {z : Zone} {r : ZoneRec} (h : (s.zones.get z).sameReadings r) :
    Work s (s.withZone z r) := by
  refine .zones s _ fun y => ?_
  rw [PerZone.get_set]
  split
  · rename_i same; exact same ▸ h
  · exact ZoneRec.sameReadings_refl _

/-- One circuit's record with its reading as it is. -/
theorem work_withCircuit {s : State} {c : Circuit} {r : CircuitRec} (h : r.web = (s.circuits.get c).web) :
    Work s (s.withCircuit c r) := by
  refine .circuits s _ fun k => ?_
  rw [PerCircuit.get_set]
  split
  · rename_i same; exact same ▸ h
  · rfl

/-- The line record in the state it is in. -/
theorem work_withLine {s : State} {x : Line} (h : x.state = s.line.state := by rfl) : Work s (s.withLine x) :=
  .line s x (h ▸ id)

/-- A count other than INSERT_LOSS. -/
theorem work_withSat {s : State} {x : SatCounts} (h : x.insertLoss = s.sat.insertLoss := by rfl) : Work s (s.withSat x) :=
  .sat s x (h ▸ le_rfl)

@[simp] theorem work_withPlan (s : State) (p : Option Plan) : Work s (s.withPlan p) := .planner s _

theorem work_forZones (f : Zone → State → State) (hf : ∀ z s, Work s (f z s)) (s : State) : Work s (forZones f s) :=
  ((hf _ _).trans (hf _ _)).trans ((hf _ _).trans (hf _ _))

theorem work_forCircuits (f : Circuit → State → State) (hf : ∀ c s, Work s (f c s)) (s : State) :
    Work s (forCircuits f s) := (hf _ _).trans (hf _ _)

/-! ### Faults, counters, frames -/

theorem satInc_ge (b : Byte) : b.toNat ≤ (satInc b).toNat := by
  unfold satInc
  split
  · exact le_rfl
  · rename_i small
    have : b.toNat ≠ 255 := fun k => small (BitVec.eq_of_toNat_eq k)
    have : b.toNat < 256 := b.isLt
    rw [BitVec.toNat_add]
    show b.toNat ≤ (b.toNat + 1) % 256
    omega

@[simp] theorem work_raiseFault (e : FaultCode) (s : State) : Work s (raiseFault e s) := .faults s _

@[simp] theorem work_sweepFaults (s : State) : Work s (sweepFaults s) := (Work.refl s).ite (.faults s _)

@[simp] theorem work_countKindMismatch (s : State) : Work s (countKindMismatch s) := .sat s _ le_rfl

@[simp] theorem work_insertFrame (f : OwnFrame) (s : State) : Work s (insertFrame f s) := by
  unfold insertFrame
  split
  · exact .outlet s _
  · exact .sat s _ (satInc_ge _)

@[simp] theorem work_insertAll (l : List OwnFrame) (s : State) : Work s (insertAll l s) := by
  induction l generalizing s with
  | nil => exact .refl s
  | cons f l ih => exact (work_insertFrame f s).trans (ih _)

@[simp] theorem work_oweGrant (st : GrantStatus) (tag : Byte) (s : State) : Work s (oweGrant st tag s) := .outlet s _

@[simp] theorem work_payGrants (s : State) : Work s (payGrants s) := (Work.outlet s _).trans (work_insertAll _ _)

@[simp] theorem work_sendGrant (st : GrantStatus) (tag : Byte) (s : State) : Work s (sendGrant st tag s) :=
  (work_payGrants s).trans (work_insertFrame _ _)

@[simp] theorem work_sendUnasked (st : GrantStatus) (s : State) : Work s (sendUnasked st s) := work_sendGrant _ _ s

@[simp] theorem work_forwardLevels (b : Bool) (l : List Nat) (s : State) : Work s (forwardLevels b l s) :=
  work_insertAll _ s

@[simp] theorem work_driveStage (s : State) : Work s (driveStage s) :=
  ((Work.drives s).trans (.paid _)).trans (work_insertAll _ _)

/-! ### Zone loops, chill loops, transit line -/

theorem sameReadings_withBurner (p : Params) (l : LineState) (r : ZoneRec) : r.sameReadings (r.withBurner p l) := ⟨rfl, rfl⟩

theorem sameReadings_flameProven (p : Params) (l : LineState) (r : ZoneRec) : r.sameReadings (r.flameProven p l) := by
  unfold ZoneRec.flameProven; split <;> exact ⟨rfl, rfl⟩

theorem sameReadings_period (p : Params) (l : LineState) (b : Bool) (r : ZoneRec) : r.sameReadings (r.period p l b) := by
  have judged : r.sameReadings (((if l.controlled then r.ramped.trimmed p else r).withBurner p l).judged p 2) := by
    split <;> exact ⟨rfl, rfl⟩
  unfold ZoneRec.period
  dsimp only
  split
  · have proven := sameReadings_flameProven p l (((if l.controlled then r.ramped.trimmed p else r).withBurner p l).judged p 2)
    exact ⟨proven.1.trans judged.1, proven.2.trans judged.2⟩
  · exact judged

theorem sameReadings_retargeted (p : Params) (l : LineState) (a f v : Int) (r : ZoneRec) :
    r.sameReadings (r.retargeted p l a f v) := ⟨rfl, rfl⟩

theorem sameReadings_entered (p : Params) (l : LineState) (t : ZoneTargets) (r : ZoneRec) :
    r.sameReadings (r.entered p l t) := by
  unfold ZoneRec.entered; split <;> exact ⟨rfl, rfl⟩

@[simp] theorem work_zonePeriod (z : Zone) (s : State) : Work s (zonePeriod z s) :=
  (work_withZone (sameReadings_period _ _ _ _)).ite (.refl s)

@[simp] theorem work_zoneEntry (z : Zone) (s : State) : Work s (zoneEntry z s) :=
  (work_withZone (sameReadings_entered _ _ _ _)).ite (.refl s)

@[simp] theorem work_retargetZone (z : Zone) (a f r : Int) (s : State) : Work s (retargetZone z a f r s) :=
  (work_withZone (sameReadings_retargeted _ _ _ _ _ _)).ite (.refl s)

theorem web_period (p : Params) (l : LineState) (r : CircuitRec) : (r.period p l).web = r.web := rfl

theorem web_judged (p : Params) (r : CircuitRec) (v : Int) :
    (({ r with setpoint := v } : CircuitRec).judged p).web = r.web := rfl

theorem web_entered (p : Params) (l : LineState) (v : Int) (r : CircuitRec) : (r.entered p l v).web = r.web := by
  unfold CircuitRec.entered; dsimp only; split <;> rfl

@[simp] theorem work_circuitPeriod (c : Circuit) (s : State) : Work s (circuitPeriod c s) :=
  (work_withCircuit (web_period _ _ _)).ite (.refl s)

@[simp] theorem work_circuitEntry (c : Circuit) (s : State) : Work s (circuitEntry c s) :=
  (work_withCircuit (web_entered _ _ _ _)).ite (.refl s)

@[simp] theorem work_setSetpoint (c : Circuit) (v : Int) (s : State) : Work s (setSetpoint c v s) :=
  (work_withCircuit (web_judged _ _ _)).ite (.refl s)

@[simp] theorem work_flushTransit (s : State) : Work s (flushTransit s) := .transit s _

@[simp] theorem work_matureAll (l : List TransitEntry) (s : State) : Work s (matureAll l s) := by
  induction l generalizing s with
  | nil => exact .refl s
  | cons e l ih => exact (work_setSetpoint _ _ s).trans (ih _)

@[simp] theorem work_advanceTransit (n : Nat) (s : State) : Work s (advanceTransit n s) :=
  (Work.transit s _).trans (work_matureAll _ _)

@[simp] theorem work_forceHead (s : State) : Work s (forceHead s) := by
  unfold forceHead
  split
  · exact .refl s
  · exact ((Work.transit s _).trans (work_setSetpoint _ _ _)).trans ((work_withSat (s := _)).trans (work_raiseFault _ _))

@[simp] theorem work_appendTransit (c : Circuit) (v : Int) (r : Nat) (s : State) : Work s (appendTransit c v r s) :=
  ((Work.refl s).ite (work_forceHead s)).trans (.transit _ _)

/-! ### Requests to the planner, the context stack -/

@[simp] theorem work_discardPlan (s : State) : Work s (discardPlan s) := .planner s _
@[simp] theorem work_freezePlan (s : State) : Work s (freezePlan s) := .planner s _
@[simp] theorem work_openExhaust (s : State) : Work s (openExhaust s) := .planner s _
@[simp] theorem work_withdrawGrant (s : State) : Work s (withdrawGrant s) := .planner s _
@[simp] theorem work_setOverspeed (b : Bool) (s : State) : Work s (setOverspeed b s) := .planner s _
@[simp] theorem work_setTarget (j : Nat) (s : State) : Work s (setTarget j s) := .planner s _
@[simp] theorem work_emptyStack (s : State) : Work s (emptyStack s) := .stack s _

@[simp] theorem work_holdCeiling (b : Int) (s : State) : Work s (holdCeiling b s) :=
  (Work.planner s _).trans (work_oweGrant _ _ _)

@[simp] theorem work_setGrant (g : Nat) (c : Int) (s : State) : Work s (setGrant g c s) :=
  (Work.planner s _).ite ((Work.planner s _).trans (work_sendUnasked _ _))

@[simp] theorem work_overlay (c : Cause) (s : State) : Work s (overlay c s) := by
  cases c
  case lelRelief =>
    exact (((work_discardPlan s).trans (work_openExhaust _)).trans (.drives _)).trans (work_holdCeiling _ _)
  case splice | speedLost => exact work_freezePlan s
  case masterLost | brk => exact work_discardPlan s

@[simp] theorem work_saveContext (c : Cause) (s : State) : Work s (saveContext c s) :=
  (work_overlay c s).trans (.stack _ _)

@[simp] theorem work_reactivate (c : Cause) (s : State) : Work s (reactivate c s) := (work_overlay c s).trans (.stack _ _)

@[simp] theorem work_overflowStack (s : State) : Work s (overflowStack s) :=
  (Work.stack s _).trans ((work_withSat (s := _)).trans (work_raiseFault _ _))

@[simp] theorem work_push (c : Cause) (s : State) : Work s (push c s) := by
  unfold push
  refine (Work.refl s).ite ((Work.refl s).ite ?_)
  split
  · exact (work_reactivate c s).ite (.refl s)
  · exact (work_saveContext c s).ite ((work_overflowStack s).trans (work_saveContext c _))

/-! ### State entries -/

@[simp] theorem work_grantAtEntry (l : LineState) (s : State) : Work s (grantAtEntry l s) :=
  (Work.refl s).ite (((work_withdrawGrant s).trans (work_sendUnasked _ _)).ite (work_withdrawGrant s))

/-- What a state entry does once the line is in the new state. -/
theorem work_entered (l : LineState) (s : State) :
    Work ((grantAtEntry l s).withLine
      { (grantAtEntry l s).line with state := l, purge := none, settle := none, cooldown := none }) (enterLine l s) :=
  (Work.supervisor _ _).trans (((work_forZones _ work_zoneEntry _).trans (work_forCircuits _ work_circuitEntry _)).trans
    (.drives _))

/-- A state entry, where holds take effect after it only if they did before (R39). -/
theorem work_enterLine {l : LineState} {s : State} (h : l.controlled = true → s.line.state.controlled = true) :
    Work s (enterLine l s) :=
  (work_grantAtEntry l s).trans ((Work.line _ _ (by rw [(grantAtEntry_rest l s).1]; exact h)).trans (work_entered l s))

@[simp] theorem work_enterCold (s : State) : Work s (enterCold s) := (work_flushTransit s).trans (work_enterLine (by nofun))

@[simp] theorem work_purgeJudged (s : State) : Work s (purgeJudged s) := work_withLine

@[simp] theorem work_enterPurge (s : State) : Work s (enterPurge s) := (work_enterLine (by nofun)).trans (work_purgeJudged _)

@[simp] theorem work_cooldownJudged (s : State) : Work s (cooldownJudged s) := (work_enterCold s).ite (.refl s)

@[simp] theorem work_enterCooldown (s : State) : Work s (enterCooldown s) :=
  (((work_emptyStack s).trans (work_flushTransit _)).trans (work_enterLine (by nofun))).trans
    ((work_withLine (s := _)).trans (work_cooldownJudged _))

@[simp] theorem work_tripLine (s : State) : Work s (tripLine s) :=
  (Work.refl s).ite
    ((((work_emptyStack s).trans (work_discardPlan _)).trans (work_flushTransit _)).trans (work_enterLine (by nofun)))

@[simp] theorem work_trip (e : FaultCode) (s : State) : Work s (trip e s) := (work_raiseFault e s).trans (work_tripLine _)

@[simp] theorem work_sensorTested (b : Bool) (s : State) : Work s (sensorTested b s) := (work_trip _ s).ite (.refl s)

@[simp] theorem work_lelWarning (s : State) : Work s (lelWarning s) :=
  ((Work.supervisor s _).trans (work_raiseFault _ _)).trans (work_push _ _)

@[simp] theorem work_masterAtReady (s : State) : Work s (masterAtReady s) := (work_push _ s).ite (.refl s)

@[simp] theorem work_speedLost (s : State) : Work s (speedLost s) := (work_raiseFault _ s).trans (work_push _ _)

theorem work_readyFromHeatup {s : State} (h : s.line.state.controlled = true) : Work s (readyFromHeatup s) :=
  (((work_enterLine fun _ => h).trans (.planner _ _)).trans (work_sendUnasked _ _)).trans
    (((work_lelWarning _).ite (.refl _)).trans (work_masterAtReady _))

theorem work_readyFromRun {s : State} (h : s.line.state.controlled = true) : Work s (readyFromRun s) :=
  ((work_enterLine fun _ => h).trans (.planner _ _)).trans ((work_sendUnasked _ _).trans (work_masterAtReady _))

theorem work_enterRun {s : State} (h : s.line.state.controlled = true) : Work s (enterRun s) :=
  (work_enterLine (l := .run) fun _ => h).trans
    (((work_speedLost _).ite (.refl _)).trans ((work_push _ _).ite (.refl _)))

@[simp] theorem work_webBreak (s : State) : Work s (webBreak s) :=
  (work_raiseFault .webBreak s).trans
    (((((work_push _ _).trans (work_discardPlan _)).trans (work_flushTransit _)).trans (work_enterLine (by nofun))).ite (.refl _))

/-! ### Plans -/

@[simp] theorem work_fireGrant (r : Option Request) (v : Int) (j : Nat) (s : State) : Work s (fireGrant r v j s) := by
  cases r
  · exact (Work.planner s _).trans (work_sendUnasked _ _)
  · exact (Work.planner s _).trans (work_sendGrant _ _ _)

@[simp] theorem work_stepEffect (r : Option Request) (k : StepKind) (s : State) : Work s (stepEffect r k s) := by
  cases k
  case setExhaust | setFan => exact .planner s _
  case setZone => exact (Work.planner s _).trans (work_retargetZone _ _ _ _ _)
  case queueChill => exact (Work.planner s _).trans (work_appendTransit _ _ _ _)
  case grant => exact work_fireGrant _ _ _ s

@[simp] theorem work_fireHead (p : Plan) (k : StepKind) (s : State) : Work s (fireHead p k s) :=
  ((work_withPlan s _).trans (work_stepEffect _ _ _)).trans (.drives _)

@[simp] theorem work_completePlan (p : Plan) (s : State) : Work s (completePlan p s) := by
  refine (work_withPlan s none).trans ?_
  unfold completePlan
  dsimp only
  split
  · rename_i run
    exact work_readyFromRun (by rw [run.1]; rfl)
  · exact .refl _

@[simp] theorem work_testHead (n : Nat) (s : State) : Work s (testHead n s) := by
  induction n generalizing s with
  | zero => exact .refl s
  | succ n ih =>
    unfold testHead
    split
    · exact .refl s
    split
    · exact work_completePlan _ s
    · exact (Work.refl s).ite (((work_fireHead _ _ s).trans (ih _)).ite (work_withPlan s _))

@[simp] theorem work_runPlan (s : State) : Work s (runPlan s) := by unfold runPlan; split <;> simp [Work.refl]

@[simp] theorem work_fireDue (p : Plan) (s : State) : Work s (fireDue p s) := by
  unfold fireDue
  split
  · exact .refl s
  · exact (work_fireHead _ _ s).trans (work_testHead _ _)

@[simp] theorem work_installPlan (p : Plan) (s : State) : Work s (installPlan p s) := by
  refine ((Work.planner s { s.planner with plan := some p, target := p.target }).trans ?_).trans (work_runPlan _)
  split
  · rename_i ready
    exact work_enterRun (by rw [ready]; rfl)
  · exact .refl _

@[simp] theorem work_stallPlan (p : Plan) (s : State) : Work s (stallPlan p s) := by
  have stalled : Work s (raiseFault .heatShortfall (s.withPlan none)) := (work_withPlan s none).trans (work_raiseFault _ _)
  unfold stallPlan
  split
  · exact stalled.trans (work_sendGrant _ _ _)
  · exact stalled

@[simp] theorem work_bandReportToPlan (s : State) : Work s (bandReportToPlan s) := by
  unfold bandReportToPlan
  split
  · exact .refl s
  split
  · exact work_runPlan s
  · exact .refl s

@[simp] theorem work_speedReportToPlan (s : State) : Work s (speedReportToPlan s) := by
  unfold speedReportToPlan
  split
  · exact .refl s
  split
  · exact work_runPlan s
  · exact .refl s

@[simp] theorem work_crossAbove (j : Nat) (r : Row) (s : State) : Work s (crossAbove j r s) :=
  ((Work.refl s).ite ((work_raiseFault _ s).trans (work_setOverspeed _ _))).ite
    ((work_raiseFault _ s).trans (work_installPlan _ _))

@[simp] theorem work_crossingTest (s : State) : Work s (crossingTest s) := by
  unfold crossingTest
  refine Work.ite ?_ (.refl s)
  split
  · exact .refl s
  split
  · split
    · exact .refl s
    · exact (work_installPlan _ s).ite ((work_crossAbove _ _ s).ite (work_setOverspeed _ s))
  · exact .refl s

/-! ### Clearance and restore -/

@[simp] theorem work_restorePlan (p : Plan) (s : State) : Work s (restorePlan p s) :=
  ((work_withPlan s _).trans (work_runPlan _)).ite (work_withPlan s _)

@[simp] theorem work_resumeAdjust (j : Nat) (r : Row) (s : State) : Work s (resumeAdjust j r s) :=
  (Work.refl s).ite (work_installPlan _ s)

@[simp] theorem work_resumePlan (q : Option Request) (j : Nat) (r : Row) (s : State) : Work s (resumePlan q j r s) := by
  cases q
  · exact work_resumeAdjust j r s
  · exact (work_installPlan _ s).ite (work_resumeAdjust j r s)

@[simp] theorem work_restoreDryer (b : Context) (g : Nat) (s : State) : Work s (restoreDryer b g s) := by
  unfold restoreDryer
  dsimp only
  split
  · exact (work_setTarget _ s).trans (work_resumePlan _ _ _ _)
  · exact work_setTarget _ s

@[simp] theorem work_restoreRest (b : Context) (g : Nat) (s : State) : Work s (restoreRest b g s) := by
  unfold restoreRest; split <;> simp

@[simp] theorem work_restore (b : Context) (s : State) : Work s (restore b s) := by
  unfold restore
  split
  · exact .refl s
  · exact (work_setGrant _ _ s).trans (work_restoreRest _ _ _)

@[simp] theorem work_popStack (s : State) : Work s (popStack s) := by
  unfold popStack
  split
  · exact (Work.stack s _).trans (work_restore _ _)
  · exact .stack s _

@[simp] theorem work_clearCause (c : Cause) (s : State) : Work s (clearCause c s) :=
  ((Work.stack s _).trans (work_popStack _)).ite (.refl s)

/-! ### The supervisor -/

@[simp] theorem work_judgeWarn (z : Zone) (s : State) : Work s (judgeWarn z s) :=
  (Work.supervisor s _).trans ((work_lelWarning _).ite (.refl _))

@[simp] theorem work_judgeTrip (z : Zone) (s : State) : Work s (judgeTrip z s) :=
  (Work.supervisor s _).trans ((work_trip _ _).ite (.refl _))

@[simp] theorem work_judgeHot (z : Zone) (s : State) : Work s (judgeHot z s) :=
  (Work.supervisor s _).trans ((work_trip _ _).ite (.refl _))

theorem work_ifPresent (f : Zone → State → State) (hf : ∀ z s, Work s (f z s)) (z : Zone) (s : State) :
    Work s (ifPresent f z s) := (hf z s).ite (.refl s)

@[simp] theorem work_judgeZone (z : Zone) (s : State) : Work s (judgeZone z s) :=
  work_ifPresent _ (fun _ _ => ((work_judgeWarn _ _).trans (work_judgeTrip _ _)).trans (work_judgeHot _ _)) z s

@[simp] theorem work_clearRelief (s : State) : Work s (clearRelief s) :=
  (Work.supervisor s _).trans (work_clearCause _ _)

@[simp] theorem work_clearJudged (s : State) : Work s (clearJudged s) :=
  (Work.refl s).ite ((Work.supervisor s _).ite ((Work.refl s).ite ((work_clearRelief s).ite (.supervisor s _))))

@[simp] theorem work_setGrace (z : Zone) (t : Timer) (s : State) : Work s (setGrace z t s) := .supervisor s _

@[simp] theorem work_superviseFlame (z : Zone) (b : Bool) (s : State) : Work s (superviseFlame z b s) := by
  have graced : ∀ t, Work s (setGrace z t s) := fun t => work_setGrace z t s
  exact ((graced none).trans ((Work.refl _).ite (work_trip _ _))).ite
    (((work_trip _ s).ite (graced _)).ite (.refl s))

@[simp] theorem work_superviseAirflow (z : Zone) (b : Bool) (s : State) : Work s (superviseAirflow z b s) :=
  (Work.refl s).ite ((work_trip _ s).ite ((work_raiseFault _ s).ite (.refl s)))

@[simp] theorem work_superviseLevel (r : Role) (b : Bool) (s : State) : Work s (superviseLevel r b s) := by
  cases r
  case flame => exact work_superviseFlame _ b s
  case airflow => exact work_superviseAirflow _ b s
  all_goals exact .refl s

@[simp] theorem work_superviseBeat (q : Byte) (s : State) : Work s (superviseBeat q s) :=
  (Work.supervisor s _).trans (((work_withSat (s := _)).ite (.refl _)).trans
    (((Work.supervisor _ _).trans (work_clearCause _ _)).ite (.refl _)))

@[simp] theorem work_masterRunOut (s : State) : Work s (masterRunOut s) :=
  (Work.supervisor s _).trans ((Work.refl _).ite ((work_raiseFault _ _).trans (work_push _ _)))

@[simp] theorem work_superviseInterval (s : State) : Work s (superviseInterval s) := by
  unfold superviseInterval
  split
  · exact (Work.supervisor s _).trans ((work_masterRunOut _).ite (.refl _))
  · exact .refl s

@[simp] theorem work_superviseReading (z : Zone) (q : Nat) (s : State) : Work s (superviseReading z q s) := by
  unfold superviseReading
  split
  · exact work_judgeZone z s
  · exact .refl s
  · exact (work_sensorTested _ s).ite (.refl s)

@[simp] theorem work_countRange (g : Int × Int) (v : Int) (q : Nat) (s : State) : Work s (countRange g v q s) :=
  (work_countKindMismatch s).ite (.refl s)

@[simp] theorem work_trackerReport (r : TrackerReport) (s : State) : Work s (trackerReport r s) := by
  have reported : Work s (speedReport s) := (work_crossingTest s).trans (work_speedReportToPlan _)
  cases r
  case quiet => exact .refl s
  case taken => exact reported
  case locked => exact reported.trans (work_clearCause _ _)
  case lost => exact (work_speedLost s).ite (.refl s)

@[simp] theorem work_purgeTested (s : State) : Work s (purgeTested s) := (work_purgeJudged s).ite (.refl s)

@[simp] theorem work_reportTransition (r : Role) (b : Bool) (s : State) : Work s (reportTransition r b s) := by
  have proven : ∀ z s, Work s (proveZone z s) := fun _ _ => work_withZone (sameReadings_flameProven _ _ _)
  cases r
  case flame z => exact (work_superviseFlame z b s).trans ((proven z _).ite (.refl _))
  case airflow z => exact (work_superviseAirflow z b s).trans (work_purgeTested _)
  case brk => exact (work_webBreak s).ite (.refl s)
  all_goals exact .refl s

@[simp] theorem work_takeMode (m : PressMode) (s : State) : Work s (takeMode m s) :=
  (Work.refl s).ite ((work_withLine (s := _)).trans ((work_push _ _).ite ((work_clearCause _ _).ite (.refl _))))

@[simp] theorem work_copyBeat (a : Addr) (q x : Byte) (s : State) : Work s (copyBeat a q x s) := by
  have dest : Work s (destFromBeat a s) := by
    unfold destFromBeat
    split
    · exact .refl s
    · exact .outlet s _
    · exact .outlet s _
  have supervised := dest.trans (work_superviseBeat q _)
  unfold copyBeat
  split
  · exact supervised.trans (work_takeMode _ _)
  · exact supervised.trans (work_countKindMismatch _)

/-! ### The planner's answer to an ASK -/

@[simp] theorem work_buildAsked (v : Int) (g : Byte) (j : Nat) (r : Row) (s : State) : Work s (buildAsked v g j r s) :=
  (work_discardPlan s).trans (((work_sendGrant _ _ _).trans (work_installPlan _ _)).ite
    (((Work.refl _).ite (work_sendGrant _ _ _)).trans (work_installPlan _ _)))

@[simp] theorem work_answerAsk (v : Option Int) (g : Byte) (s : State) : Work s (answerAsk v g s) := by
  have sent : ∀ st, Work s (sendGrant st g s) := fun st => work_sendGrant st g s
  unfold answerAsk
  refine (sent _).ite ((sent _).ite ?_)
  split
  · exact sent _
  split
  · exact sent _
  refine (sent _).ite (((work_withPlan s _).trans (work_sendGrant _ _ _)).ite ?_)
  split
  · exact work_buildAsked _ _ _ _ s
  · exact sent _

@[simp] theorem work_takeAsk (a : Addr) (g : Byte) (v : Half) (s : State) : Work s (takeAsk a g v s) :=
  ((Work.outlet s _).trans (.planner _ _)).trans
    ((work_answerAsk _ _ _).ite ((work_countKindMismatch _).trans (work_answerAsk _ _ _)))

/-! ### The end of an event -/

@[simp] theorem work_boundCeiling (b : Int) (s : State) : Work s (boundCeiling b s) :=
  ((Work.planner s _).trans (work_sendUnasked _ _)).ite (.refl s)

@[simp] theorem work_zoneFromRow (r : Row) (z : Zone) (s : State) : Work s (zoneFromRow r z s) := by
  unfold zoneFromRow
  split
  · exact work_retargetZone _ _ _ _ s
  · exact .refl s

@[simp] theorem work_commitReady (r : Row) (s : State) : Work s (commitReady r s) :=
  ((Work.planner s _).trans (work_flushTransit _)).trans
    (((work_forZones _ (work_zoneFromRow r) _).trans (work_forCircuits _ (fun c u => work_setSetpoint c _ u) _)).trans
      (work_boundCeiling _ _))

@[simp] theorem work_commitRun (s : State) : Work s (commitRun s) := by
  have bound : ∀ u, Work u (boundByGrantRow u) := fun u => by
    unfold boundByGrantRow
    split
    · exact work_boundCeiling _ u
    · exact .refl u
  unfold commitRun
  split
  · exact .refl s
  · rename_i j _
    have lowered : Work s (boundByGrantRow (lowerGrantRow j s)) := (Work.planner s _).trans (bound _)
    dsimp only
    split
    · exact lowered
    · exact lowered.trans (work_installPlan _ _)

@[simp] theorem work_settleStore (s : State) : Work s (settleStore s) := by
  refine Work.ite ((Work.store s { s.store with active := s.store.shadow, status := .done }).trans ?_) (.refl s)
  unfold carryOut
  dsimp only
  split
  · split
    · exact work_commitReady _ _
    · exact .refl _
  · exact work_commitRun _
  all_goals exact .refl _

@[simp] theorem work_closeEvent (s : State) : Work s (closeEvent s) :=
  ((work_settleStore s).trans (work_driveStage _)).trans ((work_payGrants _).trans (work_sweepFaults _))

@[simp] theorem work_arbitrate (s : State) : Work s (arbitrate s) := by
  have started : ∀ f q, Work s (startInserted f q s) := fun f q => by
    unfold startInserted
    dsimp only
    split
    · exact (Work.outlet s _).trans (.slot _ .free)
    · exact .outlet s _
  obtain same | ⟨f, q, _, h⟩ | ⟨_, h⟩ := arbitrate_cases s
  · rw [same]; exact .refl s
  · rw [h]; exact started f q
  · rw [h]; exact .outlet s _

@[simp] theorem work_finish (s : State) : Work s (finish s) := (work_closeEvent s).trans (work_arbitrate _)

end Sys2Proof.Machine

/-!
SUPPORT. Every command keeps the FAULT output in step with the entries and the demands under hold as they are, and ends at rest; and
so does a millisecond: the statements about rest and holds.
-/

namespace Sys2Proof.Machine

/-! ### Operations that keep the FAULT output and the demands under hold -/

/-- The FAULT output goes on following the entries, and demands under hold stand. -/
structure Orderly (s t : State) : Prop where
  output : outputFollows s → outputFollows t
  held : ∀ ch v, HeldAt ch v s → HeldAt ch v t

theorem Orderly.refl (s : State) : Orderly s s := ⟨id, fun _ _ => id⟩

theorem Orderly.trans {s t u : State} (h : Orderly s t) (k : Orderly t u) : Orderly s u :=
  ⟨fun f => k.output (h.output f), fun ch v f => k.held ch v (h.held ch v f)⟩

theorem Orderly.ite {s t u : State} {c : Prop} [Decidable c] (h : Orderly s t) (k : Orderly s u) :
    Orderly s (if c then t else u) := by split <;> assumption

theorem Work.orderly {s t : State} (h : Work s t) : Orderly s t := ⟨h.outputFollows, fun _ _ => h.heldAt⟩

/-- An update of blocks that neither the FAULT output nor the holds are read from. -/
theorem orderly_of_same {s t : State} (faults : t.faults = s.faults := by rfl) (channels : t.channels = s.channels := by rfl)
    (line : t.line = s.line := by rfl) (holds : t.holds = s.holds := by rfl) : Orderly s t where
  output := by unfold outputFollows; rw [faults]; exact id
  held ch v h e d he hd hold := by
    refine h e d (by unfold State.entry at he ⊢; rwa [← channels]) hd ?_
    unfold State.underHold State.groupHeld at hold ⊢
    rwa [line, holds] at hold

theorem entry_withEntry {s : State} {ch k : Nat} {e : Entry} (h : (s.entry ch).isSome = true) :
    (s.withEntry ch e).entry k = if k = ch then some e else s.entry k := by
  have room : ch < s.channels.length := by
    unfold State.entry at h
    rw [Option.isSome_iff_exists] at h
    exact (List.getElem?_eq_some_iff.mp h.choose_spec).1
  show (s.channels.set ch e)[k]? = _
  rw [List.getElem?_set]
  by_cases same : ch = k
  · subst same; simp [room]
  · rw [if_neg same, if_neg (Ne.symm same)]; rfl

/-- An entry changed in its level record or in its refresh timer. -/
theorem orderly_withEntry {s : State} {ch : Nat} {e e' : Entry} (he : s.entry ch = some e) (group : e'.holdGroup = e.holdGroup)
    (drive : ∀ d', e'.drive = some d' → ∃ d, e.drive = some d ∧ d'.held = d.held ∧ d'.sent = d.sent) :
    Orderly s (s.withEntry ch e') where
  output := id
  held k v h x d hx hd hold := by
    rw [entry_withEntry (by simp [he])] at hx
    split at hx
    · rename_i same
      cases hx
      obtain ⟨y, hy, held, sent⟩ := drive d hd
      rw [held, sent]
      refine h e y (same ▸ he) hy ?_
      unfold State.underHold at hold ⊢
      rwa [group] at hold
    · exact h x d hx hd hold

/-- A state outside HEATUP, READY and RUN has no channel under hold (R39). -/
theorem heldAt_of_uncontrolled {s : State} (h : s.line.state.controlled = false) (ch : Nat) (v : Int) : HeldAt ch v s :=
  fun _ _ _ _ hold => by rw [(underHold_iff.mp hold).1] at h; cases h

theorem output_of_none (f : Faults) (h : f.pending = 0) : f.output = false := by simp [Faults.output, h]

/-- A SOFT_RESET leaves no entry pending and no hold in effect (R42, R186, R197). -/
theorem orderly_softResetEffect (s : State) : Orderly s (softResetEffect s) :=
  ⟨fun _ => (output_of_none _ rfl).symm, fun ch v _ => heldAt_of_uncontrolled rfl ch v⟩

theorem orderly_forgetRole (r : Role) (s : State) : Orderly s (forgetRole r s) := by
  cases r
  case zoneAir | lel | chillWeb | speed | position => exact orderly_of_same
  all_goals exact .refl s

/-! ### Frames copied (R9) -/

theorem orderly_joinThrough (f : ThroughFrame) (s : State) : Orderly s (joinThrough f s) :=
  (Orderly.trans (t := s.withLink { s.link with through := s.link.through ++ [f] }) orderly_of_same
    (work_arbitrate _).orderly).ite orderly_of_same

theorem driveOf_eq_some {s : State} {ch : Nat} {e : Entry} {d : DriveRec} (h : driveOf s ch = some (e, d)) :
    s.entry ch = some e ∧ e.drive = some d := by
  unfold driveOf at h
  split at h
  · rename_i he
    obtain ⟨x, hx, pair⟩ := Option.map_eq_some_iff.mp h
    cases pair
    exact ⟨he, hx⟩
  · cases h

theorem orderly_refreshed {s : State} {ch : Nat} {e : Entry} {d : DriveRec} (n : Nat) (he : s.entry ch = some e)
    (hd : e.drive = some d) : Orderly s (s.withEntry ch { e with drive := some { d with refresh := n } }) :=
  orderly_withEntry he rfl fun _ h => by cases h; exact ⟨d, hd, rfl, rfl⟩

theorem orderly_forwardFrame (o : List Byte) (s : State) : Orderly s (forwardFrame o s) := by
  refine Orderly.ite ?_ (orderly_joinThrough _ s)
  unfold joinDemand
  dsimp only
  split
  · exact orderly_joinThrough _ s
  · rename_i found
    obtain ⟨he, hd⟩ := driveOf_eq_some found
    exact ((orderly_refreshed _ he hd).trans (orderly_joinThrough _ _)).ite (orderly_joinThrough _ s)

theorem orderly_routeReading (ch : Nat) (v : Half) (q : Nat) (s : State) : Orderly s (routeReading ch v q s) := by
  have stored : ∀ {u : State} {z : Zone} {r : ZoneRec}, Orderly u (u.withZone z r) := orderly_of_same
  have counted : ∀ g v, Orderly s (countRange g v q s) := fun g v => (work_countRange g v q s).orderly
  unfold routeReading
  split
  · exact .refl s
  · exact .refl s
  · exact (counted _ _).trans (stored.trans (work_superviseReading _ _ _).orderly)
  · exact ((counted _ _).trans (stored.trans (work_superviseReading _ _ _).orderly)).trans
      ((work_clearJudged _).orderly.ite (.refl _))
  · exact (counted _ _).trans orderly_of_same
  · have mismatch : Orderly s (if outOfRange 0 1200 v.toInt q then countKindMismatch s else s) :=
      (work_countKindMismatch s).orderly.ite (.refl s)
    exact mismatch.trans (Orderly.trans (t := State.withTracker _ _) orderly_of_same (work_trackerReport _ _).orderly)
  · refine (Orderly.refl s).ite ?_
    have counted : Orderly s (s.withTracker { s.tracker with lastPosition := some v.toNat }) := orderly_of_same
    dsimp only
    split
    · exact counted
    · refine counted.trans ?_
      unfold positionFrom
      split
      · exact .refl _
      · exact (work_advanceTransit _ _).orderly
      · exact orderly_of_same
  · exact (work_countKindMismatch s).orderly

/-- What follows the change of a level record: its report to the blocks, and the forwarding (R31, R33). -/
theorem work_changeLevel (ch : Nat) (e : Entry) (old new : LevelRec) (s : State) :
    Work (s.withEntry ch { e with level := some new }) (changeLevel ch e old new s) := by
  unfold changeLevel
  dsimp only
  split
  · exact (work_reportTransition _ _ _).trans (work_forwardLevels _ _ _)
  · exact .refl _

theorem orderly_changeLevel {ch : Nat} {e : Entry} {s : State} (old new : LevelRec) (he : s.entry ch = some e) :
    Orderly s (changeLevel ch e old new s) := by
  have stored : Orderly s (s.withEntry ch { e with level := some new }) :=
    orderly_withEntry he rfl fun d hd => ⟨d, hd, rfl, rfl⟩
  exact stored.trans (work_changeLevel ch e old new s).orderly

theorem orderly_routeLevel (ch : Nat) (b : Bool) (s : State) : Orderly s (routeLevel ch b s) := by
  unfold routeLevel
  split
  · exact .refl s
  · rename_i he
    split
    · exact .refl s
    · unfold levelHanded
      split
      · exact orderly_changeLevel _ _ he
      · exact .refl s
    all_goals exact (work_countKindMismatch s).orderly

theorem orderly_copyFrame (o : List Byte) (s : State) : Orderly s (copyFrame o s) := by
  unfold copyFrame
  dsimp only
  split
  · exact (work_copyBeat _ _ _ s).orderly
  · exact (orderly_routeReading _ _ _ s).ite (work_countKindMismatch s).orderly
  · exact (orderly_routeLevel _ _ s).ite (work_countKindMismatch s).orderly
  all_goals exact .refl s

/-! ### A hold in effect -/

/-- A channel is under hold, and its hold is in effect and holds the sent demand at a value. -/
def Holding (ch : Nat) (v : Int) (s : State) : Prop :=
  ∃ e d, s.entry ch = some e ∧ e.drive = some d ∧ s.underHold e = true ∧ d.held.isSome = true ∧ d.sent = v

theorem Holding.controlled {ch : Nat} {v : Int} {s : State} : Holding ch v s → s.line.state.controlled = true :=
  fun ⟨_, _, _, _, hold, _⟩ => (underHold_iff.mp hold).1

/-- Whatever becomes of its group and the flags, a drive record whose hold is in effect holds its demand. -/
theorem Holding.heldAt {ch : Nat} {v : Int} {s t : State} (h : Holding ch v s)
    (same : ∀ e, s.entry ch = some e → ∀ e', t.entry ch = some e' → e'.drive = e.drive) : HeldAt ch v t := by
  obtain ⟨e, d, he, hd, _, held, sent⟩ := h
  intro e' d' he' hd' _
  rw [same e he e' he', hd] at hd'
  cases hd'
  exact ⟨held, sent⟩

/-- The FAULT output goes on following the entries, and a hold in effect holds its demand. -/
structure OrderlyHold (s t : State) : Prop where
  output : outputFollows s → outputFollows t
  held : ∀ ch v, Holding ch v s → HeldAt ch v t

theorem Orderly.hold {s t : State} (h : Orderly s t) : OrderlyHold s t :=
  ⟨h.output, fun ch v k => h.held ch v (k.heldAt fun e he e' he' => by rw [he] at he'; cases he'; rfl)⟩

theorem OrderlyHold.trans {s t u : State} (h : OrderlyHold s t) (k : Orderly t u) : OrderlyHold s u :=
  ⟨fun f => k.output (h.output f), fun ch v f => k.held ch v (h.held ch v f)⟩

theorem Work.hold {s t : State} (h : Work s t) : OrderlyHold s t := h.orderly.hold

/-- The state in which the entry into HEATUP begins: target row 0, and the in-force set from row 0 (R81). -/
def heatupTargets (s : State) : State :=
  s.withPlanner
    { s.planner with
      target := 0
      inForce := match s.store.active[0]? with
        | some r => s.planner.inForce.fromRow r
        | none => s.planner.inForce }

theorem enterHeatup_eq (s : State) : enterHeatup s = sensorJudged (enterLine .heatup (heatupTargets s)) := rfl

/-- The entry into HEATUP; holds that are in effect before it are in a state with holds (R39, R81). -/
theorem orderlyHold_enterHeatup (s : State) : OrderlyHold s (enterHeatup s) := by
  have begun : Work s (heatupTargets s) := .planner s _
  have judged : ∀ u, Work u (sensorJudged u) := fun u => work_sensorTested _ u
  rw [enterHeatup_eq]
  refine ⟨fun h => ?_, fun ch v h => ?_⟩
  · have granted := (work_grantAtEntry .heatup _).outputFollows (begun.outputFollows h)
    exact (judged _).outputFollows ((work_entered .heatup _).outputFollows granted)
  · have entered : Work (heatupTargets s) (enterLine .heatup (heatupTargets s)) := work_enterLine fun _ => h.controlled
    exact ((begun.trans entered).trans (judged _)).hold.held ch v h

/-! ### Orders -/

theorem written_drive {f : MapFields} {e : Entry} (h : f.role = e.role) : (e.written f).drive = e.drive := by
  unfold Entry.written
  rw [if_neg (not_not.mpr h)]
  dsimp only
  split <;> rfl

theorem work_superviseRederived (old new : Entry) (s : State) : Work s (superviseRederived old new s) := by
  unfold superviseRederived
  split
  · split
    · exact work_superviseLevel _ _ _
    · exact .refl s
  · exact .refl s

theorem orderlyHold_writeMapBody (d : List Byte) (s : State) : OrderlyHold s (writeMapBody d s).state := by
  unfold writeMapBody
  split
  · exact (Work.refl s).hold
  rename_i ch f _
  split
  · exact (Work.refl s).hold
  rename_i e he
  split
  · exact (Work.refl s).hold
  rename_i taken
  split
  · exact (Work.refl s).hold
  have stored : OrderlyHold s (s.withEntry ch (e.written f)) := by
    refine ⟨id, fun k v h => h.heldAt fun x hx x' hx' => ?_⟩
    rw [entry_withEntry (by simp [he])] at hx'
    split at hx'
    · rename_i same
      rw [same, he] at hx
      cases hx; cases hx'
      refine written_drive (by_contra fun role => taken ⟨role, ?_, ?_⟩) <;> intro state <;> have := h.controlled <;>
        simp [state, LineState.controlled] at this
    · rw [hx] at hx'; cases hx'; rfl
  exact stored.trans
    (Orderly.trans (((orderly_forgetRole _ _).trans (orderly_forgetRole _ _)).ite (work_superviseRederived _ _ _).orderly)
      (work_purgeTested _).orderly)

theorem work_writeRowBody (d : List Byte) (s : State) : Work s (writeRowBody d s).state := by
  unfold writeRowBody
  split
  · exact .refl s
  dsimp only
  split
  · exact .refl s
  split
  · exact .store s _
  split
  · exact .refl s
  split
  · exact .store s _
  split
  · exact .store s _
  · exact .refl s

theorem work_commitBody (s : State) : Work s (commitBody s).state := by
  unfold commitBody
  split <;> exact .store s _

theorem work_paramEffect (id v : Nat) (s : State) : Work s (paramEffect id v s) := by
  have burner : ∀ z u, Work u (refreshBurner z u) :=
    work_ifPresent _ fun _ _ => work_withZone (sameReadings_withBurner _ _ _)
  have valve : ∀ c u, Work u (refreshValve c u) := fun c u =>
    Work.ite (work_withCircuit (r := { u.circuits.get c with valve := u.params.breakValve }) rfl) (.refl u)
  unfold paramEffect
  split
  · exact (work_boundCeiling _ s).ite (.refl s)
  · exact (work_forZones _ burner s).ite (.refl s)
  · exact (work_forCircuits _ valve s).ite (.refl s)
  · exact work_forZones _ (work_ifPresent _ work_judgeWarn) s
  · exact work_forZones _ (work_ifPresent _ work_judgeTrip) s
  · exact work_forZones _ (work_ifPresent _ work_judgeHot) s
  · exact .refl s

theorem orderly_writeParamBody (d : List Byte) (s : State) : Orderly s (writeParamBody d s).state := by
  have taken : ∀ id v, Orderly s (writeParamTaken id v s) := fun id v => by
    have kept : Work s (keepMinFire id s) := Work.ite work_withLine (.refl s)
    have set : Orderly (keepMinFire id s) (setParams (s.params.set id v) (keepMinFire id s)) := orderly_of_same
    exact (Orderly.refl s).ite ((kept.orderly.trans set).trans (work_paramEffect _ _ _).orderly)
  unfold writeParamBody
  split
  · dsimp only
    split
    · exact .refl s
    split
    · exact .refl s
    split
    · exact .refl s
    · exact taken _ _
  · exact .refl s

theorem work_fixPresence (s : State) : Work s (fixPresence s) := by
  refine (work_withLine (s := s)).trans ((Work.zones _ _ fun z => ?_).trans ((Work.circuits _ _ fun c => ?_).trans
    (.supervisor _ _)))
  · rw [PerZone.get_map]; split <;> exact ⟨rfl, rfl⟩
  · rw [PerCircuit.get_map]; split <;> rfl

theorem orderlyHold_lineBody (d : List Byte) (s : State) : OrderlyHold s (lineBody d s).state := by
  unfold lineBody
  split
  · unfold startBody
    split
    · split
      · exact (Work.refl s).hold
      · exact ((work_fixPresence s).trans (work_enterPurge _)).hold
    · exact (Work.refl s).hold
  · unfold stopBody
    split
    · exact (work_enterCooldown s).hold
    · exact (Work.refl s).hold
  · unfold restartBody
    split
    · have entered := orderlyHold_enterHeatup (emptyStack s)
      exact ⟨entered.output, entered.held⟩
    · exact (Work.refl s).hold
  · unfold clearLockoutBody
    split
    · exact (work_enterCold s).hold
    · exact (Work.refl s).hold
  · exact (Work.refl s).hold

theorem orderly_faultTakeBody (s : State) : Orderly s (faultTakeBody s).state := by
  unfold faultTakeBody
  split
  · exact .refl s
  · rename_i e _
    have taken : Orderly s (s.withFaults { s.faults with taken := s.faults.taken ||| e.bit }) := ⟨id, fun _ _ => id⟩
    exact taken.trans (work_sweepFaults _).orderly

theorem orderly_withoutData {body : State → Answer} {s : State} (hb : Orderly s (body s).state) (d : List Byte) :
    Orderly s (withoutData body d s).state := by
  unfold withoutData
  split
  · exact hb
  · exact .refl s

theorem orderlyHold_orderBody (code : Nat) (d : List Byte) (s : State) : OrderlyHold s (orderBody code d s).state := by
  have read : ∀ {a : Answer}, a.state = s → OrderlyHold s a.state := fun h => h ▸ (Work.refl s).hold
  unfold orderBody
  split
  · exact read (readPlain_state _ d s)
  · exact read (readZoneBody_state d s)
  · exact read (readChillBody_state d s)
  · exact read (readPlain_state _ d s)
  · exact read (readPlanBody_state d s)
  · exact read (readPlain_state _ d s)
  · exact read (readMapBody_state d s)
  · exact read (readRowBody_state d s)
  · exact read (readParamBody_state d s)
  · exact read (readPlain_state _ d s)
  · exact orderlyHold_writeMapBody d s
  · exact (work_writeRowBody d s).hold
  · split
    · exact (work_commitBody s).hold
    · exact (Work.refl s).hold
  · exact (orderly_withoutData (Work.store s _).orderly d).hold
  · exact (orderly_writeParamBody d s).hold
  · exact orderlyHold_lineBody d s
  · unfold setHoldBody
    split
    · exact ⟨id, fun ch v h => h.heldAt fun e he e' he' => by cases he.symm.trans he'; rfl⟩
    · exact (Work.refl s).hold
  · unfold setFaultEnableBody
    split
    · exact (Work.faults s _).hold
    · exact (Work.refl s).hold
  · exact (orderly_withoutData (orderly_faultTakeBody s) d).hold
  · exact (orderly_withoutData orderly_of_same d).hold
  · refine (orderly_withoutData ?_ d).hold
    unfold softResetBody
    split <;> exact .refl s
  · exact read rfl

theorem orderlyHold_decideOrder (src : Addr) (code : Nat) (d : List Byte) (s : State) :
    OrderlyHold s (decideOrder src code d s).state := by
  unfold decideOrder
  split
  · exact (Work.refl s).hold
  · exact orderlyHold_orderBody code d s

theorem orderly_reply (a : Addr) (code tag : Byte) (d : List Byte) (s : State) : Orderly s (reply a code tag d s) :=
  (work_insertFrame _ s).orderly.trans
    (((orderly_softResetEffect _).ite (.refl _)).ite (Work.slot _ _).orderly)

theorem orderlyHold_takeOrder (a : Addr) (code tag : Byte) (d : List Byte) (s : State) :
    OrderlyHold s (takeOrder a code tag d s) := by
  unfold takeOrder
  split
  · exact ((orderlyHold_decideOrder _ _ _ s).trans (work_closeEvent _).orderly).trans (orderly_reply _ _ _ _ _)
  · exact ((work_withSat (s := s)).trans (work_closeEvent _)).hold

/-! ### Expiries and the end of a transmission -/

theorem work_controlWork (s : State) : Work s (controlWork s) := by
  have loops : ∀ u, Work u (followDrives (forCircuits circuitPeriod (forZones zonePeriod u))) := fun u =>
    ((work_forZones _ work_zonePeriod u).trans (work_forCircuits _ work_circuitPeriod _)).trans (.drives _)
  have settled : ∀ u, Work u (settleJudged u) := fun u => Work.ite work_withLine (.refl u)
  exact (work_withLine (s := s)).trans ((loops _).trans (((settled _).trans (work_bandReportToPlan _)).trans
    (((work_forZones _ work_judgeZone _).trans (work_clearJudged _)).trans (work_sensorTested _ _))))

theorem work_fireWork (s : State) : Work s (fireWork s) := by unfold fireWork; split <;> simp [Work.refl]

theorem work_stallWork (s : State) : Work s (stallWork s) := by unfold stallWork; split <;> simp [Work.refl]

theorem work_ignitionWork (z : Zone) (s : State) : Work s (ignitionWork z s) := by
  have failed : Work s (s.withZone z
      (({ s.zones.get z with ignition := .failed, ignitionTimer := none } : ZoneRec).withBurner s.loopParams s.line.state)) :=
    work_withZone ⟨rfl, rfl⟩
  exact failed.trans (work_trip _ _)

theorem confirmDue_eq_some {s : State} {ch : Nat} {e : Entry} {r : LevelRec} (h : confirmDue s ch = some (e, r)) :
    s.entry ch = some e ∧ e.level = some r ∧ timerDue r.timer = true := by
  unfold confirmDue at h
  split at h
  · split at h
    · split at h
      · cases h; exact ⟨‹_›, ‹_›, ‹_›⟩
      · cases h
    · cases h
  · cases h

theorem refreshDue_eq_some {s : State} {ch : Nat} {e : Entry} {d : DriveRec} (h : refreshDue s ch = some (e, d)) :
    s.entry ch = some e ∧ e.drive = some d ∧ d.refresh = 0 := by
  unfold refreshDue at h
  split at h
  · split at h
    · split at h
      · cases h; exact ⟨‹_›, ‹_›, ‹_›⟩
      · cases h
    · cases h
  · cases h

theorem orderly_originate {s : State} {ch : Nat} {e : Entry} {d : DriveRec} (he : s.entry ch = some e)
    (hd : e.drive = some d) : Orderly s (originate ch e d s) :=
  (orderly_refreshed _ he hd).trans (work_insertFrame _ _).orderly

theorem orderlyHold_expiryWork {c : Instr} {s : State} (due : runOut s c = true) : OrderlyHold s (expiryWork c s) := by
  cases c
  case ringSilenceExpiry => exact (orderly_of_same (t := silenceWork s)).hold
  case confirmTimerExpiry ch =>
    show OrderlyHold s (confirmWork _ s)
    unfold confirmWork
    split
    · rename_i found; exact (orderly_changeLevel _ _ (confirmDue_eq_some found).1).hold
    · exact (Work.refl s).hold
  case refreshTimerExpiry ch =>
    show OrderlyHold s (refreshWork _ s)
    unfold refreshWork
    split
    · rename_i found
      obtain ⟨he, hd, _⟩ := refreshDue_eq_some found
      exact (orderly_originate he hd).hold
    · exact (Work.refl s).hold
  case ageTimer250 => exact (orderly_of_same (t := s.withTracker s.tracker.at250)).hold
  case ageTimer1000 =>
    exact (Orderly.trans (t := s.withTracker _) orderly_of_same (work_trackerReport _ _).orderly).hold
  case purgeTimerExpiry =>
    show OrderlyHold s (purgeWork s)
    unfold purgeWork
    split
    · exact orderlyHold_enterHeatup s
    · exact (work_withLine (s := s)).hold
  case settleTimerExpiry =>
    have heatup : s.line.state = .heatup := eq_of_beq (Bool.and_eq_true_iff.mp due).2
    exact (work_readyFromHeatup (by rw [heatup]; rfl)).hold
  case cooldownTimerExpiry => exact ((work_withLine (s := s)).trans (work_cooldownJudged _)).hold
  case controlPeriod => exact (work_controlWork s).hold
  case headTimerAfter | soakComplete | slowedDelayExpiry => exact (work_fireWork s).hold
  case readyTimeout => exact (work_stallWork s).hold
  case ignitionTimerExpiry z => exact (work_ignitionWork z s).hold
  case clearTimerExpiry => exact (work_clearRelief s).hold
  case graceTimerExpiry z => exact ((work_setGrace z none s).trans (work_trip _ _)).hold
  case supervisionInterval => exact ((Work.supervisor s _).trans (work_superviseInterval _)).hold
  all_goals exact (Work.refl s).hold

theorem orderly_txDoneWork (s : State) : Orderly s (txDoneWork s) := by
  have freed : Orderly s (freePort s) := (Work.outlet s _).orderly
  unfold txDoneWork
  split
  · exact .refl s
  · have left : Orderly (freePort s) (throughLeft (freePort s)) := orderly_of_same
    refine (freed.trans left).trans ?_
    unfold correctDemand
    split
    · exact .refl _
    split
    · rename_i found
      obtain ⟨he, hd⟩ := driveOf_eq_some found
      exact (Orderly.refl _).ite (orderly_originate he hd)
    · exact .refl _
  · have counted : ∀ f, Orderly (freePort s) (countWrap f (freePort s)) := fun f => orderly_of_same
    exact (freed.trans (counted _)).trans ((orderly_softResetEffect _).ite (.refl _))

theorem orderly_checkErrorWork (s : State) : Orderly s (checkErrorWork s) :=
  (Orderly.trans (t := s.withSat _) orderly_of_same (work_raiseFault _ _).orderly).ite orderly_of_same

end Sys2Proof.Machine

/-!
SUPPORT. Every step ends at rest, and what rest says of the demands and the holds.
-/

namespace Sys2Proof.Machine

/-! ### A closed event -/

/-- Nothing of an event is left over but the arbiter's decision. -/
structure Closed (s : State) : Prop where
  drives : drivesFollow s = true
  store : storeSettled s = true
  faults : faultsSettled s = true
  grants : grantsPaid s = true

theorem SameJudged.closed {s t : State} (h : SameJudged s t) (c : Closed s) : Closed t :=
  ⟨h.drives.trans c.drives, h.store_settled.trans c.store, h.faults_settled.trans c.faults, h.grants_paid.trans c.grants⟩

/-- The arbiter's decision brings a closed event to rest (R16). -/
theorem Closed.atRest_arbitrate {s : State} (h : Closed s) : (arbitrate s).atRest = true :=
  have c := (sameJudged_arbitrate s).closed h
  atRest_iff.mpr ⟨c.drives, c.store, c.faults, portSettled_arbitrate s, c.grants⟩

/-- The end of an event settles the store, the drives, the fault entries and the GRANT frames, in this order, and each leaves
settled what the ones before it have settled (R36, R66, R183, R184). -/
theorem closed_closeEvent {s : State} (h : outputFollows s) : Closed (closeEvent s) := by
  have output := ((work_settleStore s).trans ((work_driveStage _).trans (work_payGrants _))).outputFollows h
  have drives : drivesFollow (payGrants (driveStage (settleStore s))) = true :=
    (drivesFollow_payGrants _).trans (drivesFollow_driveStage _)
  have store : storeSettled (payGrants (driveStage (settleStore s))) = true :=
    ((payGrants_same _).store_settled.trans (driveStage_same _).store_settled).trans (storeSettled_settleStore s)
  have grants := grantsPaid_payGrants (driveStage (settleStore s))
  have faults := faultsSettled_sweep _ output
  unfold closeEvent
  obtain ⟨x, swept⟩ := sweepFaults_cases (payGrants (driveStage (settleStore s)))
  rw [swept] at faults ⊢
  exact ⟨(drivesFollow_withFaults _ x).trans drives, store, faults, grants⟩

theorem atRest_finish {s : State} (h : outputFollows s) : (finish s).atRest = true := (closed_closeEvent h).atRest_arbitrate

theorem atRest_output {s : State} (h : s.atRest = true) : outputFollows s := by
  have faults := (atRest_iff.mp h).2.2.1
  exact eq_of_beq (Bool.and_eq_true_iff.mp faults).2

/-! ### Reset states -/

/-- In COLD with no zone or circuit present every source gives 0 (R35). -/
theorem demandSource_cold {s : State} (cold : s.line.state = .cold) (zones : ∀ z, s.present z = false) (r : Role) :
    demandSource s r = 0 := by
  cases r
  case burner z => simp [demandSource, zones]
  all_goals simp [demandSource, cold]

theorem underHold_uncontrolled {s : State} (h : s.line.state.controlled = false) (e : Entry) : s.underHold e = false := by
  simp [State.underHold, h]

/-- A part in COLD with no zone present, whose drive records carry 0, has nothing to settle. -/
theorem closed_of_cold {s : State} (cold : s.line.state = .cold) (zones : ∀ z, s.present z = false)
    (zero : ∀ e ∈ s.channels, ∀ d, e.drive = some d → d.computed = 0 ∧ d.sent = 0 ∧ d.held = none ∧ d.owed = false)
    (store : s.store.status = .none) (pending : s.faults.pending = 0) (out : s.faults.out = false)
    (owed : s.outlet.owed = []) : Closed s where
  drives := by
    rw [drivesFollow_iff]
    intro e he d hd
    obtain ⟨computed, sent, held, paid⟩ := zero e he d hd
    rw [demandSource_cold cold zones, underHold_uncontrolled (by rw [cold]; rfl)]
    rcases d with ⟨_, _, _, _, _⟩
    simp only at computed sent held paid
    subst computed sent held paid
    exact ⟨rfl, rfl⟩
  store := by simp [storeSettled, store]
  faults := by simp [faultsSettled, pending, out, output_of_none _ pending]
  grants := by simp [grantsPaid, owed]

theorem drive_softReset {k : Bool} {e : Entry} {d : DriveRec} (h : (e.softReset k).drive = some d) :
    d.computed = 0 ∧ d.sent = 0 ∧ d.held = none ∧ d.owed = false := by
  cases k
  · cases h
  · replace h : freshDrive e.role = some d := h
    unfold freshDrive at h
    split at h
    · cases h; exact ⟨rfl, rfl, rfl, rfl⟩
    · cases h

theorem commitStatus_softReset (k : Bool) (t : Store) : (t.softReset k).status = .none := by cases k <;> rfl

theorem closed_softResetEffect (s : State) : Closed (softResetEffect s) := by
  refine closed_of_cold rfl (fun z => by cases z <;> rfl) ?_ (commitStatus_softReset _ _) rfl rfl rfl
  intro e he d hd
  obtain ⟨x, _, rfl⟩ := List.mem_map.mp he
  exact drive_softReset hd

theorem atRest_powerOn (phase : Phase) (own : Addr) (control interval : Timer) (n : Nat) (q : List Instr) :
    ({ State.powerOn phase own control interval with freeCount := n, pending := q } : State).atRest = true := by
  have closed : Closed { State.powerOn phase own control interval with freeCount := n, pending := q } := by
    refine closed_of_cold rfl (fun z => by cases z <;> rfl) ?_ rfl rfl rfl rfl
    intro e he d hd
    rw [List.eq_of_mem_replicate he] at hd
    cases hd
  exact atRest_iff.mpr ⟨closed.drives, closed.store, closed.faults, rfl, closed.grants⟩

/-! ### Commands -/

theorem sameJudged_withAgent {s : State} {x : Agent} (h : x.params = s.agent.params) : SameJudged s (s.withAgent x) :=
  ⟨rfl, rfl, rfl, rfl, rfl, rfl, rfl, rfl, rfl, rfl, rfl, h, rfl⟩

/-- A REPLY leaves a closed event closed, and so does a SOFT_RESET that takes effect with its REPLY lost (R187, R196). -/
theorem closed_reply {a : Addr} {code tag : Byte} {d : List Byte} {s : State} (h : Closed s) :
    Closed (reply a code tag d s) := by
  have inserted := (sameJudged_insertFrame (.reply a code tag d) s).closed h
  unfold reply
  dsimp only
  split
  · split
    · exact closed_softResetEffect _
    · exact inserted
  · exact (sameJudged_setSlot _ _).closed inserted

theorem closed_takeOrder {a : Addr} {code tag : Byte} {d : List Byte} {s : State} (h : outputFollows s) :
    Closed (takeOrder a code tag d s) := by
  unfold takeOrder
  split
  · exact closed_reply (closed_closeEvent ((orderlyHold_decideOrder _ _ _ s).output h))
  · exact closed_closeEvent h

theorem atRest_receive {o : List Byte} {s : State} (h : s.atRest = true) : (receive o s).atRest = true := by
  have output := atRest_output h
  unfold receive
  split
  · split
    · unfold classify
      split
      · exact atRest_finish output
      · exact atRest_finish ((work_takeAsk _ _ _ (countConsumed (countGood s))).outputFollows output)
      · exact (closed_takeOrder (s := countConsumed (countGood s)) output).atRest_arbitrate
      · exact atRest_finish (((orderly_forwardFrame o (countGood s)).trans (orderly_copyFrame o _)).output output)
    · exact atRest_finish ((orderly_checkErrorWork s).output output)
  · exact h

theorem atRest_exec {c : Instr} {s t : State} (h : s.atRest = true) (ht : exec c s = .next t) : t.atRest = true := by
  obtain ⟨phase, own, control, interval⟩ | _ | _ | o | _ | due := exec_effect ht
  · exact atRest_powerOn phase own control interval _ _
  · exact h
  · exact atRest_withLink rfl h
  · exact atRest_receive h
  · exact atRest_finish ((orderly_txDoneWork s).output (atRest_output h))
  · exact atRest_finish ((orderlyHold_expiryWork due).output (atRest_output h))

/-! ### A millisecond -/

theorem findRole_map (r : Role) (n : Nat) (l : List Entry) {g : Entry → Entry} (hg : ∀ e, (g e).role = e.role) :
    findRole r n (l.map g) = (findRole r n l).map fun p => (p.1, g p.2) := by
  induction l generalizing n with
  | nil => rfl
  | cons e l ih =>
    simp only [List.map_cons, findRole, ih, hg]
    split <;> rfl

@[simp] theorem confirmedOf_advanceTimers (s : State) (r : Role) : (advanceTimers s).confirmedOf r = s.confirmedOf r := by
  unfold State.confirmedOf State.roleChannel
  rw [show (advanceTimers s).channels = s.channels.map Entry.tick from rfl, findRole_map (g := Entry.tick) r 0 _ fun _ => rfl, Option.map_map]
  congr 1
  funext p
  simp only [Function.comp, Entry.tick, Option.map_map]
  rfl

/-- A reading that fails goes on failing as it ages (R177). -/
theorem failing_tick {p : Params} {r : Sensor} (h : r.failing p = true) : r.tick.failing p = true := by
  rcases r with ⟨v, q, a⟩
  cases q
  case none | failed => exact h
  case good =>
    cases a with
    | none => rfl
    | some a =>
      simp only [Sensor.failing, Sensor.isCurrent, Sensor.tick, ageTick, Option.map_some, Bool.not_eq_true',
        Bool.and_eq_false_iff, beq_self_eq_true, decide_eq_false_iff_not, Bool.true_eq_false, false_or] at h ⊢
      omega

/-- No condition ends with a millisecond: readings age, and nothing else that a condition reads changes (R182). -/
theorem faultCondition_advanceTimers {s : State} {e : FaultCode} (h : faultCondition s e = true) :
    faultCondition (advanceTimers s) e = true := by
  have any : ∀ f : Entry → Bool, (∀ x, f x.tick = f x) → (advanceTimers s).channels.any f = s.channels.any f :=
    fun f hf => by simp [advanceTimers, List.any_map, Function.comp_def, hf]
  have flame := any Entry.flameActive fun x => by
    unfold Entry.flameActive; rw [show (x.tick.level.map LevelRec.confirmed) = x.level.map LevelRec.confirmed by
      simp only [Entry.tick, Option.map_map]; rfl]; rfl
  have brk := any Entry.breakActive fun x => by
    unfold Entry.breakActive; rw [show (x.tick.level.map LevelRec.confirmed) = x.level.map LevelRec.confirmed by
      simp only [Entry.tick, Option.map_map]; rfl]; rfl
  have zone : ∀ z, (advanceTimers s).zones.get z = (s.zones.get z).tick := fun z => PerZone.get_map _ _ _
  have present : ∀ z, (advanceTimers s).present z = s.present z := fun _ => rfl
  have state : (advanceTimers s).line.state = s.line.state := rfl
  cases e
  case sensorFail =>
    simp only [faultCondition, List.any_eq_true, Bool.and_eq_true, Bool.or_eq_true, zone, present] at h ⊢
    obtain ⟨z, hz, here, failing⟩ := h
    exact ⟨z, hz, here, failing.imp failing_tick failing_tick⟩
  case flameFail =>
    simp only [faultCondition, confirmedOf_advanceTimers, zone, present, state] at h ⊢
    exact h
  case flameUnexpected => simp only [faultCondition, flame, state] at h ⊢; exact h
  case airflowLoss => simp only [faultCondition, confirmedOf_advanceTimers, present, state] at h ⊢; exact h
  case webBreak => simp only [faultCondition, brk] at h ⊢; exact h
  all_goals exact h

/-- A mask has the bits of the entries whose tests hold (R190). -/
theorem getLsbD_faultMask (f : FaultCode → Bool) (i : Nat) :
    (faultMask f).getLsbD i = FaultCode.all.any fun e => f e && e.bit.getLsbD i := by
  have fold : ∀ (l : List FaultCode) (m : Half),
      (l.foldl (fun m e => if f e then m ||| e.bit else m) m).getLsbD i =
        (m.getLsbD i || l.any fun e => f e && e.bit.getLsbD i) := by
    intro l
    induction l with
    | nil => simp
    | cons e l ih =>
      intro m
      rw [List.foldl_cons, ih, List.any_cons]
      cases f e <;> simp [Bool.or_assoc]
  exact (fold _ 0).trans (by simp)

/-- A mask of more tests holds the entries of a mask of fewer. -/
theorem faultMask_mono {f g : FaultCode → Bool} (h : ∀ e, f e = true → g e = true) :
    faultMask f &&& ~~~ faultMask g = 0 := by
  refine BitVec.eq_of_getLsbD_eq fun i hi => ?_
  have more : (faultMask f).getLsbD i = true → (faultMask g).getLsbD i = true := by
    simp only [getLsbD_faultMask, List.any_eq_true, Bool.and_eq_true]
    exact fun ⟨e, he, test, bit⟩ => ⟨e, he, h e test, bit⟩
  simp only [BitVec.getLsbD_and, BitVec.getLsbD_not, hi, decide_true, Bool.true_and]
  revert more
  cases (faultMask f).getLsbD i <;> cases (faultMask g).getLsbD i <;> simp

theorem faultsSettled_advanceTimers {s : State} (h : faultsSettled s = true) : faultsSettled (advanceTimers s) = true := by
  obtain ⟨gone, output⟩ := Bool.and_eq_true_iff.mp h
  refine Bool.and_eq_true_iff.mpr ⟨decide_eq_true ?_, output⟩
  have more : s.conditionMask &&& ~~~ (advanceTimers s).conditionMask = 0 :=
    faultMask_mono fun e => faultCondition_advanceTimers
  replace gone := of_decide_eq_true gone
  show s.faults.pending &&& s.faults.taken &&& ~~~ (advanceTimers s).conditionMask = 0
  refine BitVec.eq_of_getLsbD_eq fun i hi => ?_
  have bit := congrArg (fun x : Half => x.getLsbD i) gone
  have bit' := congrArg (fun x : Half => x.getLsbD i) more
  revert bit bit'
  simp only [BitVec.getLsbD_and, BitVec.getLsbD_not, hi, decide_true, Bool.true_and]
  cases s.faults.pending.getLsbD i <;> cases s.faults.taken.getLsbD i <;> cases s.conditionMask.getLsbD i <;> simp

theorem demandSource_advanceTimers (s : State) (r : Role) : demandSource (advanceTimers s) r = demandSource s r := by
  have zone : ∀ z, (advanceTimers s).zones.get z = (s.zones.get z).tick := fun z => PerZone.get_map _ _ _
  have circuit : ∀ c, (advanceTimers s).circuits.get c = (s.circuits.get c).tick := fun c => PerCircuit.get_map _ _ _
  cases r
  case burner z => unfold demandSource; dsimp only; rw [zone]; rfl
  case chillValve c => unfold demandSource; dsimp only; rw [circuit]; rfl
  all_goals rfl

theorem drivesFollow_advanceTimers {s : State} (h : drivesFollow s = true) : drivesFollow (advanceTimers s) = true := by
  rw [drivesFollow_iff] at h ⊢
  intro e he d hd
  obtain ⟨x, hx, rfl⟩ := List.mem_map.mp he
  obtain ⟨y, hy, rfl⟩ := Option.map_eq_some_iff.mp hd
  rw [demandSource_advanceTimers]
  exact settled_refresh _ (h x hx y hy)

theorem atRest_tick {s : State} (h : s.atRest = true) : (tick s).atRest = true := by
  obtain ⟨drives, store, faults, port, grants⟩ := atRest_iff.mp h
  have settled : storeSettled (advanceTimers s) = storeSettled s := by
    unfold storeSettled State.safePoint
    rw [show (advanceTimers s).planner.plan.isNone = s.planner.plan.isNone from Option.isNone_map]
    rfl
  have advanced : (advanceTimers s).atRest = true :=
    atRest_iff.mpr ⟨drivesFollow_advanceTimers drives, settled.trans store, faultsSettled_advanceTimers faults, port, grants⟩
  have queued : SameJudged (advanceTimers s) (tick s) := ⟨rfl, rfl, rfl, rfl, rfl, rfl, rfl, rfl, rfl, rfl, rfl, rfl, rfl⟩
  have idle : portSettled (tick s) = portSettled s := rfl
  exact queued.atRest advanced (idle.trans port)

/-! ### The statements -/

/-- Settles O20: the work of every command keeps the FAULT output following, and what ends its event settles the rest; a millisecond
ends no fault condition. -/
theorem stepsEndAtRest : Obligations.StepsEndAtRest := by
  intro s t h ht
  unfold step at ht
  split at ht
  · cases ht
    exact atRest_tick h
  · rename_i c rest _
    have taken : SameJudged s (s.withPending rest) := ⟨rfl, rfl, rfl, rfl, rfl, rfl, rfl, rfl, rfl, rfl, rfl, rfl, rfl⟩
    exact atRest_exec (taken.atRest h (atRest_iff.mp h).2.2.2.1) ht

/-- A settled record's computed demand is its source's; off hold it is sent and nothing is held, under hold a value is held
(R35, R36, R40). -/
theorem settled_cases {c : Int} {b : Bool} {d : DriveRec} (h : d.settled c b) :
    d.computed = c ∧ (b = false → d.sent = c ∧ d.held = none) ∧ (b = true → d.held.isSome = true) := by
  rcases d with ⟨computed, sent, held, refresh, owed⟩
  have follow := h.1
  cases b <;> cases held <;> simp [DriveRec.follow] at follow ⊢ <;> omega

theorem controlled_iff {l : LineState} : l.controlled = true ↔ l = .heatup ∨ l = .ready ∨ l = .run := by cases l <;> decide

theorem permitOpen_iff {l : LineState} :
    l.permitClosed = false ↔ l = .cold ∨ l = .purge ∨ l = .cooldown ∨ l = .lockout := by cases l <;> decide

/-- With the permit open a burner's source gives 0, and no channel is under hold (R35, R39, R74). -/
theorem demandSource_burner_open {s : State} (z : Zone) (h : s.line.state.permitClosed = false) :
    demandSource s (.burner z) = 0 ∧ s.line.state.controlled = false := by
  rcases permitOpen_iff.mp h with state | state | state | state <;> simp [demandSource, state, LineState.controlled]

/-- In HEATUP, READY and RUN the loops and the in-force set give the demands (R35). -/
theorem demandSource_controlled {s : State} (h : s.line.state.controlled = true) :
    (∀ z, demandSource s (.burner z) = if s.present z then (s.zones.get z).burner else 0) ∧
      (∀ z, demandSource s (.fan z) = if s.present z then (s.planner.inForce.zones.get z).fan else 0) ∧
      demandSource s .exhaust = s.planner.inForce.exhaust ∧
      ∀ c, demandSource s (.chillValve c) = if s.circuitPresent c then (s.circuits.get c).valve else 0 := by
  rcases controlled_iff.mp h with state | state | state <;> simp [demandSource, state]

/-- Settles O18: the rest condition read off row by row of R35's table. -/
theorem demandsFollowTheirSource : Obligations.DemandsFollowTheirSource := by
  intro s e d h he hd
  obtain ⟨computed, off, _⟩ := settled_cases (drivesFollow_iff.mp (atRest_iff.mp h).1 e he d hd)
  refine ⟨fun hold => ⟨(off hold).1.trans computed.symm, (off hold).2⟩, fun z role => ?_, fun z role => ?_, fun role => ?_,
    fun c role => ?_⟩ <;> rw [role] at computed off
  · refine ⟨fun opened => ?_, fun absent => ?_, fun present brk => ?_, fun present controlled => ?_⟩
    · obtain ⟨zero, free⟩ := demandSource_burner_open z opened
      exact ⟨computed.trans zero, (off (underHold_uncontrolled free e)).1.trans zero⟩
    · simp [computed, demandSource, absent]
    · simp [computed, demandSource, present, brk]
    · rw [computed, (demandSource_controlled controlled).1, if_pos present]
  · refine ⟨fun state => ?_, fun state => ?_, fun state => ?_, fun state => ?_, fun controlled => ?_⟩
    · simp [computed, demandSource, state]
    · rcases state with state | state <;> simp [computed, demandSource, state]
    · simp [computed, demandSource, state]
    · simp [computed, demandSource, state]
    · rw [computed, (demandSource_controlled controlled).2.1]
  · refine ⟨fun state => ?_, fun state => ?_, fun state => ?_, fun controlled => ?_⟩
    · simp [computed, demandSource, state]
    · rcases state with state | state | state <;> simp [computed, demandSource, state]
    · simp [computed, demandSource, state]
    · rw [computed, (demandSource_controlled controlled).2.2.1]
  · refine ⟨fun state => ?_, fun state => ?_, fun controlled => ?_⟩
    · rcases state with state | state | state <;> simp [computed, demandSource, state]
    · rcases state with state | state <;> simp [computed, demandSource, state]
    · rw [computed, (demandSource_controlled controlled).2.2.2]

/-- At rest a channel under hold has its hold in effect (R40). -/
theorem holding_of_atRest {s : State} {ch : Nat} {e : Entry} {d : DriveRec} (h : s.atRest = true) (he : s.entry ch = some e)
    (hd : e.drive = some d) (hold : s.underHold e = true) : Holding ch d.sent s := by
  have settled := drivesFollow_iff.mp (atRest_iff.mp h).1 e (List.mem_of_getElem? he) d hd
  exact ⟨e, d, he, hd, hold, (settled_cases settled).2.2 hold, rfl⟩

theorem orderlyHold_receive (o : List Byte) (s : State) : OrderlyHold s (receive o s) := by
  have counted : Orderly s (countGood s) := orderly_of_same
  unfold receive
  split
  · split
    · unfold classify
      split
      · exact (orderly_of_same (t := stripWork (countGood s)).trans (work_finish _).orderly).hold
      · have consumed : Orderly s (countConsumed (countGood s)) := orderly_of_same
        exact (consumed.trans ((work_takeAsk _ _ _ _).trans (work_finish _)).orderly).hold
      · have taken := (orderlyHold_takeOrder (addrOf (octetAt o 1)) (octetAt o 3) (octetAt o 4) (orderData o)
          (countConsumed (countGood s))).trans (work_arbitrate _).orderly
        exact ⟨taken.output, taken.held⟩
      · exact (((counted.trans (orderly_forwardFrame o _)).trans (orderly_copyFrame o _)).trans (work_finish _).orderly).hold
    · exact ((orderly_checkErrorWork s).trans (work_finish _).orderly).hold
  · exact (Work.refl s).hold

/-- Settles O19: a hold in effect holds its demand through the work of every command. -/
theorem heldDemandsStand : Obligations.HeldDemandsStand := by
  intro c s t ch e e' d d' h ht he hd hold he' hd' hold'
  have holding := holding_of_atRest h he hd hold
  have kept : HeldAt ch d.sent t := by
    obtain ⟨phase, own, control, interval⟩ | _ | _ | o | _ | due := exec_effect ht
    · exact heldAt_of_uncontrolled rfl _ _
    · exact (Work.refl s).hold.held ch _ holding
    · exact (Work.refl s).hold.held ch _ holding
    · exact (orderlyHold_receive o s).held ch _ holding
    · exact ((orderly_txDoneWork s).trans (work_finish _).orderly).hold.held ch _ holding
    · exact ((orderlyHold_expiryWork due).trans (work_finish _).orderly).held ch _ holding
  exact (kept e' d' he' hd' hold').2

end Sys2Proof.Machine

/-!
SUPPORT. Which blocks the ends of an event change; and the statements about RESET, level records and refreshes.
-/

namespace Sys2Proof.Machine

/-! ### Blocks that change -/

theorem OnlyChanges.trans {l m : List Block} {s t u : State} (h : OnlyChanges l s t) (k : OnlyChanges m t u) :
    OnlyChanges (l ++ m) s u := by
  intro b hb
  rw [List.mem_append, not_or] at hb
  have first := h b hb.1
  have second := k b hb.2
  cases b <;> exact second.trans first

theorem OnlyChanges.mono {l m : List Block} {s t : State} (h : OnlyChanges l s t) (sub : ∀ b ∈ l, b ∈ m) :
    OnlyChanges m s t := fun b hb => h b fun hl => hb (sub b hl)

theorem onlyChanges_refl (s : State) : OnlyChanges [] s s := fun b _ => by cases b <;> rfl

theorem onlyChanges_withLink (s : State) (x : Link) : OnlyChanges [.link] s (s.withLink x) :=
  fun b hb => by cases b <;> simp_all [State.same]

theorem onlyChanges_withOutlet (s : State) (x : Outlet) : OnlyChanges [.outlet] s (s.withOutlet x) :=
  fun b hb => by cases b <;> simp_all [State.same]

theorem onlyChanges_withSat (s : State) (x : SatCounts) : OnlyChanges [.sat] s (s.withSat x) :=
  fun b hb => by cases b <;> simp_all [State.same]

theorem onlyChanges_withChannels (s : State) (x : List Entry) : OnlyChanges [.channels] s (s.withChannels x) :=
  fun b hb => by cases b <;> simp_all [State.same]

theorem onlyChanges_withHolds (s : State) (x : Byte) : OnlyChanges [.holds] s (s.withHolds x) :=
  fun b hb => by cases b <;> simp_all [State.same]

theorem onlyChanges_withFaults (s : State) (x : Faults) : OnlyChanges [.faults] s (s.withFaults x) :=
  fun b hb => by cases b <;> simp_all [State.same]

theorem onlyChanges_withAgent (s : State) (x : Agent) : OnlyChanges [.agent] s (s.withAgent x) :=
  fun b hb => by cases b <;> simp_all [State.same]

theorem onlyChanges_arrived (s : State) : OnlyChanges [.link] s (arrived s) := onlyChanges_withLink s (arrived s).link

theorem onlyChanges_insertFrame (f : OwnFrame) (s : State) : OnlyChanges [.outlet, .sat] s (insertFrame f s) := by
  unfold insertFrame
  split
  · exact (onlyChanges_withOutlet s _).mono (by simp)
  · exact (onlyChanges_withSat s _).mono (by simp)

theorem onlyChanges_insertAll (l : List OwnFrame) (s : State) : OnlyChanges [.outlet, .sat] s (insertAll l s) := by
  induction l generalizing s with
  | nil => exact (onlyChanges_refl s).mono (by simp)
  | cons f l ih => exact ((onlyChanges_insertFrame f s).trans (ih _)).mono (by simp)

/-- The drive stage changes drive records, the insert queue and INSERT_LOSS. -/
theorem onlyChanges_driveStage (s : State) : OnlyChanges [.channels, .outlet, .sat] s (driveStage s) :=
  (((onlyChanges_withChannels s _).trans (onlyChanges_withChannels _ _)).trans (onlyChanges_insertAll _ _)).mono (by simp)

theorem OutletAlone.onlyChanges {s t : State} (h : OutletAlone s t) : OnlyChanges [.outlet, .agent] s t := by
  intro b hb
  obtain ⟨channels, holds, tracker, store, line, planner, zones, circuits, stack, supervisor, faults, _, _⟩ := h.judged
  cases b
  case outlet | agent => simp at hb
  case link => exact h.link
  case sat => exact h.sat
  case transit => exact h.transit
  case freeCount => exact h.freeCount
  case pending => exact h.pending
  all_goals assumption

/-- A frame that is no REPLY and is inserted at a settled port leaves the reply slot alone when the arbiter decides (R16, R187). -/
theorem onlyChanges_arbitrate_insertFrame {f : OwnFrame} {s : State} (hf : f.key ≠ some .reply) (h : portSettled s = true) :
    OnlyChanges [.outlet, .sat] s (arbitrate (insertFrame f s)) := by
  have inserted := onlyChanges_insertFrame f s
  cases port : s.outlet.port with
  | some x =>
    rw [arbitrate_busy (by unfold insertFrame; split <;> simp [port])]
    exact inserted
  | none =>
    obtain ⟨through, queue⟩ := idle_of_portSettled h port
    have joined : insertFrame f s = s.withOutlet { s.outlet with queue := [f] } := by
      simp [insertFrame, queueInsert, queue, replaceWaiting, Config.insertCapacity]
    have started : arbitrate (insertFrame f s) =
        s.withOutlet { s.outlet with queue := [], port := some (.inserted f), runCount := 0 } := by
      rw [joined]
      simp [arbitrate, port, through, startInserted, hf, State.withOutlet]
    rw [started]
    exact (onlyChanges_withOutlet s _).mono (by simp)

/-- A frame inserted into a part whose INSERT_LOSS has not fallen since is sent or lost by the arbiter's decision (R14, R19). -/
theorem sentOrLost_arbitrate {f : OwnFrame} {s u w : State} (h : s.sat.insertLoss.toNat ≤ u.sat.insertLoss.toNat)
    (outlet : w.outlet = (insertFrame f u).outlet) (sat : w.sat = (insertFrame f u).sat) :
    SentOrLost f s (arbitrate w) := by
  rcases insertFrame_waits_or_lost f u with waits | lost
  · exact .inl (sends_arbitrate (outlet ▸ waits))
  · refine .inr ?_
    rw [(outletAlone_arbitrate w).sat, sat, lost]
    unfold satInc
    split
    · exact .inr ‹_›
    · rename_i small
      refine .inl fun same => ?_
      have wrapped := congrArg BitVec.toNat same
      have : u.sat.insertLoss.toNat ≠ 255 := fun k => small (BitVec.eq_of_toNat_eq k)
      have : u.sat.insertLoss.toNat < 256 := u.sat.insertLoss.isLt
      rw [BitVec.toNat_add] at wrapped
      change (u.sat.insertLoss.toNat + 1) % 256 = _ at wrapped
      omega

/-! ### RESET (R4, R5) -/

theorem fresh_powerOn (phase : Phase) (own : Addr) (control interval : Timer) (n : Nat) (q : List Instr) :
    Fresh { State.powerOn phase own control interval with freeCount := n, pending := q } := { fresh_reset with }

theorem unconfigured_powerOn (phase : Phase) (own : Addr) (control interval : Timer) (n : Nat) (q : List Instr) :
    Unconfigured { State.powerOn phase own control interval with freeCount := n, pending := q } :=
  { unconfigured_reset with }

theorem validAddress_iff {a : Addr} : validAddress a = true ↔ 1 ≤ a.toNat ∧ a.toNat ≤ 62 := by simp [validAddress]

/-- Settles O4, by whether the straps give a valid address. -/
theorem resetStartsFromPowerOn : Obligations.ResetStartsFromPowerOn := by
  refine ⟨fun s => ⟨_, rfl, rfl, rfl, rfl, rfl, rfl, rfl, fresh_powerOn _ _ _ _ _ _, unconfigured_powerOn _ _ _ _ _ _⟩,
    fun a s asserted => ?_⟩
  have released : exec (.resetRelease a) s = .next
      { (if validAddress a then State.powerOn .waitingGap a (some Config.controlMs) (some Config.intervalMs)
          else State.powerOn .inert a none none) with
        freeCount := s.freeCount, pending := s.pending } := if_pos asserted
  by_cases valid : validAddress a = true
  · rw [if_pos valid] at released
    refine ⟨_, released, fresh_powerOn _ _ _ _ _ _, unconfigured_powerOn _ _ _ _ _ _, rfl, rfl, rfl, rfl, rfl, rfl, rfl, rfl,
      fun _ _ => ⟨rfl, rfl, rfl⟩, fun none => ?_⟩
    have := validAddress_iff.mp valid
    omega
  · rw [if_neg valid] at released
    refine ⟨_, released, fresh_powerOn _ _ _ _ _ _, unconfigured_powerOn _ _ _ _ _ _, rfl, rfl, rfl, rfl, rfl, rfl, rfl, rfl,
      fun low high => absurd (validAddress_iff.mpr ⟨low, high⟩) valid, fun _ => ⟨rfl, rfl, rfl⟩⟩

/-! ### Level records (R29, R30) -/

theorem copyFrame_level {src dst ch aux : Byte} {value : Half} (s : State) (h : aux.toNat ≤ 1) :
    copyFrame (fixedFrame kindLevel src dst ch value aux) s = routeLevel ch.toNat (aux == 1) s := by
  simp [copyFrame, copyLevel, h]

theorem routeLevel_of_level {ch : Nat} {s : State} {e : Entry} {r : LevelRec} (b : Bool) (he : s.entry ch = some e)
    (role : e.role.roleClass = .level) (hr : e.level = some r) :
    routeLevel ch b s = changeLevel ch e r (r.taken e b) s := by
  simp [routeLevel, levelHanded, he, role, hr]

/-- A LEVEL of another station on a channel with a level record: the record moves, and the rest of its event is work (R6, R9, R29). -/
theorem exec_level {src dst ch aux : Byte} {value : Half} {s : State} {e : Entry} {r : LevelRec} (h : Passes src s)
    (haux : aux.toNat ≤ 1) (he : s.entry ch.toNat = some e) (role : e.role.roleClass = .level) (hr : e.level = some r) :
    ∃ u t : State, exec (.level src dst ch value aux) s = .next t ∧ u.entry ch.toNat = s.entry ch.toNat ∧
      Work (u.withEntry ch.toNat { e with level := some (r.taken e (aux == 1)) }) t := by
  let f : ThroughFrame := ⟨fixedFrame kindLevel src dst ch value aux, none⟩
  have passed : exec (.level src dst ch value aux) s =
      .next (finish (copyFrame f.octets (forwardFrame f.octets (countGood s)))) :=
    congrArg Host.Outcome.next (receive_passes h.1 h.2 (by simp))
  have forward : forwardFrame f.octets (countGood s) = joinThrough f (countGood s) := if_neg (by simp [f])
  have entry : (joinThrough f (countGood s)).entry ch.toNat = s.entry ch.toNat := by
    unfold State.entry
    rw [(sameJudged_joinThrough f (countGood s)).channels]
    rfl
  have copied : copyFrame f.octets (joinThrough f (countGood s)) =
      changeLevel ch.toNat e r (r.taken e (aux == 1)) (joinThrough f (countGood s)) :=
    (copyFrame_level _ haux).trans (routeLevel_of_level _ (entry.trans he) role hr)
  refine ⟨_, _, passed, entry, ?_⟩
  rw [forward, copied]
  exact (work_changeLevel _ _ _ _ _).trans (work_finish _)

/-- Settles O15, by R30's cases of a level record. -/
theorem levelsMoveTheRecord : Obligations.LevelsMoveTheRecord := by
  intro src dst ch value aux s e r h haux he role hr seen points quiet
  obtain ⟨u, t, done, entry, work⟩ := exec_level (dst := dst) (value := value) h haux he role hr
  obtain ⟨d, found, _⟩ := work.undisturbed.entry ch.toNat _
    ((entry_withEntry (by rw [entry, he]; rfl)).trans (if_pos rfl))
  refine ⟨t, _, r.taken e seen, done, found, rfl, fun same => ?_, fun new settled => ?_, fun new moves at_once => ?_,
    fun new moves loud timed => ?_⟩
  · exact if_pos same
  · rw [LevelRec.taken, if_neg new]
    exact (if_pos settled).trans (by rfl)
  · rw [LevelRec.taken, if_neg new]
    exact (if_neg moves).trans (if_pos at_once.symm)
  · rw [LevelRec.taken, if_neg new]
    exact (if_neg moves).trans (if_neg fun k => k.elim timed loud)

/-! ### Refreshes (R37) -/

/-- Settles O17: the restarted timer and the frame inserted leave the part at rest but for the arbiter's decision. -/
theorem refreshesRepeatTheSentDemand : Obligations.RefreshesRepeatTheSentDemand := by
  intro ch s e d he hd due h
  let u := s.withEntry ch.toNat { e with drive := some { d with refresh := 500 } }
  have rest : u.atRest = true := atRest_refreshed 500 he hd h
  have found : refreshDue s ch.toNat = some (e, d) := by simp [refreshDue, he, hd, due]
  have done : exec (.refreshTimerExpiry ch) s = .next (arbitrate (insertFrame (.demand ch.toNat d.sent) u)) := by
    show Host.Outcome.next (whenDue (refreshDue s ch.toNat).isSome (refreshWork ch.toNat) s) = _
    have work : refreshWork ch.toNat s = insertFrame (.demand ch.toNat d.sent) u := by simp [refreshWork, found]; rfl
    rw [whenDue, if_pos (by rw [found]; rfl), work, finish, (sameJudged_insertFrame _ u).closeEvent rest]
  have changed : OnlyChanges [.outlet, .sat] u (arbitrate (insertFrame (.demand ch.toNat d.sent) u)) :=
    onlyChanges_arbitrate_insertFrame nofun (atRest_iff.mp rest).2.2.2.1
  refine ⟨_, done, ((onlyChanges_withChannels s _).trans changed).mono (by simp), changed .channels (by simp),
    sentOrLost_arbitrate (u := u) (le_refl s.sat.insertLoss.toNat) rfl rfl⟩

end Sys2Proof.Machine

/-!
SUPPORT. Orders taken by a part at rest: how the body of an order and its REPLY make the next state; and the statements about START's
checks, holds, fault orders, counts and SOFT_RESET.
-/

namespace Sys2Proof.Machine

/-! ### Orders taken (R187, R188) -/

theorem managerRefuses_of_admits {src : Byte} {s : State} (code : Nat) (h : ManagerAdmits src s) :
    managerRefuses (addrOf src) code (arrived s) = false := by
  have params : (arrived s).params = s.params := rfl
  rcases h with h | h <;> simp [managerRefuses, params, h]

/-- An order taken from a source it is open to: its body, the end of its event, and its REPLY. -/
theorem exec_order {c : Instr} {o : OrderFields} {s : State} {a : Answer} (ho : orderFields c = some o) (h : Taken o s)
    (admits : ManagerAdmits o.src s) (body : orderBody o.code.toNat o.data (arrived s) = a) :
    exec c s = .next (arbitrate (reply (addrOf o.src) o.code o.tag a.data (closeEvent a.state))) := by
  have free : (arrived s).agent.slot = .free := h.free
  rw [exec_of_orderFields s ho, receiveOrder_reaches h.reaches h.fits, takeOrder, if_pos free]
  simp only [decideOrder, managerRefuses_of_admits _ admits, Bool.false_eq_true, if_false, body]

/-- An order whose body leaves the rest and the sending side as they were, with room for its REPLY. -/
theorem exec_answered {c : Instr} {o : OrderFields} {s : State} {a : Answer} (ho : orderFields c = some o) (h : Taken o s)
    (admits : ManagerAdmits o.src s) (room : s.outlet.queue.length < Config.insertCapacity)
    (body : orderBody o.code.toNat o.data (arrived s) = a) (judged : SameJudged s a.state)
    (link : a.state.link = (arrived s).link) (outlet : a.state.outlet = s.outlet) (hn : resetTaken o.code a.data = false) :
    ∃ t, exec c s = .next t ∧ Answered o a.data s t ∧ OutletAlone a.state t := by
  have port : portSettled a.state = true := by
    have settled := (atRest_iff.mp h.rest).2.2.2.1
    unfold portSettled at settled ⊢
    rw [link, outlet]
    exact settled
  obtain ⟨sends, slot, alone⟩ := reply_alone (dst := addrOf o.src) (tag := o.tag) (outlet ▸ room) port hn
  refine ⟨_, exec_order ho h admits body, ?_, ?_⟩ <;> rw [judged.closeEvent h.rest]
  · exact ⟨alone.link.trans link, sends, slot.trans (by rw [slotAfterReply, outlet]; rfl)⟩
  · exact alone

/-- An order whose body changes nothing reports. -/
theorem reports_of_body {c : Instr} {o : OrderFields} {s : State} {d : List Byte} (alone : TakenAlone c s)
    (write : TakenWrite c s) (ho : orderFields c = some o)
    (body : orderBody o.code.toNat o.data (arrived s) = { state := arrived s, data := d })
    (hn : resetTaken o.code d = false) : Reports c d s := by
  obtain ⟨_, same, _, room⟩ := alone
  obtain ⟨_, same', taken, admits⟩ := write
  cases ho.symm.trans same'
  obtain ⟨t, done, answered, rest⟩ := exec_answered ho taken admits room body (sameJudged_arrived s) rfl rfl hn
  exact ⟨o, t, ho, done, answered, ((onlyChanges_arrived s).trans rest.onlyChanges).mono (by simp), rest.judged.agent⟩

/-- A REPLY that answers no SOFT_RESET taken is inserted, and the slot is set or left. -/
theorem reply_ordinary {dst : Addr} {code tag : Byte} {d : List Byte} (s : State) (hn : resetTaken code d = false) :
    ∃ x, reply dst code tag d s = setSlot x (insertFrame (.reply dst code tag d) s) := by
  unfold reply
  simp only [hn, Bool.false_eq_true, if_false]
  split
  · exact ⟨(insertFrame (.reply dst code tag d) s).agent.slot, rfl⟩
  · exact ⟨_, rfl⟩

/-- An order that is carried out: what its event's end leaves stands but for the REPLY, the port, INSERT_LOSS and the slot. -/
theorem exec_carried {c : Instr} {o : OrderFields} {s : State} {a : Answer} (ho : orderFields c = some o) (h : Taken o s)
    (admits : ManagerAdmits o.src s) (body : orderBody o.code.toNat o.data (arrived s) = a)
    (link : a.state.link = (arrived s).link) (loss : s.sat.insertLoss.toNat ≤ a.state.sat.insertLoss.toNat)
    (hn : resetTaken o.code a.data = false) :
    ∃ t, Carries c a.data s t ∧ Work (closeEvent a.state) t ∧ SameJudged (closeEvent a.state) t ∧
      OnlyChanges [.outlet, .sat, .agent] (closeEvent a.state) t := by
  obtain ⟨x, replied⟩ := reply_ordinary (dst := addrOf o.src) (tag := o.tag) (closeEvent a.state) hn
  have done := exec_order ho h admits body
  have closed := (work_closeEvent a.state).undisturbed
  rw [replied] at done
  refine ⟨_, ⟨o, ho, done, ?_, sentOrLost_arbitrate (loss.trans closed.loss) rfl rfl⟩, ?_, ?_, ?_⟩
  · refine (outletAlone_arbitrate _).link.trans (((work_insertFrame _ _).undisturbed.link.trans closed.link).trans link)
  · exact ((work_insertFrame _ _).trans (.slot _ x)).trans (work_arbitrate _)
  · exact ((sameJudged_insertFrame _ _).trans (sameJudged_setSlot x _)).trans (sameJudged_arbitrate _)
  · exact (((onlyChanges_insertFrame _ _).trans (onlyChanges_withAgent _ _)).trans
      (outletAlone_arbitrate _).onlyChanges).mono (by simp)

/-! ### Lists in the order of their numbers -/

/-- In a list in ascending order the first that passes a test is found. -/
theorem find?_first {α : Type} (key : α → Nat) {l : List α} (hl : l.Pairwise fun a b => key a < key b) {p : α → Bool} {a : α}
    (ha : a ∈ l) (hp : p a = true) (first : ∀ b, key b < key a → p b = false) : l.find? p = some a := by
  obtain ⟨before, after, rfl⟩ := List.append_of_mem ha
  refine List.find?_eq_some_iff_append.mpr ⟨hp, before, after, rfl, fun b hb => ?_⟩
  rw [first b ((List.pairwise_append.mp hl).2.2 b hb a (by simp))]
  rfl

theorem mem_zones (z : Zone) : z ∈ Zone.all := by cases z <;> decide
theorem mem_circuits (c : Circuit) : c ∈ Circuit.all := by cases c <;> decide
theorem mem_faultCodes (e : FaultCode) : e ∈ FaultCode.all := by cases e <;> decide
theorem zones_ascend : Zone.all.Pairwise fun y z => zoneNumber y < zoneNumber z := by decide
theorem circuits_ascend : Circuit.all.Pairwise fun j k => circuitNumber j < circuitNumber k := by decide
theorem faultCodes_ascend : FaultCode.all.Pairwise fun e f => e.code < f.code := by decide

/-! ### START's checks (R27, R71, R77) -/

theorem complete_iff {s : State} {l : List Role} : s.complete l = true ↔ ∀ r ∈ l, s.mapped r = true := List.all_eq_true

theorem incomplete_iff {s : State} {l : List Role} :
    s.incomplete l = true ↔ (∃ r ∈ l, s.mapped r = true) ∧ ¬ ∀ r ∈ l, s.mapped r = true := by
  rw [State.incomplete, Bool.and_eq_true, Bool.not_eq_true', ← Bool.not_eq_true, complete_iff, List.any_eq_true]

theorem complete_of_some {s : State} {l : List Role} (h : (∃ r ∈ l, s.mapped r = true) → ∀ r ∈ l, s.mapped r = true) :
    s.incomplete l = false := by
  rw [← Bool.not_eq_true, incomplete_iff]
  exact fun k => k.2 (h k.1)

/-- Every zone that has a role has its six, and every circuit its two. -/
structure MapWhole (s : State) : Prop where
  zones : ∀ z, s.incomplete (zoneRoles z) = false
  circuits : ∀ c, s.incomplete (circuitRoles c) = false

theorem mapFault_partialZone {s : State} {z : Zone} (h : s.incomplete (zoneRoles z) = true)
    (first : ∀ y, zoneNumber y < zoneNumber z → s.incomplete (zoneRoles y) = false) : mapFault s = some (.partialZone z) := by
  unfold mapFault
  rw [find?_first zoneNumber zones_ascend (mem_zones z) h first]

theorem mapFault_partialChill {s : State} {c : Circuit} (zones : ∀ z, s.incomplete (zoneRoles z) = false)
    (h : s.incomplete (circuitRoles c) = true)
    (first : ∀ j, circuitNumber j < circuitNumber c → s.incomplete (circuitRoles j) = false) :
    mapFault s = some (.partialChill c) := by
  unfold mapFault
  rw [List.find?_eq_none.mpr fun z _ => by simp [zones z], find?_first circuitNumber circuits_ascend (mem_circuits c) h first]

theorem mapFault_whole {s : State} (h : MapWhole s) :
    mapFault s =
      if !s.mapped .exhaust then some .noExhaust
      else if !s.mapped .speed then some .noSpeed
      else if !s.mapped .position then some .noPosition
      else if Zone.all.any fun z => s.complete (zoneRoles z) then none
      else some .noZone := by
  unfold mapFault
  rw [List.find?_eq_none.mpr fun z _ => by simp [h.zones z], List.find?_eq_none.mpr fun c _ => by simp [h.circuits c]]

/-- A START that fails a check in COLD or COOLDOWN reports its first reason (R77). -/
theorem reports_start {src dst tag : Byte} {s : State} {f : StartFault} (alone : TakenAlone (.start src dst tag) s)
    (write : TakenWrite (.start src dst tag) s) (state : s.line.state = .cold ∨ s.line.state = .cooldown)
    (h : startFault s = some f) :
    Reports (.start src dst tag) [f.status.octet, BitVec.ofNat 8 f.code, BitVec.ofNat 8 f.index] s := by
  have refused : startBody (arrived s) = lineAnswer f.status f.code f.index (arrived s) := by
    unfold startBody
    rw [if_pos (show (arrived s).line.state = .cold ∨ (arrived s).line.state = .cooldown from state),
      show startFault (arrived s) = startFault s from rfl, h]
  exact reports_of_body alone write rfl refused rfl

/-- Settles O34, check by check. -/
theorem startChecksMapAndTable : Obligations.StartChecksMapAndTable := by
  intro src dst tag s c some6 all6 some2 all2 zonesWhole whole alone write state noTrip
  have failing : ∀ f, mapFault s = some f → startFault s = some f := fun f hf => by simp [startFault, noTrip, hf]
  have zonesOf : zonesWhole → ∀ z, s.incomplete (zoneRoles z) = false := fun h z => complete_of_some (h z)
  have wholeOf : whole → MapWhole s := fun h => ⟨zonesOf h.1, fun k => complete_of_some (h.2 k)⟩
  refine ⟨fun z part missing first => ?_, fun k zones part missing first => ?_, fun h noExhaust => ?_,
    fun h exhaust noSpeed => ?_, fun h exhaust speed noPosition => ?_, fun h exhaust speed position => ⟨fun none => ?_, ?_, ?_⟩⟩
  · exact reports_start (f := .partialZone z) alone write state (failing _
      (mapFault_partialZone (incomplete_iff.mpr ⟨part, missing⟩) fun y hy => complete_of_some (first y hy)))
  · exact reports_start (f := .partialChill k) alone write state (failing _
      (mapFault_partialChill (zonesOf zones) (incomplete_iff.mpr ⟨part, missing⟩) fun j hj => complete_of_some (first j hj)))
  · exact reports_start (f := .noExhaust) alone write state (failing _ (by simp [mapFault_whole (wholeOf h), noExhaust]))
  · exact reports_start (f := .noSpeed) alone write state
      (failing _ (by simp [mapFault_whole (wholeOf h), exhaust, noSpeed]))
  · exact reports_start (f := .noPosition) alone write state
      (failing _ (by simp [mapFault_whole (wholeOf h), exhaust, speed, noPosition]))
  · have noZone : (Zone.all.any fun z => s.complete (zoneRoles z)) = false :=
      List.any_eq_false.mpr fun z _ => fun all => none z (complete_iff.mp all)
    exact reports_start (f := .noZone) alone write state
      (failing _ (by simp [mapFault_whole (wholeOf h), exhaust, speed, position, noZone]))
  all_goals
    have mapped : ∀ z, all6 z → mapFault s = none := fun z all => by
      have zone : (Zone.all.any fun z => s.complete (zoneRoles z)) = true :=
        List.any_eq_true.mpr ⟨z, mem_zones z, complete_iff.mpr all⟩
      simp [mapFault_whole (wholeOf h), exhaust, speed, position, zone]
  · rintro ⟨z, all⟩ empty
    exact reports_start (f := .noTable) alone write state (by simp [startFault, noTrip, mapped z all, startTableFault, empty])
  · intro r rs z rows all unused first
    have found : (Zone.all.find? fun z => s.complete (zoneRoles z) && !r.uses z) = some z := by
      refine find?_first zoneNumber zones_ascend (mem_zones z) (by simp [complete_iff.mpr all, unused]) fun y hy => ?_
      rw [Bool.and_eq_false_iff, ← Bool.not_eq_true, complete_iff]
      exact (em (all6 y)).symm.imp id fun k => by simp [first y hy k]
    exact reports_start (f := .tableMask z) alone write state
      (by simp [startFault, noTrip, mapped z all, startTableFault, rows, found])

/-! ### Counts and SOFT_RESET (R20, R196, R197) -/

theorem arbitrate_agent {s : State} (h : s.agent.slot ≠ .occupied) : (arbitrate s).agent = s.agent := by
  obtain same | ⟨f, q, _, started⟩ | ⟨_, started⟩ := arbitrate_cases s
  · rw [same]
  · rw [started]
    unfold startInserted
    dsimp only
    split
    · rename_i reply; exact absurd reply.2 h
    · rfl
  · rw [started]; rfl

theorem Closed.closeEvent {s : State} (h : Closed s) : closeEvent s = s :=
  closeEvent_of_settled h.store h.drives h.faults h.grants

theorem fresh_softResetEffect (s : State) : Fresh (softResetEffect s) :=
  { fresh_reset with commit := commitStatus_softReset _ _ }

/-- With an empty insert queue and a free port the arbiter starts the through buffer's head, or nothing (R16). -/
theorem arbitrate_empty {s : State} (port : s.outlet.port = none) (queue : s.outlet.queue = []) :
    ∃ p n, arbitrate s = s.withOutlet { s.outlet with port := p, runCount := n } ∧
      (s.link.through = [] → p = none ∧ n = s.outlet.runCount) := by
  cases through : s.link.through with
  | nil =>
    have same : arbitrate s = s := arbitrate_of_settled (by simp [portSettled, through, queue])
    exact ⟨none, s.outlet.runCount, by rw [same, ← port]; rfl, fun _ => ⟨rfl, rfl⟩⟩
  | cons f l => exact ⟨_, _, arbitrate_through_alone port (by simp [through]) queue, nofun⟩

theorem unconfigured_softResetEffect {s : State} (retain : ¬ s.params.retain = 1) (map : s.channels.length = 128) :
    Unconfigured (softResetEffect s) := by
  have off : (s.params.retain == 1) = false := beq_eq_false_iff_ne.mpr retain
  refine ⟨⟨(List.length_map _).trans map, fun e he => ?_⟩, ?_, ?_, ?_⟩
  · obtain ⟨x, _, rfl⟩ := List.mem_map.mp he
    rw [off]
    rfl
  · show (s.store.softReset (s.params.retain == 1)).active = _ ∧ (s.store.softReset (s.params.retain == 1)).shadow = _
    rw [off]
    exact ⟨rfl, rfl⟩
  · show (if s.params.retain == 1 then s.faults.enable else 0xFFFF) = _
    rw [off]
    rfl
  · show (if s.params.retain == 1 then s.params else .init) = _
    rw [off]
    rfl

/-- What a SOFT_RESET with RETAIN at 1 keeps: the table, the parameters, the enables, and the map with its records renewed (R42,
R72, R184, R195). -/
theorem retained_softResetEffect {s : State} (retain : s.params.retain = 1) :
    (softResetEffect s).store.active = s.store.active ∧ (softResetEffect s).store.shadow = s.store.shadow ∧
      (softResetEffect s).params = s.params ∧ (softResetEffect s).faults.enable = s.faults.enable ∧
      (softResetEffect s).channels = s.channels.map Entry.renewed := by
  have on : (s.params.retain == 1) = true := beq_iff_eq.mpr retain
  refine ⟨?_, ?_, ?_, ?_, ?_⟩
  · show (s.store.softReset (s.params.retain == 1)).active = _; rw [on]; rfl
  · show (s.store.softReset (s.params.retain == 1)).shadow = _; rw [on]; rfl
  · show (if s.params.retain == 1 then s.params else .init) = _; rw [on]; rfl
  · show (if s.params.retain == 1 then s.faults.enable else 0xFFFF) = _; rw [on]; rfl
  · show s.channels.map (Entry.softReset (s.params.retain == 1)) = _; rw [on]; rfl

/-- Settles O58: READ_COUNTS by its body, SOFT_RESET by its REPLY's insertion and by the end of its transmission. -/
theorem countsAndSoftReset : Obligations.CountsAndSoftReset := by
  refine ⟨?_, fun src dst tag s alone write => ⟨fun notCold notLockout => ?_, fun state => ?_⟩, ?_⟩
  · intro src dst tag s alone write w x
    obtain ⟨o, ho, taken, room⟩ := alone
    obtain ⟨_, ho', _, admits⟩ := write
    cases ho; cases ho'
    obtain ⟨t, done, answered, rest⟩ := exec_answered (c := .readCounts src dst tag [])
      (a := readCountsBody (arrived s)) rfl taken admits room rfl
      ((sameJudged_arrived s).trans (sameJudged_withSat _ _)) rfl rfl rfl
    exact ⟨_, t, rfl, done, answered,
      (((onlyChanges_arrived s).trans (onlyChanges_withSat _ _)).trans rest.onlyChanges).mono (by simp), rest.sat,
      rest.judged.agent⟩
  · have refused : softResetBody (arrived s) = .status .refusedState (arrived s) :=
      if_neg (not_or.mpr ⟨notCold, notLockout⟩)
    exact reports_of_body alone write rfl refused rfl
  · obtain ⟨o, ho, taken, room⟩ := alone
    obtain ⟨_, ho', _, admits⟩ := write
    cases ho; cases ho'
    have body : softResetBody (arrived s) = .status .done (arrived s) := if_pos state
    have done := exec_order (c := .softReset src dst tag []) rfl taken admits body
    obtain ⟨q, hq⟩ := queueInsert_room (f := .reply (addrOf src) 0x2A tag [0]) room
    have replied : reply (addrOf src) 0x2A tag [0] (arrived s) =
        setSlot .resetPending ((arrived s).withOutlet { s.outlet with queue := q }) := reply_room (s := arrived s) hq
    rw [show (Answer.status Status.done (arrived s)).state = arrived s from rfl,
      (sameJudged_arrived s).closeEvent taken.rest] at done
    refine ⟨_, done.trans (congrArg (fun u => Host.Outcome.next (arbitrate u)) replied), ?_, ?_, ?_⟩
    · exact ((((onlyChanges_arrived s).trans (onlyChanges_withOutlet _ _)).trans (onlyChanges_withAgent _ _)).trans
        (outletAlone_arbitrate _).onlyChanges).mono (by simp)
    · exact arbitrate_agent nofun
    · exact sends_arbitrate (queueInsert_mem hq)
  · intro dst tag s port slot kept renewed
    let u := countWrap (fun w => { w with txInserted := wrapInc w.txInserted }) (freePort s)
    have done : exec .txFrameDone s = .next (arbitrate (softResetEffect u)) := by
      have work : txDoneWork s = softResetEffect u := by
        unfold txDoneWork
        rw [port]
        exact if_pos ⟨rfl, slot⟩
      show Host.Outcome.next (if s.outlet.port.isSome then finish (txDoneWork s) else s) = _
      rw [if_pos (by rw [port]; rfl), work, finish, (closed_softResetEffect u).closeEvent]
    obtain ⟨p, n, decided, idle⟩ := arbitrate_empty (s := softResetEffect u) rfl rfl
    have fresh := fresh_softResetEffect u
    rw [decided] at done
    refine ⟨_, done, { fresh with }, rfl, rfl, rfl, fun through => ?_, rfl, fun retain => ?_, fun retain map => ?_⟩
    · exact idle (by show s.link.through.map _ = []; rw [through]; rfl)
    · exact retained_softResetEffect (s := u) retain
    · exact { unconfigured_softResetEffect (s := u) retain map with }

end Sys2Proof.Machine

/-!
SUPPORT. What an event that changes the sources of demands ends with, and what the taking of a fault entry leaves: the statement
about SET_HOLD, SET_FAULT_ENABLE and FAULT_TAKE.
-/

namespace Sys2Proof.Machine

/-! ### The drive stage alone (R35, R36, R40, R41) -/

theorem faultsSettled_driveStage {s : State} (h : faultsSettled s = true) : faultsSettled (driveStage s) = true := by
  rw [(driveStage_same s).faults_settled]
  unfold faultsSettled at h ⊢
  rw [conditionMask_of_undriven (by simp [Function.comp_def])]
  exact h

/-- Where the drive records alone have something to follow, an event ends with the drive stage. -/
theorem closeEvent_of_drives {s : State} (store : storeSettled s = true) (faults : faultsSettled s = true)
    (grants : grantsPaid s = true) : closeEvent s = driveStage s := by
  have paid : grantsPaid (driveStage s) = true := (driveStage_same s).grants_paid.trans grants
  unfold closeEvent
  rw [settleStore_of_settled store, payGrants_of_paid paid, sweepFaults_of_settled (faultsSettled_driveStage faults)]

theorem entry_driveStage (s : State) (ch : Nat) :
    (driveStage s).entry ch = (s.entry ch).map fun e => (followEntry s e).paid := by
  unfold State.entry
  rw [(driveStage_same s).channels]
  simp [Function.comp_def]

/-- A record settled at its source stands. -/
theorem paid_followed_same {c : Int} {b : Bool} {d : DriveRec} (h : d.settled c b) :
    { d.followed c b with owed := false } = d := by
  rw [followed_of_settled h, ← h.2]

/-- A hold that begins holds the sent demand (R40). -/
theorem paid_followed_begins {c : Int} {d : DriveRec} (h : d.settled c false) :
    { d.followed c true with owed := false } = { d with held := some d.sent } := by
  obtain ⟨computed, free, _⟩ := settled_cases h
  obtain ⟨_, none⟩ := free rfl
  have paid := h.2
  rcases d with ⟨x, y, z, n, o⟩
  simp_all [DriveRec.followed, DriveRec.follow]

/-- A hold that ends gives the computed demand back (R41). -/
theorem paid_followed_ends {c : Int} {d : DriveRec} (h : d.settled c true) :
    ∃ n, { d.followed c false with owed := false } =
      ({ computed := d.computed, sent := d.computed, held := none, refresh := n, owed := false } : DriveRec) := by
  obtain ⟨computed, _, _⟩ := settled_cases h
  subst computed
  unfold DriveRec.followed
  dsimp only
  split
  · exact ⟨d.refresh, rfl⟩
  · exact ⟨Config.refreshMs, rfl⟩

/-! ### Bits of the fault mask (R190) -/

theorem getLsbD_bit (e : FaultCode) {i : Nat} (hi : i < 16) : e.bit.getLsbD i = decide (i + 1 = e.code) := by
  revert i
  cases e <;> decide

theorem code_injective {e f : FaultCode} (h : e.code = f.code) : e = f :=
  List.inj_on_of_nodup_map (by decide : (FaultCode.all.map FaultCode.code).Nodup) (mem_faultCodes e) (mem_faultCodes f) h

/-- At an entry's bit the mask of the conditions is the entry's condition. -/
theorem getLsbD_conditionMask (s : State) {e : FaultCode} {i : Nat} (hi : i < 16) (he : e.bit.getLsbD i = true) :
    s.conditionMask.getLsbD i = faultCondition s e := by
  rw [getLsbD_bit e hi, decide_eq_true_eq] at he
  unfold State.conditionMask
  rw [getLsbD_faultMask, Bool.eq_iff_iff]
  simp only [List.any_eq_true, Bool.and_eq_true, getLsbD_bit _ hi, decide_eq_true_eq]
  constructor
  · rintro ⟨f, _, condition, code⟩
    rwa [code_injective (he.symm.trans code)]
  · exact fun condition => ⟨e, mem_faultCodes e, condition, he⟩

/-- What a sweep leaves when one more entry is taken: the entry leaves exactly when its condition is absent (R183). -/
theorem swept_take {s : State} (e : FaultCode) (settled : s.faults.pending &&& s.faults.taken &&& ~~~ s.conditionMask = 0) :
    s.faults.pending &&& (~~~ (s.faults.taken ||| e.bit) ||| s.conditionMask) =
      if faultCondition s e then s.faults.pending else s.faults.pending &&& ~~~ e.bit := by
  refine BitVec.eq_of_getLsbD_eq fun i hi => ?_
  have old := congrArg (fun x : Half => x.getLsbD i) settled
  have own : e.bit.getLsbD i = true → s.conditionMask.getLsbD i = faultCondition s e := getLsbD_conditionMask s hi
  rw [apply_ite (fun x : Half => x.getLsbD i)]
  simp only [BitVec.getLsbD_and, BitVec.getLsbD_or, BitVec.getLsbD_not, hi, decide_true, Bool.true_and] at old ⊢
  revert old own
  cases s.faults.pending.getLsbD i <;> cases s.faults.taken.getLsbD i <;> cases e.bit.getLsbD i <;>
    cases s.conditionMask.getLsbD i <;> cases faultCondition s e <;> simp

/-- A sweep leaves the entries that are not taken and those whose condition is present (R183). -/
theorem sweepFaults_eq (s : State) : ∃ out, sweepFaults s = s.withFaults
    { s.faults with pending := s.faults.pending &&& (~~~ s.faults.taken ||| s.conditionMask), out := out } := by
  unfold sweepFaults
  split
  · rename_i untaken
    refine ⟨s.faults.out, ?_⟩
    rw [mask_sweep _ _ _ (by simp [untaken])]
    rfl
  · exact ⟨_, rfl⟩

/-! ### The orders -/

/-- An order whose body ends where its event ends is carried out with its body's state beside the REPLY. -/
theorem exec_carried_closed {c : Instr} {o : OrderFields} {s : State} {a : Answer} (ho : orderFields c = some o)
    (h : Taken o s) (admits : ManagerAdmits o.src s) (body : orderBody o.code.toNat o.data (arrived s) = a)
    (closed : Closed a.state) (link : a.state.link = (arrived s).link)
    (loss : s.sat.insertLoss.toNat ≤ a.state.sat.insertLoss.toNat) (hn : resetTaken o.code a.data = false) :
    ∃ t, Carries c a.data s t ∧ SameJudged a.state t ∧ OnlyChanges [.outlet, .sat, .agent] a.state t := by
  obtain ⟨t, carries, _, judged, only⟩ := exec_carried ho h admits body link loss hn
  rw [closed.closeEvent] at judged only
  exact ⟨t, carries, judged, only⟩

theorem onlyChanges_arrived_withFaults (s : State) (x : Faults) :
    OnlyChanges [.link, .faults] s ((arrived s).withFaults x) :=
  ((onlyChanges_arrived s).trans (onlyChanges_withFaults _ x)).mono (by simp)

/-- Conditions do not read the collector, nor the receiver. -/
theorem conditionMask_arrived_withFaults (s : State) (x : Faults) :
    ((arrived s).withFaults x).conditionMask = s.conditionMask := faultMask_congr fun e => by cases e <;> rfl

/-- A part at rest is closed where only its collector changes and is settled. -/
theorem closed_arrived_withFaults {s : State} (h : s.atRest = true) {x : Faults}
    (faults : faultsSettled ((arrived s).withFaults x) = true) : Closed ((arrived s).withFaults x) := by
  obtain ⟨drives, store, _, _, grants⟩ := atRest_iff.mp h
  exact { drives := (drivesFollow_withFaults _ x).trans ((sameJudged_arrived s).drives.trans drives), store, faults, grants }

theorem setHold_carries {src dst tag m : Byte} {s : State} (write : TakenWrite (.setHold src dst tag [m]) s) :
    ∃ t, Carries (.setHold src dst tag [m]) [0] s t ∧ SameJudged (driveStage ((arrived s).withHolds m)) t ∧
      OnlyChanges [.link, .outlet, .sat, .channels, .holds, .agent] s t := by
  obtain ⟨_, ho, taken, admits⟩ := write
  cases ho
  obtain ⟨_, store, faults, _, grants⟩ := atRest_iff.mp taken.rest
  have mask : ((arrived s).withHolds m).conditionMask = s.conditionMask := faultMask_congr fun e => by cases e <;> rfl
  have closes : closeEvent ((arrived s).withHolds m) = driveStage ((arrived s).withHolds m) :=
    closeEvent_of_drives store (by unfold faultsSettled at faults ⊢; rw [mask]; exact faults) grants
  obtain ⟨t, carries, _, judged, only⟩ := exec_carried (c := .setHold src dst tag [m])
    (a := setHoldBody [m] (arrived s)) rfl taken admits rfl rfl le_rfl rfl
  rw [show (setHoldBody [m] (arrived s)).state = (arrived s).withHolds m from rfl, closes] at judged only
  exact ⟨t, carries, judged, ((((onlyChanges_arrived s).trans (onlyChanges_withHolds _ m)).trans
    (onlyChanges_driveStage _)).trans only).mono (by simp)⟩

/-- What SET_HOLD makes of an entry with a drive record (R40, R41). -/
theorem setHold_entry {s t : State} {m : Byte} {ch : Nat} {e : Entry} {d : DriveRec} (rest : s.atRest = true)
    (judged : SameJudged (driveStage ((arrived s).withHolds m)) t) (he : s.entry ch = some e) (hd : e.drive = some d) :
    (d.settled (demandSource s e.role) (s.underHold e)) ∧
      t.entry ch = some
        { e with drive := some { d.followed (demandSource s e.role) (t.underHold e) with owed := false } } := by
  refine ⟨drivesFollow_iff.mp (atRest_iff.mp rest).1 e (List.mem_of_getElem? he) d hd, ?_⟩
  have source : demandSource ((arrived s).withHolds m) e.role = demandSource s e.role := by cases e.role <;> rfl
  have hold : t.underHold e = ((arrived s).withHolds m).underHold e :=
    (judged.hold e).trans ((driveStage_same _).hold e)
  have entries : t.entry ch = (driveStage ((arrived s).withHolds m)).entry ch := by
    unfold State.entry
    rw [judged.channels]
  rw [entries, entry_driveStage, show ((arrived s).withHolds m).entry ch = some e from he, hold, ← source]
  simp only [Option.map_some, Entry.paid, followEntry, hd]

theorem nextFault_eq {f : Faults} {e : FaultCode} (next : f.pending &&& e.bit ≠ 0 ∧ f.taken &&& e.bit = 0)
    (first : ∀ g : FaultCode, g.code < e.code → ¬ (f.pending &&& g.bit ≠ 0 ∧ f.taken &&& g.bit = 0)) :
    nextFault f = some e := by
  refine find?_first FaultCode.code faultCodes_ascend (mem_faultCodes e) ?_ fun g hg => ?_
  · rw [Bool.and_eq_true, bne_iff_ne, beq_iff_eq]
    exact next
  · rw [← Bool.not_eq_true, Bool.and_eq_true, bne_iff_ne, beq_iff_eq]
    exact first g hg

theorem nextFault_none {f : Faults} (h : ∀ g : FaultCode, ¬ (f.pending &&& g.bit ≠ 0 ∧ f.taken &&& g.bit = 0)) :
    nextFault f = none := by
  refine List.find?_eq_none.mpr fun g _ => ?_
  rw [Bool.and_eq_true, bne_iff_ne, beq_iff_eq]
  exact h g

/-- What a FAULT_TAKE that finds an entry leaves, and what it answers (R183, R185). -/
theorem faultTakeBody_found {s : State} {e : FaultCode} (settled : faultsSettled s = true)
    (found : nextFault s.faults = some e) (pending : s.faults.pending &&& e.bit ≠ 0) :
    ∃ out, faultTakeBody (arrived s) =
        { state := (arrived s).withFaults
            { s.faults with
              pending := if faultCondition s e then s.faults.pending else s.faults.pending &&& ~~~ e.bit
              taken := s.faults.taken ||| e.bit
              out := out }
          data := [0, BitVec.ofNat 8 e.code, if faultCondition s e then 1 else 0] } ∧
      faultsSettled (faultTakeBody (arrived s)).state = true := by
  obtain ⟨gone, output⟩ := Bool.and_eq_true_iff.mp settled
  let w := (arrived s).withFaults { s.faults with taken := s.faults.taken ||| e.bit }
  have body : faultTakeBody (arrived s) = .done
      (field1 e.code ++ flagField ((sweepFaults w).faults.pending &&& e.bit != 0)) (sweepFaults w) := by
    unfold faultTakeBody
    rw [show (arrived s).faults = s.faults from rfl, found]
  obtain ⟨out, swept⟩ := sweepFaults_eq w
  have left : w.faults.pending &&& (~~~ w.faults.taken ||| w.conditionMask) =
      if faultCondition s e then s.faults.pending else s.faults.pending &&& ~~~ e.bit := by
    rw [conditionMask_arrived_withFaults]
    exact swept_take e (of_decide_eq_true gone)
  rw [left] at swept
  have still : ((sweepFaults w).faults.pending &&& e.bit != 0) = faultCondition s e := by
    rw [swept]
    show ((if faultCondition s e then s.faults.pending else s.faults.pending &&& ~~~ e.bit) &&& e.bit != 0) = _
    cases faultCondition s e with
    | true => simpa using pending
    | false => simp [BitVec.and_assoc]
  refine ⟨out, ?_, ?_⟩
  · rw [body, still, swept]
    rfl
  · rw [body]
    exact faultsSettled_sweep w (beq_iff_eq.mp output)

/-- Settles O57: SET_HOLD by the drive stage, SET_FAULT_ENABLE by the output, FAULT_TAKE by the entry it finds and the sweep. -/
theorem holdsAndFaultOrdersTakeEffect : Obligations.HoldsAndFaultOrdersTakeEffect := by
  intro src dst tag s
  refine ⟨fun m write => ?_, fun lo hi write => ?_, fun write => ⟨fun none alone => ?_, fun e next first => ?_⟩⟩
  · obtain ⟨t, carries, judged, only⟩ := setHold_carries write
    obtain ⟨_, _, taken, _⟩ := write
    refine ⟨t, carries, judged.holds.trans (driveStage_same _).holds,
      only, judged.agent.trans (driveStage_same _).agent, fun ch e d he hd => ?_⟩
    obtain ⟨settled, entry⟩ := setHold_entry taken.rest judged he hd
    refine ⟨fun same => ?_, fun before after => ?_, fun before after => ?_⟩
    · rw [entry, same, paid_followed_same settled, ← hd]
    · rw [entry, after, paid_followed_begins (before ▸ settled)]
    · obtain ⟨n, ends⟩ := paid_followed_ends (before ▸ settled)
      exact ⟨n, by rw [entry, after, ends]⟩
  · obtain ⟨_, ho, taken, admits⟩ := write
    cases ho
    have gone := (Bool.and_eq_true_iff.mp (atRest_iff.mp taken.rest).2.2.1).1
    let x : Faults := ({ s.faults with enable := halfOf lo hi } : Faults).driven
    have settled : faultsSettled ((arrived s).withFaults x) = true := by
      unfold faultsSettled
      rw [conditionMask_arrived_withFaults]
      exact Bool.and_eq_true_iff.mpr ⟨gone, beq_iff_eq.mpr rfl⟩
    obtain ⟨t, carries, judged, only⟩ := exec_carried_closed (c := .setFaultEnable src dst tag [lo, hi])
      (a := setFaultEnableBody [lo, hi] (arrived s)) rfl taken admits rfl
      (closed_arrived_withFaults taken.rest settled) rfl le_rfl rfl
    exact ⟨t, carries, ((onlyChanges_arrived_withFaults s x).trans only).mono (by simp), judged.faults⟩
  · have body : faultTakeBody (arrived s) = { state := arrived s, data := [0, 0, 0] } := by
      unfold faultTakeBody
      rw [show (arrived s).faults = s.faults from rfl, nextFault_none none]
      rfl
    exact reports_of_body alone write rfl body rfl
  · obtain ⟨_, ho, taken, admits⟩ := write
    cases ho
    obtain ⟨out, body, settled⟩ := faultTakeBody_found (atRest_iff.mp taken.rest).2.2.1 (nextFault_eq next first) next.1
    rw [body] at settled
    obtain ⟨t, carries, judged, only⟩ := exec_carried_closed (c := .faultTake src dst tag []) rfl taken admits body
      (closed_arrived_withFaults taken.rest settled) rfl le_rfl rfl
    refine ⟨t, carries, ((onlyChanges_arrived_withFaults s _).trans only).mono (by simp), ?_, ?_, ?_⟩ <;>
      rw [judged.faults] <;> rfl

end Sys2Proof.Machine

/-!
SUPPORT. What a taken WRITE_MAP makes of the map and of the blocks that forget a role: the statement about WRITE_MAP.
-/

namespace Sys2Proof.Machine

/-! ### The holder of a role (R22) -/

theorem findRole_some {r : Role} {n c : Nat} {l : List Entry} {x : Entry} (h : findRole r n l = some (c, x)) :
    ∃ i, c = n + i ∧ l[i]? = some x ∧ x.role = r := by
  induction l generalizing n with
  | nil => cases h
  | cons e l ih =>
    unfold findRole at h
    split at h
    · rename_i role
      cases h
      exact ⟨0, rfl, rfl, role⟩
    · obtain ⟨i, hc, hx, role⟩ := ih h
      exact ⟨i + 1, by omega, hx, role⟩

theorem findRole_isSome {n : Nat} {l : List Entry} {x : Entry} (h : x ∈ l) : (findRole x.role n l).isSome = true := by
  induction l generalizing n with
  | nil => cases h
  | cons e l ih =>
    unfold findRole
    split
    · rfl
    · rename_i other
      rcases List.mem_cons.mp h with same | h
      · exact absurd (congrArg Entry.role same.symm) other
      · exact ih h

theorem roleChannel_some {s : State} {r : Role} {c : Nat} {x : Entry} (h : s.roleChannel r = some (c, x)) :
    s.entry c = some x ∧ x.role = r := by
  obtain ⟨i, rfl, hx, role⟩ := findRole_some h
  rw [Nat.zero_add]
  exact ⟨hx, role⟩

/-- Another channel holds the role: its first holder is another channel, where the channel itself does not hold it. -/
theorem roleTaken_of_holder {s : State} {ch k : Nat} {e x : Entry} {r : Role} (none : r ≠ .none) (forward : r ≠ .forward)
    (he : s.entry ch = some e) (own : r ≠ e.role) (hx : s.entry k = some x) (role : x.role = r) : roleTaken ch r s = true := by
  obtain ⟨⟨c, y⟩, first⟩ := Option.isSome_iff_exists.mp (findRole_isSome (n := 0) (List.mem_of_getElem? hx))
  rw [role] at first
  obtain ⟨hy, held⟩ := roleChannel_some first
  have other : c ≠ ch := by
    rintro rfl
    rw [he] at hy
    cases hy
    exact own held.symm
  unfold roleTaken
  rw [show s.roleChannel r = some (c, y) from first]
  simp [none, forward, other]

theorem roleTaken_eq_false {s : State} {ch : Nat} {r : Role}
    (h : ¬ (r ≠ .none ∧ r ≠ .forward ∧ ∃ k x, k ≠ ch ∧ s.entry k = some x ∧ x.role = r)) : roleTaken ch r s = false := by
  rw [← Bool.not_eq_true]
  intro found
  unfold roleTaken at found
  rw [Bool.and_eq_true, Bool.and_eq_true, bne_iff_ne, bne_iff_ne] at found
  obtain ⟨⟨none, forward⟩, holder⟩ := found
  cases first : s.roleChannel r with
  | none => rw [first] at holder; cases holder
  | some p =>
    rw [first] at holder
    obtain ⟨hx, role⟩ := roleChannel_some first
    exact h ⟨none, forward, p.1, p.2, bne_iff_ne.mp holder, hx, role⟩

/-! ### The entry written (R24, R25, R32, R34) -/

/-- An entry given the five fields of a WRITE_MAP, its runtime records apart. -/
structure GivenFields (f : MapFields) (e : Entry) : Prop where
  role : e.role = f.role
  holdGroup : e.holdGroup = f.holdGroup
  activeHigh : e.activeHigh = f.activeHigh
  confirmTime : e.confirmTime = f.confirmTime
  forward : e.forward = f.forward

theorem written_fields (f : MapFields) (e : Entry) : GivenFields f (e.written f) := by
  unfold Entry.written
  dsimp only
  split
  · exact ⟨rfl, rfl, rfl, rfl, rfl⟩
  · split <;> exact ⟨rfl, rfl, rfl, rfl, rfl⟩

theorem written_records {f : MapFields} {e : Entry} (h : f.role ≠ e.role) :
    (e.written f).level = freshLevel f.role ∧ (e.written f).drive = freshDrive f.role := by
  unfold Entry.written
  rw [if_pos h]
  exact ⟨rfl, rfl⟩

theorem written_level_same {f : MapFields} {e : Entry} (h : f.role = e.role) (high : f.activeHigh = e.activeHigh) :
    (e.written f).level = e.level := by
  unfold Entry.written
  rw [if_neg (not_not.mpr h), if_neg (not_not.mpr high)]

theorem written_level_rederived {f : MapFields} {e : Entry} (h : f.role = e.role) (high : f.activeHigh ≠ e.activeHigh) :
    (e.written f).level = e.level.map (LevelRec.rederived f.activeHigh) := by
  unfold Entry.written
  rw [if_neg (not_not.mpr h), if_pos high]

theorem isSome_freshDrive (r : Role) : (freshDrive r).isSome = true ↔ r.roleClass = .drive := by
  unfold freshDrive
  split <;> simp [*]

theorem rederived_silent {r : LevelRec} (b : Bool) (h : r.raw = none) : r.rederived b = { r with timer := none } := by
  unfold LevelRec.rederived
  rw [h]

theorem rederived_raw {r : LevelRec} {lvl : Bool} (b : Bool) (h : r.raw = some lvl) :
    r.rederived b = { r with confirmed := if lvl = b then .active else .inactive, timer := none } := by
  unfold LevelRec.rederived pointsTo
  rw [h]

/-! ### What a block forgets (R52, R125, R139) -/

/-- The reading of a role is none, and its tracker's part is reset. -/
structure Forgotten (r : Role) (s : State) : Prop where
  air : ∀ z, r = .zoneAir z → (s.zones.get z).air = .init
  lel : ∀ z, r = .lel z → (s.zones.get z).lel = .init
  web : ∀ c, r = .chillWeb c → (s.circuits.get c).web = .init
  speed : r = .speed → s.tracker = { Tracker.init with lastPosition := s.tracker.lastPosition }
  position : r = .position → s.tracker.lastPosition = none

theorem air_forgetRole (r : Role) (s : State) (z : Zone) :
    ((forgetRole r s).zones.get z).air = if r = .zoneAir z then .init else (s.zones.get z).air := by
  cases r
  case zoneAir y | lel y =>
    show ((s.zones.set y _).get z).air = _
    rw [PerZone.get_set]
    cases y <;> cases z <;> rfl
  all_goals rfl

theorem lel_forgetRole (r : Role) (s : State) (z : Zone) :
    ((forgetRole r s).zones.get z).lel = if r = .lel z then .init else (s.zones.get z).lel := by
  cases r
  case zoneAir y | lel y =>
    show ((s.zones.set y _).get z).lel = _
    rw [PerZone.get_set]
    cases y <;> cases z <;> rfl
  all_goals rfl

theorem web_forgetRole (r : Role) (s : State) (c : Circuit) :
    ((forgetRole r s).circuits.get c).web = if r = .chillWeb c then .init else (s.circuits.get c).web := by
  cases r
  case chillWeb k =>
    show ((s.circuits.set k _).get c).web = _
    rw [PerCircuit.get_set]
    cases k <;> cases c <;> rfl
  all_goals rfl

theorem lastPosition_forgetRole (r : Role) (s : State) :
    (forgetRole r s).tracker.lastPosition = if r = .position then none else s.tracker.lastPosition := by
  cases r <;> rfl

/-- Beside the last position the tracker forgets for SPEED alone (R52). -/
theorem tracker_forgetRole (r : Role) (s : State) (p : Option Nat) :
    { (forgetRole r s).tracker with lastPosition := p } =
      if r = .speed then { Tracker.init with lastPosition := p } else { s.tracker with lastPosition := p } := by
  cases r <;> rfl

theorem forgotten_forgetRole (r : Role) (s : State) : Forgotten r (forgetRole r s) where
  air z h := (air_forgetRole r s z).trans (if_pos h)
  lel z h := (lel_forgetRole r s z).trans (if_pos h)
  web c h := (web_forgetRole r s c).trans (if_pos h)
  speed h := (tracker_forgetRole r s _).trans (if_pos h)
  position h := (lastPosition_forgetRole r s).trans (if_pos h)

/-- What is forgotten stays so when a second role is. -/
theorem Forgotten.stays {r : Role} {s : State} (h : Forgotten r s) (q : Role) : Forgotten r (forgetRole q s) where
  air z hz := by rw [air_forgetRole, h.air z hz, ite_self]
  lel z hz := by rw [lel_forgetRole, h.lel z hz, ite_self]
  web c hc := by rw [web_forgetRole, h.web c hc, ite_self]
  speed hr := by
    have rest := tracker_forgetRole q s (forgetRole q s).tracker.lastPosition
    rw [h.speed hr] at rest
    exact rest.trans (ite_self _)
  position hr := by rw [lastPosition_forgetRole, h.position hr, ite_self]

theorem Forgotten.undisturbed {r : Role} {s t : State} (h : Forgotten r s) (k : Undisturbed s t) : Forgotten r t where
  air z hz := (k.zones z).1.trans (h.air z hz)
  lel z hz := (k.zones z).2.trans (h.lel z hz)
  web c hc := (k.circuits c).trans (h.web c hc)
  speed hr := by rw [k.tracker]; exact h.speed hr
  position hr := by rw [k.tracker]; exact h.position hr

/-! ### WRITE_MAP (R24) -/

/-- The part as the fields of a taken WRITE_MAP leave it, before the supervisor and the purge test look at it. -/
def mapWritten (ch : Nat) (f : MapFields) (e : Entry) (s : State) : State :=
  if f.role ≠ e.role then forgetRole f.role (forgetRole e.role (s.withEntry ch (e.written f)))
  else s.withEntry ch (e.written f)

theorem mapWritten_changed {ch : Nat} {f : MapFields} {e : Entry} {s : State} (h : f.role ≠ e.role) :
    mapWritten ch f e s = forgetRole f.role (forgetRole e.role (s.withEntry ch (e.written f))) := if_pos h

theorem mapWritten_kept {ch : Nat} {f : MapFields} {e : Entry} {s : State} (h : f.role = e.role) :
    mapWritten ch f e s = s.withEntry ch (e.written f) := if_neg (not_not.mpr h)

theorem work_writeMapTaken (ch : Nat) (f : MapFields) (e : Entry) (s : State) :
    Work (mapWritten ch f e s) (writeMapTaken ch f e s) := by
  unfold writeMapTaken mapWritten
  dsimp only
  split
  · exact work_purgeTested _
  · exact (work_superviseRederived _ _ _).trans (work_purgeTested _)

/-- The blocks that forgetting a role leaves alone. -/
structure KeptByForgetting (s t : State) : Prop where
  link : t.link = s.link
  sat : t.sat = s.sat
  params : t.params = s.params
  channels : t.channels = s.channels

theorem kept_forgetRole (r : Role) (s : State) : KeptByForgetting s (forgetRole r s) := by
  cases r <;> exact ⟨rfl, rfl, rfl, rfl⟩

theorem kept_mapWritten (ch : Nat) (f : MapFields) (e : Entry) (s : State) :
    KeptByForgetting (s.withEntry ch (e.written f)) (mapWritten ch f e s) := by
  unfold mapWritten
  split
  · have first := kept_forgetRole e.role (s.withEntry ch (e.written f))
    have second := kept_forgetRole f.role (forgetRole e.role (s.withEntry ch (e.written f)))
    exact ⟨second.link.trans first.link, second.sat.trans first.sat, second.params.trans first.params,
      second.channels.trans first.channels⟩
  · exact ⟨rfl, rfl, rfl, rfl⟩

theorem entry_mapWritten {ch : Nat} {f : MapFields} {e : Entry} {s : State} (he : s.entry ch = some e) (k : Nat) :
    (mapWritten ch f e s).entry k = if k = ch then some (e.written f) else s.entry k := by
  rw [← entry_withEntry (by simp [he])]
  unfold State.entry
  rw [(kept_mapWritten ch f e s).channels]

/-- A WRITE_MAP taken: what its fields leave stands, but for the work of the event. -/
theorem writeMap_carries {src dst tag : Byte} {data : List Byte} {s : State} {ch : Nat} {f : MapFields} {e : Entry}
    (write : TakenWrite (.writeMap src dst tag data) s) (parsed : parseMap data = some (ch, f)) (he : s.entry ch = some e)
    (allowed : f.role = e.role ∨ s.line.state = .cold ∨ s.line.state = .lockout) (free : roleTaken ch f.role s = false) :
    ∃ t, Carries (.writeMap src dst tag data) [0] s t ∧ Undisturbed (mapWritten ch f e (arrived s)) t := by
  obtain ⟨_, ho, taken, admits⟩ := write
  cases ho
  have body : writeMapBody data (arrived s) = .status .done (writeMapTaken ch f e (arrived s)) := by
    have refused : ¬ (f.role ≠ e.role ∧ (arrived s).line.state ≠ .cold ∧ (arrived s).line.state ≠ .lockout) := by
      rintro ⟨role, cold, lockout⟩
      rcases allowed with same | same | same
      · exact role same
      · exact cold same
      · exact lockout same
    have free : ¬ roleTaken ch f.role (arrived s) = true := ne_true_of_eq_false free
    unfold writeMapBody
    simp only [parsed, show (arrived s).entry ch = some e from he, if_neg refused, if_neg free]
  have kept := kept_mapWritten ch f e (arrived s)
  have work := work_writeMapTaken ch f e (arrived s)
  have link : (writeMapTaken ch f e (arrived s)).link = (arrived s).link := work.undisturbed.link.trans kept.link
  have loss : s.sat.insertLoss.toNat ≤ (writeMapTaken ch f e (arrived s)).sat.insertLoss.toNat := by
    refine le_trans (le_of_eq ?_) work.undisturbed.loss
    rw [kept.sat]
    rfl
  obtain ⟨t, carries, after, _⟩ := exec_carried (c := .writeMap src dst tag data) rfl taken admits body link loss rfl
  exact ⟨t, carries, ((work.trans (work_closeEvent _)).trans after).undisturbed⟩

theorem reports_writeMap {src dst tag : Byte} {data : List Byte} {s : State} {st : Status}
    (alone : TakenAlone (.writeMap src dst tag data) s) (write : TakenWrite (.writeMap src dst tag data) s)
    (body : writeMapBody data (arrived s) = .status st (arrived s)) : Reports (.writeMap src dst tag data) [st.octet] s :=
  reports_of_body alone write rfl body rfl

/-- What a new role makes of the tracker beside SPEED and POSITION (R52). -/
theorem tracker_mapWritten {ch : Nat} {f : MapFields} {e : Entry} {s : State} (h : f.role ≠ e.role) :
    (e.role ≠ .position → f.role ≠ .position → (mapWritten ch f e s).tracker.lastPosition = s.tracker.lastPosition) ∧
      (e.role ≠ .speed → f.role ≠ .speed → ∀ p,
        { (mapWritten ch f e s).tracker with lastPosition := p } = { s.tracker with lastPosition := p }) := by
  rw [mapWritten_changed h]
  refine ⟨fun old new => ?_, fun old new p => ?_⟩
  · rw [lastPosition_forgetRole, if_neg new, lastPosition_forgetRole, if_neg old]
    rfl
  · rw [tracker_forgetRole, if_neg new, tracker_forgetRole, if_neg old]
    rfl

/-- Settles O55: the refusals by WRITE_MAP's body, a taken write by what its fields leave. -/
theorem writeMapGivesTheFields : Obligations.WriteMapGivesTheFields := by
  intro src dst tag data s c write
  constructor
  · intro unread alone
    refine reports_writeMap alone write (st := .badArgument) ?_
    unfold writeMapBody
    rw [unread]
  intro ch f e parsed he open_ gone elsewhere
  refine ⟨fun role closed alone => ?_, ?_, ?_⟩
  · refine reports_writeMap alone write (st := .refusedState) ?_
    have refused : f.role ≠ e.role ∧ (arrived s).line.state ≠ .cold ∧ (arrived s).line.state ≠ .lockout :=
      ⟨role, not_or.mp closed⟩
    unfold writeMapBody
    simp only [parsed, show (arrived s).entry ch = some e from he, if_pos refused]
  · rintro role isOpen ⟨none, forward, k, x, _, hx, held⟩ alone
    refine reports_writeMap alone write (st := .badArgument) ?_
    have allowed : ¬ (f.role ≠ e.role ∧ (arrived s).line.state ≠ .cold ∧ (arrived s).line.state ≠ .lockout) :=
      fun refused => isOpen.elim refused.2.1 refused.2.2
    have taken : roleTaken ch f.role (arrived s) = true := roleTaken_of_holder none forward he role hx held
    unfold writeMapBody
    simp only [parsed, show (arrived s).entry ch = some e from he, if_neg allowed, if_pos taken]
  · intro allowed free
    obtain ⟨t, carries, left⟩ := writeMap_carries write parsed he allowed (roleTaken_eq_false free)
    have entries := entry_mapWritten (f := f) (s := arrived s) (show (arrived s).entry ch = some e from he)
    obtain ⟨d, entry, present⟩ := left.entry ch (e.written f) ((entries ch).trans (if_pos rfl))
    have fields := written_fields f e
    refine ⟨t, { e.written f with drive := d }, carries, left.params.trans (kept_mapWritten ch f e _).params, entry,
      fields.role, fields.holdGroup, fields.activeHigh, fields.confirmTime, fields.forward, fun k x other hx => ?_,
      fun role => ⟨fun level => ?_, fun level => ?_, ?_, fun r hr => ?_, ?_, ?_⟩, fun role => ⟨?_, ?_, ?_, ?_, ?_, ?_⟩⟩
    · obtain ⟨d', hd, _⟩ := left.entry k x ((entries k).trans ((if_neg other).trans hx))
      exact ⟨d', hd⟩
    · exact (written_records role).1.trans (if_pos level)
    · exact (written_records role).1.trans (if_neg level)
    · show d.isSome = true ↔ _
      rw [present, (written_records role).2, isSome_freshDrive]
    · have forgotten : Forgotten r t := by
        refine Forgotten.undisturbed ?_ left
        rw [mapWritten_changed role]
        rcases hr with rfl | rfl
        · exact (forgotten_forgetRole _ _).stays _
        · exact forgotten_forgetRole _ _
      exact ⟨forgotten.air, forgotten.lel, forgotten.web, forgotten.speed, forgotten.position⟩
    · rw [left.tracker]
      exact (tracker_mapWritten role).1
    · rw [left.tracker]
      exact fun old new => (tracker_mapWritten role).2 old new _
    all_goals rw [mapWritten_kept role] at left
    · exact left.tracker
    · exact left.zones
    · exact left.circuits
    · show d.isSome = _
      rw [present, written_drive role]
    · exact written_level_same role
    · intro high r hr
      have level : (e.written f).level = some (r.rederived f.activeHigh) := by
        rw [written_level_rederived role high, hr, Option.map_some]
      exact ⟨fun raw => level.trans (congrArg some (rederived_silent _ raw)),
        fun b raw => level.trans (congrArg some (rederived_raw _ raw))⟩

end Sys2Proof.Machine

/-!
SUPPORT. Readings of the web's speed and position, and the marks of the tracker's age: what the loss of the usable speed leaves
pending, what the transit line's advance leaves in a circuit, and the three statements.
-/

namespace Sys2Proof.Machine

/-! ### A READING that passes (R6, R9, R23) -/

/-- A READING of another station joins the through buffer and is routed by its channel's role. -/
theorem exec_reading {src dst ch quality : Byte} {value : Half} {s : State} (h : Passes src s) (hq : quality.toNat ≤ 2) :
    exec (.reading src dst ch value quality) s = .next (finish (routeReading ch.toNat value quality.toNat
      (joinThrough ⟨fixedFrame kindReading src dst ch value quality, none⟩ (countGood s)))) := by
  have passed : exec (.reading src dst ch value quality) s = .next (finish (copyFrame _ (forwardFrame _ (countGood s)))) :=
    congrArg Host.Outcome.next (receive_passes h.1 h.2 (by simp))
  rw [passed, forwardFrame, if_neg (by simp)]
  simp [copyFrame, copyReading, hq, halfOf_low_high]

theorem HoldsRole.joined {ch : Byte} {r : Role} {s : State} (h : HoldsRole ch r s) (f : ThroughFrame) :
    HoldsRole ch r (joinThrough f (countGood s)) := by
  obtain ⟨e, found, role⟩ := h
  refine ⟨e, ?_, role⟩
  unfold State.entry at found ⊢
  rwa [(sameJudged_joinThrough f (countGood s)).channels]

theorem routeReading_speed {ch : Byte} {value : Half} {q : Nat} {s : State} (h : HoldsRole ch .speed s) :
    routeReading ch.toNat value q s = speedReading value.toInt q s := by
  obtain ⟨e, found, role⟩ := h
  simp [routeReading, found, role]

theorem routeReading_position {ch : Byte} {value : Half} {q : Nat} {s : State} (h : HoldsRole ch .position s) :
    routeReading ch.toNat value q s = positionReading value.toNat q s := by
  obtain ⟨e, found, role⟩ := h
  simp [routeReading, found, role]

/-! ### An entry that stays pending (R183) -/

/-- An entry is pending where its bit is set. -/
theorem pending_iff {p : Half} {e : FaultCode} : p &&& e.bit ≠ 0 ↔ p.getLsbD (e.code - 1) = true := by
  have power : e.bit = BitVec.twoPow 16 (e.code - 1) ∧ BitVec.twoPow 16 (e.code - 1) ≠ 0 := by cases e <;> decide
  rw [power.1, BitVec.and_twoPow]
  split
  · simpa [*] using power.2
  · simp [*]

theorem pending_raiseFault_same (e : FaultCode) (s : State) : (raiseFault e s).faults.pending &&& e.bit ≠ 0 := by
  have own : e.bit &&& e.bit ≠ 0 := by cases e <;> decide
  rw [pending_iff] at own ⊢
  exact (BitVec.getLsbD_or ..).trans (by rw [own, Bool.or_true])

/-- A raise leaves every other entry pending. -/
theorem pending_raiseFault {e : FaultCode} (f : FaultCode) {s : State} (h : s.faults.pending &&& e.bit ≠ 0) :
    (raiseFault f s).faults.pending &&& e.bit ≠ 0 := by
  rw [pending_iff] at h ⊢
  exact (BitVec.getLsbD_or ..).trans (by rw [h, Bool.true_or])

theorem overlay_faults (c : Cause) (s : State) : (overlay c s).faults = s.faults := by cases c <;> rfl

/-- A push leaves every entry pending, whatever it does to the stack (R152). -/
theorem pending_push {e : FaultCode} (c : Cause) {s : State} (h : s.faults.pending &&& e.bit ≠ 0) :
    (push c s).faults.pending &&& e.bit ≠ 0 := by
  have saved : ∀ u, (saveContext c u).faults = u.faults := overlay_faults c
  have again : (reactivate c s).faults = s.faults := overlay_faults c s
  unfold push
  split
  · exact h
  split
  · exact h
  split
  · split
    · rwa [again]
    · exact h
  · split
    · rwa [saved]
    · rw [saved]
      exact pending_raiseFault .stackLoss h

/-- A push that is not refused leaves a record in the stack: a break's, its cause's, or the new one (R152). -/
theorem stack_push_ne_nil {c : Cause} {s : State} (h : pushRefused c s.line.state = false) : (push c s).stack ≠ [] := by
  unfold push
  rw [if_neg (by simp [h])]
  split
  · intro empty
    simp_all
  split
  · rename_i found
    have stands : s.stack ≠ [] := List.ne_nil_of_mem (List.mem_of_find?_eq_some found)
    split
    · simpa [reactivate, (overlay_rest c s).2.1] using stands
    · exact stands
  · split <;> simp [saveContext]

/-- An entry whose condition is present outlives the sweep (R183). -/
theorem pending_sweepFaults {e : FaultCode} {s : State} (present : faultCondition s e = true)
    (h : s.faults.pending &&& e.bit ≠ 0) : (sweepFaults s).faults.pending &&& e.bit ≠ 0 := by
  obtain ⟨out, swept⟩ := sweepFaults_eq s
  have low : e.code - 1 < 16 := by cases e <;> decide
  have own : e.bit.getLsbD (e.code - 1) = true := by cases e <;> decide
  rw [pending_iff] at h ⊢
  rw [swept]
  simp [h, getLsbD_conditionMask s low own, present]

/-- Where the line is at no safe point, an event ends with no commit, and an entry whose condition is present stays pending (R66,
R183). -/
theorem pending_finish {e : FaultCode} {s : State} (busy : s.safePoint = false)
    (present : faultCondition (payGrants (driveStage s)) e = true) (h : s.faults.pending &&& e.bit ≠ 0) :
    (finish s).faults.pending &&& e.bit ≠ 0 := by
  have paid : (payGrants (driveStage s)).faults = s.faults := (payGrants_same _).faults.trans (driveStage_same s).faults
  unfold finish closeEvent
  rw [(sameJudged_arbitrate _).faults, settleStore_of_settled (by simp [storeSettled, busy])]
  exact pending_sweepFaults present (paid ▸ h)

/-! ### The loss of the usable speed (R50, R51) -/

theorem usableSpeed_eq_none {s : State} : s.usableSpeed = none ↔ s.tracker.state.usable = false := by
  unfold State.usableSpeed
  cases s.tracker.state <;> simp [TrackerState.usable]

/-- The loss of the usable speed in RUN pushes a record, so that the event ends at no safe point, with SPEED_LOST pending (R51). -/
theorem pending_finish_speedLost {s : State} (run : s.line.state = .run) (lost : s.usableSpeed = none) :
    (finish (speedLost s)).faults.pending &&& FaultCode.speedLost.bit ≠ 0 := by
  have stands : (speedLost s).stack ≠ [] :=
    stack_push_ne_nil (show pushRefused .speedLost s.line.state = false by rw [run]; rfl)
  refine pending_finish (by simp [State.safePoint, stands]) ?_ (pending_push .speedLost (pending_raiseFault_same .speedLost s))
  have same := ((work_speedLost s).trans ((work_driveStage _).trans (work_payGrants _))).undisturbed.tracker
  show Option.isNone _ = true
  rw [Option.isNone_iff_eq_none, usableSpeed_eq_none, same]
  exact usableSpeed_eq_none.mp lost

/-- The tracker's record at the end of its event is the one it changed to: nothing that follows touches it. -/
theorem tracker_finish_trackerStep (r : Tracker × TrackerReport) (s : State) : (finish (trackerStep r s)).tracker = r.1 :=
  ((work_trackerReport r.2 (s.withTracker r.1)).trans (work_finish _)).undisturbed.tracker

/-- A tracker that reports the loss of the usable speed in RUN leaves SPEED_LOST pending (R51). -/
theorem pending_finish_trackerStep {r : Tracker × TrackerReport} {s : State} (report : r.2 = .lost)
    (lost : r.1.state.usable = false) (run : s.line.state = .run) :
    (finish (trackerStep r s)).faults.pending &&& FaultCode.speedLost.bit ≠ 0 := by
  have stepped : trackerStep r s = speedLost (s.withTracker r.1) := by
    unfold trackerStep
    rw [report]
    exact if_pos run
  rw [stepped]
  exact pending_finish_speedLost run (usableSpeed_eq_none.mpr lost)

/-! ### FAILED speed readings (R49) -/

theorem fail_of_lost {k : Tracker} (h : k.state = .lost) : k.fail = (k, .quiet) := by simp [Tracker.fail, h]

theorem fail_of_not_lost {k : Tracker} (h : k.state ≠ .lost) :
    k.fail =
      ({ k with state := .lost, count := 0, predecessor := none, rejections := 0, age := none }, lossFrom k.state) := by
  unfold Tracker.fail
  split
  · exact absurd ‹_› h
  all_goals rfl

/-- A FAILED reading is FAILED whatever its value, and counts nowhere (R44). -/
theorem speedReading_failed (v : Int) (s : State) : speedReading v 2 s = trackerStep s.tracker.fail s := by
  simp [speedReading, outOfRange, Tracker.reading, handledQuality]

/-- Settles O22, by whether the tracker is LOST already. -/
theorem failedSpeedReadingsLoseTheSpeed : Obligations.FailedSpeedReadingsLoseTheSpeed := by
  intro src dst ch value s h role
  have done := exec_reading (dst := dst) (ch := ch) (quality := 2) (value := value) h (by decide)
  rw [routeReading_speed (role.joined _), show (2 : Byte).toNat = 2 from rfl, speedReading_failed] at done
  have heard := (sameJudged_countGood s).trans (sameJudged_joinThrough ⟨fixedFrame kindReading src dst ch value 2, none⟩ _)
  rw [heard.tracker] at done
  have tracker := tracker_finish_trackerStep s.tracker.fail
  refine ⟨_, done, fun lost => ?_, fun other => ?_, fun usable run => ?_⟩
  · rw [tracker, fail_of_lost lost]
  · rw [tracker, fail_of_not_lost other]
  · have used : s.tracker.state.usable = true := by simpa [usableSpeed_eq_none] using usable
    have failed := fail_of_not_lost (k := s.tracker) (by rintro lost; simp [lost, TrackerState.usable] at used)
    exact pending_finish_trackerStep (by rw [failed]; exact if_pos used) (by rw [failed]; rfl) (heard.line ▸ run)

/-! ### The marks of the age timer (R48) -/

theorem ageReached_of_le {mark a : Nat} {s : State} (h : s.tracker.age = some a) (reached : mark ≤ a) :
    ageReached mark s = true := by simp [ageReached, h, reached]

theorem at250_of_acquiring {k : Tracker} (h : k.state = .acquiring) : k.at250 = { k with count := 0, predecessor := none } := by
  simp [Tracker.at250, h]

theorem at250_of_locked {k : Tracker} (h : k.state = .locked) : k.at250 = { k with state := .stale } := by
  simp [Tracker.at250, h]

theorem at250_of_other {k : Tracker} (acquiring : k.state ≠ .acquiring) (locked : k.state ≠ .locked) : k.at250 = k := by
  unfold Tracker.at250
  split
  · exact absurd ‹_› locked
  · exact absurd ‹_› acquiring
  all_goals rfl

theorem at1000_of_stale {k : Tracker} (h : k.state = .stale) :
    k.at1000 = ({ k with state := .lost, rejections := 0, age := none }, .lost) := by simp [Tracker.at1000, h]

theorem at1000_of_not_stale {k : Tracker} (h : k.state ≠ .stale) : k.at1000 = (k, .quiet) := by
  unfold Tracker.at1000
  split
  · exact absurd ‹_› h
  all_goals rfl

/-- Settles O23, mark by mark: what ends either event leaves the tracker's record alone. -/
theorem ageMarksStaleAndLoseTheSpeed : Obligations.AgeMarksStaleAndLoseTheSpeed := by
  intro s a age
  constructor
  · intro reached
    have done : exec .ageTimer250 s = .next (finish (s.withTracker s.tracker.at250)) :=
      congrArg Host.Outcome.next (if_pos (ageReached_of_le age reached))
    have tracker : (finish (s.withTracker s.tracker.at250)).tracker = s.tracker.at250 := (work_finish _).undisturbed.tracker
    exact ⟨_, done, fun h => tracker.trans (at250_of_acquiring h), fun h => tracker.trans (at250_of_locked h),
      fun acquiring locked => tracker.trans (at250_of_other acquiring locked)⟩
  · intro reached
    have done : exec .ageTimer1000 s = .next (finish (trackerStep s.tracker.at1000 s)) :=
      congrArg Host.Outcome.next (if_pos (ageReached_of_le age reached))
    have tracker := tracker_finish_trackerStep s.tracker.at1000 s
    refine ⟨_, done, fun stale => ?_, fun stale run => ?_, fun other => ?_⟩
    · rw [tracker, at1000_of_stale stale]
    · have lost := at1000_of_stale stale
      exact pending_finish_trackerStep (by rw [lost]) (by rw [lost]; rfl) run
    · rw [tracker, at1000_of_not_stale other]

end Sys2Proof.Machine

/-!
SUPPORT. What a position reading passes to the transit line, and what the entries it matures leave in their circuits: the statement
about the web's travel.
-/

namespace Sys2Proof.Machine

/-! ### Blocks that change -/

theorem onlyChanges_withTracker (s : State) (x : Tracker) : OnlyChanges [.tracker] s (s.withTracker x) :=
  fun b hb => by cases b <;> simp_all [State.same]

theorem onlyChanges_withTransit (s : State) (x : List TransitEntry) : OnlyChanges [.transit] s (s.withTransit x) :=
  fun b hb => by cases b <;> simp_all [State.same]

theorem onlyChanges_withCircuit (s : State) (c : Circuit) (r : CircuitRec) : OnlyChanges [.circuits] s (s.withCircuit c r) :=
  fun b hb => by cases b <;> simp_all [State.same, State.withCircuit]

/-- A frame that passes a part with a settled port changes the ring's receiving side and the port at most (R6, R11, R16). -/
theorem onlyChanges_joinThrough {s : State} (f : ThroughFrame) (h : portSettled s = true) :
    OnlyChanges [.link, .outlet] s (joinThrough f (countGood s)) := by
  rw [joinThrough_countGood f h]
  exact (onlyChanges_withLink s _).trans (onlyChanges_withOutlet _ _)

/-! ### Entries that mature (R142, R145) -/

theorem judged_setpoint (p : Params) (r : CircuitRec) (v : Int) :
    ({ r with setpoint := v } : CircuitRec).judged p = landed p r v := by
  unfold CircuitRec.judged landed judgeBand
  dsimp only
  cases r.web.currentValue p with
  | none => rfl
  | some w => simp only [Int.abs_eq_natAbs, Int.ofNat_le]

theorem setSetpoint_present {c : Circuit} {v : Int} {s : State} (h : s.circuitPresent c = true) :
    setSetpoint c v s = s.withCircuit c (landed s.params (s.circuits.get c) v) :=
  (if_pos h).trans (by rw [judged_setpoint])

theorem setSetpoint_absent {c : Circuit} {v : Int} {s : State} (h : s.circuitPresent c = false) : setSetpoint c v s = s :=
  if_neg (by simp [h])

theorem onlyChanges_mature (e : TransitEntry) (s : State) : OnlyChanges [.circuits] s (mature e s) := by
  unfold mature setSetpoint
  split
  · exact onlyChanges_withCircuit s _ _
  · exact (onlyChanges_refl s).mono (by simp)

theorem onlyChanges_matureAll (l : List TransitEntry) (s : State) : OnlyChanges [.circuits] s (matureAll l s) := by
  induction l generalizing s with
  | nil => exact (onlyChanges_refl s).mono (by simp)
  | cons e l ih => exact ((onlyChanges_mature e s).trans (ih _)).mono (by simp)

/-- An advance changes the transit line and the circuits (R145). -/
theorem onlyChanges_advanceTransit (n : Nat) (s : State) : OnlyChanges [.transit, .circuits] s (advanceTransit n s) :=
  (onlyChanges_withTransit s _).trans (onlyChanges_matureAll _ _)

/-- The record of a circuit, present or not, to which an entry that matures names its setpoint. -/
def CircuitRec.given (p : Params) (present : Bool) (r : CircuitRec) (v : Int) : CircuitRec :=
  if present then landed p r v else r

theorem circuits_mature (e : TransitEntry) (s : State) (c : Circuit) :
    (mature e s).circuits.get c =
      if e.circuit = c then (s.circuits.get c).given s.params (s.circuitPresent c) e.setpoint else s.circuits.get c := by
  unfold mature
  cases present : s.circuitPresent e.circuit with
  | false =>
    rw [setSetpoint_absent present]
    split
    · rename_i own; subst own; rw [present]; rfl
    · rfl
  | true =>
    rw [setSetpoint_present present]
    refine (PerCircuit.get_set ..).trans ?_
    by_cases own : e.circuit = c
    · subst own; rw [if_pos rfl, if_pos rfl, present]; rfl
    · rw [if_neg (Ne.symm own), if_neg own]

/-- Of two setpoints one after another the last one stands. -/
theorem given_given (p : Params) (b : Bool) (r : CircuitRec) (v w : Int) : (r.given p b v).given p b w = r.given p b w := by
  cases b <;> rfl

/-- Of the entries matured one after another the last one that names a circuit gives it its setpoint (R145). -/
theorem circuits_matureAll (l : List TransitEntry) (s : State) (c : Circuit) :
    (matureAll l s).circuits.get c =
      ((l.filter fun e => e.circuit == c).getLast?).elim (s.circuits.get c) fun e =>
        (s.circuits.get c).given s.params (s.circuitPresent c) e.setpoint := by
  induction l generalizing s with
  | nil => rfl
  | cons e l ih =>
    have changed := onlyChanges_mature e s
    have params : (mature e s).params = s.params := congrArg Agent.params (changed .agent (by simp))
    have present : (mature e s).circuitPresent c = s.circuitPresent c :=
      congrArg (fun x : Line => x.circuitsPresent.get c) (changed .line (by simp))
    refine (ih (mature e s)).trans ?_
    rw [params, present, circuits_mature]
    by_cases own : e.circuit = c
    · rw [if_pos own, List.filter_cons_of_pos (by simp [own]), List.getLast?_cons]
      cases (l.filter fun e => e.circuit == c).getLast? with
      | none => rfl
      | some x => exact given_given ..
    · rw [if_neg own, List.filter_cons_of_neg (by simp [own])]

theorem transit_advanceTransit (n : Nat) (s : State) :
    (advanceTransit n s).transit =
      (s.transit.filter fun e => decide (n < e.remaining)).map fun e => { e with remaining := e.remaining - n } :=
  (calm_matureAll _ _).transit

theorem circuits_advanceTransit (n : Nat) (s : State) (c : Circuit) :
    (advanceTransit n s).circuits.get c =
      ((s.transit.filter fun e => decide (e.remaining ≤ n) && e.circuit == c).getLast?).elim (s.circuits.get c) fun e =>
        (s.circuits.get c).given s.params (s.circuitPresent c) e.setpoint := by
  unfold advanceTransit
  dsimp only
  rw [circuits_matureAll, List.filter_filter]
  simp only [Bool.and_comm]
  rfl

/-! ### At rest -/

/-- The valve demands follow the valves alone, and the conditions read of the tracker the usable speed alone: a part at rest in
which neither changes stays at rest over changes of the tracker, the circuits and the transit line. -/
theorem atRest_of_valves {s t : State} (same : OnlyChanges [.tracker, .transit, .circuits] s t)
    (speed : t.usableSpeed = s.usableSpeed) (valves : ∀ c, (t.circuits.get c).valve = (s.circuits.get c).valve)
    (h : s.atRest = true) : t.atRest = true := by
  have link : t.link = s.link := same .link (by simp)
  have outlet : t.outlet = s.outlet := same .outlet (by simp)
  have channels : t.channels = s.channels := same .channels (by simp)
  have holds : t.holds = s.holds := same .holds (by simp)
  have store : t.store = s.store := same .store (by simp)
  have line : t.line = s.line := same .line (by simp)
  have planner : t.planner = s.planner := same .planner (by simp)
  have zones : t.zones = s.zones := same .zones (by simp)
  have stack : t.stack = s.stack := same .stack (by simp)
  have supervisor : t.supervisor = s.supervisor := same .supervisor (by simp)
  have faults : t.faults = s.faults := same .faults (by simp)
  have agent : t.agent = s.agent := same .agent (by simp)
  have params : t.params = s.params := congrArg Agent.params agent
  have present : ∀ z, t.present z = s.present z := fun z => by unfold State.present; rw [line]
  have circuit : ∀ c, t.circuitPresent c = s.circuitPresent c := fun c => by unfold State.circuitPresent; rw [line]
  have confirmed : ∀ r, t.confirmedOf r = s.confirmedOf r := fun r => by
    unfold State.confirmedOf State.roleChannel; rw [channels]
  have source : ∀ r, demandSource t r = demandSource s r := fun r => by
    cases r <;> simp only [demandSource, present, circuit, params, line, planner, zones, valves]
  have hold : ∀ e, t.underHold e = s.underHold e := fun e => by
    unfold State.underHold State.groupHeld; rw [line, holds]
  have conditions : t.conditionMask = s.conditionMask := faultMask_congr fun e => by
    cases e <;>
      simp only [faultCondition, present, confirmed, params, channels, store, line, planner, zones, supervisor, speed]
  simpa only [State.atRest, drivesFollow, storeSettled, State.safePoint, faultsSettled, portSettled, grantsPaid, link,
    outlet, channels, store, line, planner, stack, faults, source, hold, conditions] using h

/-- A circuit whose setpoint an entry gives keeps its valve (R140, R145). -/
theorem given_valve (p : Params) (b : Bool) (r : CircuitRec) (v : Int) : (r.given p b v).valve = r.valve := by cases b <;> rfl

theorem atRest_advanceTransit (n : Nat) {s : State} (h : s.atRest = true) : (advanceTransit n s).atRest = true := by
  have changed := onlyChanges_advanceTransit n s
  have tracker : (advanceTransit n s).tracker = s.tracker := changed .tracker (by simp)
  refine atRest_of_valves (changed.mono (by simp)) (by unfold State.usableSpeed; rw [tracker]) (fun c => ?_) h
  rw [circuits_advanceTransit]
  cases (s.transit.filter fun e => decide (e.remaining ≤ n) && e.circuit == c).getLast? with
  | none => rfl
  | some e => exact given_valve ..

/-! ### Position readings (R53) -/

theorem advanceFrom_eq {last new : Nat} (hl : last < 65536) (hn : new < 65536) :
    advanceFrom last new = if last ≤ new then new - last else new + 65536 - last := by
  unfold advanceFrom
  split <;> omega

theorem positionFrom_none {last n : Nat} {s : State}
    (h : advanceFrom last n = 0 ∨ advanceFrom last n ≤ 32767 ∧ s.usableSpeed = none) : positionFrom last n s = s := by
  have unused : advanceUse (advanceFrom last n) s.usableSpeed.isSome = .none := by
    unfold advanceUse
    rcases h with zero | ⟨small, unusable⟩
    · rw [if_pos zero]
    · simp [small, unusable]
  rw [positionFrom, unused]

theorem positionFrom_passed {last n : Nat} {s : State} (moved : 1 ≤ advanceFrom last n) (small : advanceFrom last n ≤ 32767)
    (usable : s.usableSpeed ≠ none) : positionFrom last n s = advanceTransit (advanceFrom last n) s := by
  have passed : advanceUse (advanceFrom last n) s.usableSpeed.isSome = .passed := by
    simp [advanceUse, Nat.one_le_iff_ne_zero.mp moved, small, Option.isSome_iff_ne_none.mpr usable]
  rw [positionFrom, passed]

theorem positionFrom_rejected {last n : Nat} {s : State} (large : 32768 ≤ advanceFrom last n) :
    positionFrom last n s = s.withSat { s.sat with positionReject := satInc s.sat.positionReject } := by
  have rejected : advanceUse (advanceFrom last n) s.usableSpeed.isSome = .rejected := by
    unfold advanceUse
    rw [if_neg (by omega), if_neg (by omega)]
  rw [positionFrom, rejected]

theorem positionReading_unused {n q : Nat} (s : State) (h : q ≠ 0) : positionReading n q s = s := if_pos h

theorem positionReading_good (n : Nat) (s : State) :
    positionReading n 0 s =
      s.tracker.lastPosition.elim (s.withTracker { s.tracker with lastPosition := some n }) fun last =>
        positionFrom last n (s.withTracker { s.tracker with lastPosition := some n }) := by
  rw [positionReading, if_neg (by simp)]
  cases s.tracker.lastPosition with
  | none => rfl
  | some last => rw [Option.elim_some]

/-- A position reading moves no demand and no condition. -/
theorem atRest_positionFrom (last n : Nat) {s : State} (h : s.atRest = true) : (positionFrom last n s).atRest = true := by
  fun_cases positionFrom
  · exact h
  · exact atRest_advanceTransit _ h
  · exact atRest_withSat _ h

theorem atRest_positionReading (n q : Nat) {s : State} (h : s.atRest = true) : (positionReading n q s).atRest = true := by
  by_cases good : q = 0
  · subst good
    rw [positionReading_good]
    have counted : (s.withTracker { s.tracker with lastPosition := some n }).atRest = true :=
      atRest_of_valves ((onlyChanges_withTracker s _).mono (by simp)) rfl (fun _ => rfl) h
    cases s.tracker.lastPosition with
    | none => exact counted
    | some last => rw [Option.elim_some]; exact atRest_positionFrom last n counted
  · rwa [positionReading_unused s good]

/-- A count measured from the last one leaves the tracker's record as it is. -/
theorem positionFrom_tracker (last n : Nat) (s : State) : (positionFrom last n s).tracker = s.tracker := by
  fun_cases positionFrom
  · rfl
  · exact (steady_advanceTransit _ s).tracker
  · rfl

/-- A POSITION reading of another station at a part at rest is the ring's work and then the tracker's (R6, R53). -/
theorem exec_position {src dst ch quality : Byte} {value : Half} {s : State} (h : Passes src s) (rest : s.atRest = true)
    (role : HoldsRole ch .position s) (hq : quality.toNat ≤ 2) :
    ∃ u : State, exec (.reading src dst ch value quality) s = .next (positionReading value.toNat quality.toNat u) ∧
      OnlyChanges [.link, .outlet] s u := by
  obtain ⟨_, _, _, port, _⟩ := atRest_iff.mp rest
  refine ⟨_, ?_, onlyChanges_joinThrough ⟨fixedFrame kindReading src dst ch value quality, none⟩ port⟩
  rw [exec_reading h hq, routeReading_position (role.joined _)]
  exact congrArg Host.Outcome.next (finish_atRest (atRest_positionReading _ _ (atRest_joinThrough _ (atRest_countGood rest))))

/-- Settles O24, by the quality, the last count and R53's table. -/
theorem positionReadingsMeasureTravel : Obligations.PositionReadingsMeasureTravel := by
  intro src dst ch value quality s h rest role hq n
  obtain ⟨u, done, ring⟩ := exec_position (dst := dst) (value := value) h rest role hq
  by_cases good : quality = 0
  swap
  · rw [positionReading_unused u fun zero => good (BitVec.eq_of_toNat_eq zero)] at done
    exact ⟨u, done, fun _ => ring, fun zero => absurd zero good⟩
  subst good
  rw [show (0 : Byte).toNat = 0 from rfl, positionReading_good, ring .tracker (by simp)] at done
  let v := u.withTracker { s.tracker with lastPosition := some n }
  have counted : OnlyChanges [.link, .outlet, .tracker] s v := ring.trans (onlyChanges_withTracker u _)
  cases known : s.tracker.lastPosition with
  | none =>
    rw [known] at done
    exact ⟨v, done, fun bad => absurd rfl bad, fun _ => ⟨rfl, fun _ => counted, nofun⟩⟩
  | some last =>
    rw [known, Option.elim_some] at done
    refine ⟨positionFrom last n v, done, fun bad => absurd rfl bad, fun _ => ⟨positionFrom_tracker last n v, nofun, ?_⟩⟩
    rintro _ ⟨rfl⟩ bound advance
    have measured : advanceFrom last n = advance := advanceFrom_eq bound value.isLt
    refine ⟨fun unused => ?_, fun moved small usable => ?_, fun large => ?_⟩
    · rwa [positionFrom_none (s := v) (measured ▸ unused)]
    · rw [positionFrom_passed (s := v) (measured ▸ moved) (measured ▸ small) usable, measured]
      have transit : v.transit = s.transit := ring .transit (by simp)
      have circuits : v.circuits = s.circuits := ring .circuits (by simp)
      have params : v.params = s.params := congrArg Agent.params (ring .agent (by simp))
      have line : v.line = s.line := ring .line (by simp)
      refine ⟨counted.trans (onlyChanges_advanceTransit advance v), transit ▸ transit_advanceTransit advance v, fun c => ?_⟩
      rw [circuits_advanceTransit, transit, circuits, params, State.circuitPresent, line]
      cases (s.transit.filter fun e => decide (e.remaining ≤ advance) && e.circuit == c).getLast? <;> rfl
    · have sat : v.sat = s.sat := ring .sat (by simp)
      rw [positionFrom_rejected (s := v) (measured ▸ large), sat]
      exact ⟨counted.trans (onlyChanges_withSat v _), satInc_eq _⟩

end Sys2Proof.Machine

/-!
SUPPORT. Validation of a regime table as V1 to V6, and the rows that requests and speeds choose of a table that passes it: the
statements about validation and the two choices of a row.
-/

namespace Sys2Proof.Machine

/-! ### Rows and masks (R57, R60) -/

theorem within_iff {lo hi v : Int} : within lo hi v = true ↔ lo ≤ v ∧ v ≤ hi := by
  simp [within]

theorem sameMask_iff {a b : Row} : a.sameMask b = true ↔ ∀ z, a.uses z = b.uses z := by
  simp [Row.sameMask, mem_zones]

theorem anyUse_iff {r : Row} : Zone.all.any r.uses = true ↔ ∃ z, r.uses z = true := by
  simp [mem_zones]

/-- A zone's fields within the ranges of R57. -/
def ZoneRow.Ranged (x : ZoneRow) : Prop :=
  (0 ≤ x.air ∧ x.air ≤ 4000) ∧ (0 ≤ x.feedforward ∧ x.feedforward ≤ 1000) ∧ (0 ≤ x.fan ∧ x.fan ≤ 1000)

/-- A row's fields within the ranges of R57. -/
def Row.Ranged (r : Row) : Prop :=
  (0 ≤ r.low ∧ r.low ≤ 1200) ∧ (0 ≤ r.high ∧ r.high ≤ 1200) ∧ (0 ≤ r.exhaust ∧ r.exhaust ≤ 1000) ∧
    (50 ≤ r.chill.c1 ∧ r.chill.c1 ≤ 400) ∧ (50 ≤ r.chill.c2 ∧ r.chill.c2 ≤ 400) ∧ (1 ≤ r.ramp ∧ r.ramp ≤ 100) ∧
    r.soak ≤ 255 ∧ r.lead ≤ 100 ∧ ∀ z x, r.zones.get z = some x → x.Ranged

theorem zoneInRange_iff {x : ZoneRow} : x.inRange = true ↔ x.Ranged := by
  simp only [ZoneRow.inRange, ZoneRow.Ranged, Bool.and_eq_true, within_iff, and_assoc]

theorem inRange_iff {r : Row} : r.inRange = true ↔ r.Ranged := by
  simp only [Row.inRange, Row.Ranged, Bool.and_eq_true, within_iff, List.all_eq_true]
  constructor
  · rintro ⟨⟨⟨⟨⟨⟨⟨⟨low, high⟩, exhaust⟩, chill1⟩, chill2⟩, ramp⟩, soak⟩, lead⟩, zones⟩
    refine ⟨low, high, exhaust, chill1, chill2, by omega, by omega, by omega, fun z x hx => ?_⟩
    simpa only [hx, zoneInRange_iff] using zones z (mem_zones z)
  · rintro ⟨low, high, exhaust, chill1, chill2, ramp, soak, lead, zones⟩
    refine ⟨⟨⟨⟨⟨⟨⟨⟨low, high⟩, exhaust⟩, chill1⟩, chill2⟩, by omega⟩, by omega⟩, by omega⟩, fun z _ => ?_⟩
    cases hx : r.zones.get z with
    | none => rfl
    | some x => exact zoneInRange_iff.mpr (zones z x hx)

/-! ### Validation (R60) -/

/-- V4 to V6 of a row in a table whose row 0 is `zero`. -/
structure Row.Valid (zero r : Row) : Prop where
  top : r.high ≤ 1200
  used : ∃ z, r.uses z = true
  mask : ∀ z, r.uses z = zero.uses z
  ranged : r.Ranged

theorem rowFault_none {zero r : Row} : rowFault zero r = none ↔ zero.Valid r := by
  have masked : (Zone.all.any r.uses && r.sameMask zero) = true ↔
      (∃ z, r.uses z = true) ∧ ∀ z, r.uses z = zero.uses z := by
    rw [Bool.and_eq_true, anyUse_iff, sameMask_iff]
  unfold rowFault
  constructor
  · intro h
    split at h
    · cases h
    split at h
    · cases h
    split at h
    · cases h
    rename_i top mask ranged
    obtain ⟨used, mask⟩ := masked.mp (not_not.mp mask)
    exact ⟨not_not.mp top, used, mask, inRange_iff.mp (not_not.mp ranged)⟩
  · rintro ⟨top, used, mask, ranged⟩
    rw [if_neg (not_not.mpr top), if_neg (not_not.mpr (masked.mpr ⟨used, mask⟩)),
      if_neg (not_not.mpr (inRange_iff.mpr ranged))]

/-- V3 for a row and the one below it. -/
def Row.Follows (below r : Row) : Prop := below.low < r.low ∧ r.low ≤ below.high ∧ below.high < r.high

theorem rowsStep_iff {below r : Row} : rowsStep below r = true ↔ below.Follows r := by
  simp [rowsStep, Row.Follows, and_assoc]

/-- The rows above row 0 pass where each follows the one below it and each is valid. -/
theorem rowsFault_none {zero below : Row} {n : Nat} {l : List Row} :
    rowsFault zero below n l = none ↔ List.IsChain Row.Follows (below :: l) ∧ ∀ r ∈ l, zero.Valid r := by
  induction l generalizing below n with
  | nil => simp [rowsFault]
  | cons r rs ih =>
    rw [rowsFault, List.isChain_cons_cons, List.forall_mem_cons, ← rowsStep_iff, ← rowFault_none]
    cases step : rowsStep below r with
    | false => simp
    | true =>
      cases fault : rowFault zero r with
      | some f => simp
      | none => simpa using ih

/-- A table that passes validation (V1 to V6). -/
structure ValidTable (crawl : Nat) (t : List Row) : Prop where
  count : t.length ≤ Config.tableCapacity
  bottom : ∃ zero, t.head? = some zero ∧ zero.low = 0 ∧ (crawl : Int) ≤ zero.high ∧ ∀ r ∈ t, zero.Valid r
  chain : List.IsChain Row.Follows t

theorem tableFault_none {crawl : Nat} {t : List Row} : tableFault crawl t = none ↔ ValidTable crawl t := by
  cases t with
  | nil => exact ⟨nofun, fun ⟨_, ⟨_, h, _⟩, _⟩ => nomatch h⟩
  | cons zero rs =>
    have fits : rowZeroFits crawl zero = true ↔ zero.low = 0 ∧ (crawl : Int) ≤ zero.high := by simp [rowZeroFits]
    rw [tableFault]
    constructor
    · intro h
      split at h
      · cases h
      split at h
      · cases h
      split at h
      · cases h
      rename_i count bottom _ valid
      obtain ⟨low, high⟩ := fits.mp (not_not.mp bottom)
      obtain ⟨chain, above⟩ := rowsFault_none.mp h
      exact ⟨not_lt.mp count, ⟨zero, rfl, low, high, List.forall_mem_cons.mpr ⟨rowFault_none.mp valid, above⟩⟩, chain⟩
    · rintro ⟨count, ⟨_, ⟨rfl⟩, low, high, valid⟩, chain⟩
      obtain ⟨own, above⟩ := List.forall_mem_cons.mp valid
      rw [if_neg (not_lt.mpr count), if_neg (not_not.mpr (fits.mpr ⟨low, high⟩)), rowFault_none.mpr own]
      exact rowsFault_none.mpr ⟨chain, above⟩

/-- Neighbouring rows of a list by their places. -/
theorem isChain_iff_places {R : Row → Row → Prop} {t : List Row} :
    List.IsChain R t ↔ ∀ k b r, t[k]? = some b → t[k + 1]? = some r → R b r := by
  rw [List.isChain_iff_getElem]
  constructor
  · intro h k b r hb hr
    obtain ⟨_, rfl⟩ := List.getElem?_eq_some_iff.mp hb
    obtain ⟨bound, rfl⟩ := List.getElem?_eq_some_iff.mp hr
    exact h k bound
  · intro h k bound
    exact h k _ _ (List.getElem?_eq_getElem _) (List.getElem?_eq_getElem bound)

/-- Settles O25, by the rows in order: row 0, and each later row against the one below it. -/
theorem validationIsV1ToV6 : Obligations.ValidationIsV1ToV6 := by
  intro crawl t
  rw [tableFault_none]
  constructor
  · rintro ⟨count, ⟨zero, first, low, high, valid⟩, chain⟩
    rw [List.head?_eq_getElem?] at first
    have row0 : ∀ {z}, t[0]? = some z → z = zero := fun hz => Option.some.inj (hz.symm.trans first)
    refine ⟨⟨?_, count⟩, fun r hr => row0 hr ▸ ⟨low, high⟩, isChain_iff_places.mp chain, fun r hr => (valid r hr).top,
      fun z r hz hr => ⟨(valid r hr).used, row0 hz ▸ (valid r hr).mask⟩, fun r hr => (valid r hr).ranged⟩
    exact (List.getElem?_eq_some_iff.mp first).1
  · rintro ⟨⟨nonempty, count⟩, bottom, chain, top, mask, ranged⟩
    have first : t[0]? = some t[0] := List.getElem?_eq_getElem nonempty
    obtain ⟨low, high⟩ := bottom _ first
    exact ⟨count, ⟨t[0], List.head?_eq_getElem?.trans first, low, high, fun r hr =>
      ⟨top r hr, (mask _ r first hr).1, (mask _ r first hr).2, ranged r hr⟩⟩, isChain_iff_places.mpr chain⟩

/-- CRAWL_SPEED bears on row 0's band high alone (V2, R70). -/
theorem ValidTable.crawl {c c' : Nat} {t : List Row} (h : ValidTable c t) (fits : crawlFits c' t = true) :
    ValidTable c' t := by
  obtain ⟨count, ⟨zero, first, low, _, valid⟩, chain⟩ := h
  refine ⟨count, ⟨zero, first, low, ?_, valid⟩, chain⟩
  obtain ⟨rs, rfl⟩ := List.head?_eq_some_iff.mp first
  exact of_decide_eq_true fits

/-! ### The row of a requested speed (R62) -/

theorem lowestReaching_eq (v : Int) (n : Nat) (t : List Row) :
    lowestReaching v n t = (t.findIdx? fun r => decide (v ≤ r.high)).map (n + ·) := by
  induction t generalizing n with
  | nil => rfl
  | cons r rs ih =>
    rw [lowestReaching, List.findIdx?_cons]
    by_cases reaches : v ≤ r.high
    · simp [reaches]
    · simp [reaches, ih, Function.comp_def, Nat.add_assoc, Nat.add_comm 1]

/-- The lowest row that reaches a speed. -/
theorem lowestReaching_some {v : Int} {t : List Row} {j : Nat} :
    lowestReaching v 0 t = some j ↔
      (∃ r, t[j]? = some r ∧ v ≤ r.high) ∧ ∀ i r, i < j → t[i]? = some r → r.high < v := by
  rw [lowestReaching_eq]
  simp only [Nat.zero_add, Option.map_id', List.findIdx?_eq_some_iff_getElem, decide_eq_true_eq, not_le]
  constructor
  · rintro ⟨bound, reaches, below⟩
    refine ⟨⟨_, List.getElem?_eq_getElem bound, reaches⟩, fun i r hi hr => ?_⟩
    obtain ⟨_, rfl⟩ := List.getElem?_eq_some_iff.mp hr
    exact below i hi
  · rintro ⟨⟨r, hr, reaches⟩, below⟩
    obtain ⟨bound, rfl⟩ := List.getElem?_eq_some_iff.mp hr
    exact ⟨bound, reaches, fun i hi => below i _ hi (List.getElem?_eq_getElem _)⟩

theorem lowestReaching_none {v : Int} {t : List Row} : lowestReaching v 0 t = none ↔ ∀ r ∈ t, r.high < v := by
  simp [lowestReaching_eq]

/-- A speed that the row below does not reach lies above where this row starts (V2, V3). -/
theorem ValidTable.low_le {crawl : Nat} {t : List Row} (h : ValidTable crawl t) {v : Int} (hv : 0 ≤ v) {j : Nat} {r : Row}
    (hr : t[j]? = some r) (below : ∀ i c, i < j → t[i]? = some c → c.high < v) : r.low ≤ v := by
  obtain ⟨_, ⟨zero, first, low, _, _⟩, chain⟩ := h
  cases j with
  | zero =>
    rw [List.head?_eq_getElem?, hr] at first
    cases first
    exact low.trans_le hv
  | succ k =>
    have bound : k < t.length := (Nat.lt_succ_self k).trans (List.getElem?_eq_some_iff.mp hr).1
    have hb := List.getElem?_eq_getElem bound
    obtain ⟨_, starts, _⟩ := isChain_iff_places.mp chain k _ r hb hr
    exact starts.trans (below k _ (Nat.lt_succ_self k) hb).le

/-- Settles O26, by the first row that reaches the speed. -/
theorem requestsTakeTheLowestRow : Obligations.RequestsTakeTheLowestRow := by
  intro t v
  by_cases negative : v < 0
  · have none : rowForRequest t v = none := if_pos negative
    exact ⟨fun j => by simp [none, negative], by simp [none, negative], fun _ _ _ _ found => by simp [none] at found⟩
  · have asked : rowForRequest t v = lowestReaching v 0 t := if_neg negative
    have hv : 0 ≤ v := not_lt.mp negative
    rw [asked]
    refine ⟨fun j => ?_, ?_, fun crawl j r sound found hr => ?_⟩
    · simp [lowestReaching_some, hv]
    · simp [lowestReaching_none, negative]
    · obtain ⟨⟨r', hr', reaches⟩, below⟩ := lowestReaching_some.mp found
      cases hr.symm.trans hr'
      exact ⟨(tableFault_none.mp sound).low_le hv hr below, reaches⟩

/-! ### The row of an actual speed (R63) -/

theorem highestStarting_none {v : Int} {n : Nat} {t : List Row} : highestStarting v n t = none ↔ ∀ r ∈ t, v < r.low := by
  induction t generalizing n with
  | nil => simp [highestStarting]
  | cons r rs ih =>
    rw [highestStarting, List.forall_mem_cons, ← ih (n := n + 1)]
    cases highestStarting v (n + 1) rs with
    | some j => simp
    | none => simp

/-- The highest row that starts at or below a speed. -/
theorem highestStarting_some {v : Int} {n j : Nat} {t : List Row} (h : highestStarting v n t = some j) :
    ∃ k b, j = n + k ∧ t[k]? = some b ∧ b.low ≤ v ∧ ∀ i c, k < i → t[i]? = some c → v < c.low := by
  induction t generalizing n with
  | nil => cases h
  | cons r rs ih =>
    rw [highestStarting] at h
    split at h
    · rename_i found
      cases h
      obtain ⟨k, b, place, hb, starts, above⟩ := ih found
      refine ⟨k + 1, b, by omega, hb, starts, fun i c hi hc => ?_⟩
      obtain ⟨i, rfl⟩ := Nat.exists_eq_succ_of_ne_zero (by omega : i ≠ 0)
      exact above i c (by omega) hc
    · rename_i unstarted
      split at h
      · cases h
        rename_i starts
        refine ⟨0, r, rfl, rfl, starts, fun i c hi hc => ?_⟩
        obtain ⟨i, rfl⟩ := Nat.exists_eq_succ_of_ne_zero hi.ne'
        exact highestStarting_none.mp unstarted c (List.mem_of_getElem? hc)
      · cases h

/-- A row of a table that passes validation starts at or below where it ends (V2, V3). -/
theorem ValidTable.band {crawl : Nat} {t : List Row} (h : ValidTable crawl t) {j : Nat} {r : Row} (hr : t[j]? = some r) :
    r.low ≤ r.high := by
  obtain ⟨_, ⟨zero, first, low, high, _⟩, chain⟩ := h
  cases j with
  | zero =>
    rw [List.head?_eq_getElem?, hr] at first
    cases first
    omega
  | succ k =>
    have bound : k < t.length := (Nat.lt_succ_self k).trans (List.getElem?_eq_some_iff.mp hr).1
    obtain ⟨_, starts, ends⟩ := isChain_iff_places.mp chain k _ r (List.getElem?_eq_getElem bound) hr
    omega

/-- The row the dryer is set for, in the statement's words. -/
theorem rowSet_eq {t : List Row} {k : Nat} (h : 0 < t.length) : rowSet t k = if k < t.length then k else t.length - 1 := by
  unfold rowSet
  split <;> omega

/-- The choice of R63's table by the row the dryer is set for. -/
theorem rowForSpeed_eq {t : List Row} {k : Nat} {v : Int} {r : Row} (hr : t[rowSet t k]? = some r) :
    rowForSpeed t k v =
      if v < r.low then lowestReaching v 0 t
      else if r.high < v then highestStarting v 0 t
      else some (rowSet t k) := by
  rw [rowForSpeed, hr]

/-- Settles O27, by the place of the speed against the band of the row set. -/
theorem speedsTakeTheNearestRow : Obligations.SpeedsTakeTheNearestRow := by
  intro crawl k t v r sound hv set hr
  have valid := tableFault_none.mp sound
  have nonempty : 0 < t.length := (Nat.zero_le _).trans_lt (List.getElem?_eq_some_iff.mp hr).1
  have same : rowSet t k = set := rowSet_eq nonempty
  rw [rowForSpeed_eq (same ▸ hr), same]
  have band := valid.band hr
  refine ⟨fun starts ends => ?_, fun under => ?_, fun beyond => ?_⟩
  · rw [if_neg (not_lt.mpr starts), if_neg (not_lt.mpr ends)]
  · rw [if_pos under]
    cases found : lowestReaching v 0 t with
    | none => exact absurd (lowestReaching_none.mp found r (List.mem_of_getElem? hr)) (by omega)
    | some j =>
      obtain ⟨⟨b, hb, reaches⟩, below⟩ := lowestReaching_some.mp found
      exact ⟨j, b, rfl, hb, reaches, valid.low_le hv hb below, below⟩
  · rw [if_neg (by omega), if_pos beyond]
    cases found : highestStarting v 0 t with
    | none => exact absurd (highestStarting_none.mp found r (List.mem_of_getElem? hr)) (by omega)
    | some j =>
      obtain ⟨p, b, place, hb, starts, above⟩ := highestStarting_some found
      rw [Nat.zero_add] at place
      subst place
      refine ⟨j, b, rfl, hb, starts, above, or_iff_not_imp_right.mpr fun notTop => ?_⟩
      have bound : j < t.length := (List.getElem?_eq_some_iff.mp hb).1
      have next := List.getElem?_eq_getElem (show j + 1 < t.length by omega)
      obtain ⟨_, meets, _⟩ := isChain_iff_places.mp valid.chain j b _ hb next
      exact ((above _ _ (Nat.lt_succ_self j) next).trans_le meets).le

end Sys2Proof.Machine

/-!
SUPPORT. What a step does to the table's two copies and to the parameters: most operations leave them, and a write, a commit, a
parameter and a reset leave them sound. The invariant of the regime table.
-/

namespace Sys2Proof.Machine

/-! ### Parameters (R195) -/

/-- The parameters in the order of their ids. -/
def Params.values (p : Params) : List Nat :=
  [p.purgeTime, p.crawlSpeed, p.breakBurner, p.breakFan, p.breakValve, p.coolFan, p.minFire, p.bandWidth, p.deadband,
    p.trimStep, p.trimLimit, p.settleTime, p.ignitionTime, p.flameGrace, p.readyTimeout, p.airBeforeHeat, p.exhaustLag,
    p.lelWarn, p.lelTrip, p.lelHyst, p.lelClearTime, p.reliefPercent, p.overTemp, p.coolLimit, p.sensorStale,
    p.chillMinValve, p.pathLength, p.supervisionCount, p.managerAddress, p.retain]

/-- The ids run from 1 to 30. -/
theorem paramRange_bounds {id lo hi : Nat} (h : paramRange id = some (lo, hi)) : 1 ≤ id ∧ id ≤ 30 := by
  unfold paramRange at h
  split at h <;> cases h <;> decide

theorem get_eq_values (p : Params) {i : Nat} (h : i < 30) : p.values[i]? = some (p.get (i + 1)) := by
  interval_cases i <;> rfl

theorem values_set (p : Params) (v : Nat) {i : Nat} (h : i < 30) : (p.set (i + 1) v).values = p.values.set i v := by
  interval_cases i <;> rfl

/-- A parameter replaced has its new value, and every other its old one. -/
theorem params_get_set (p : Params) (v : Nat) {id k : Nat} (hid : 1 ≤ id ∧ id ≤ 30) (hk : 1 ≤ k ∧ k ≤ 30) :
    (p.set id v).get k = if id = k then v else p.get k := by
  obtain ⟨i, rfl⟩ := Nat.exists_eq_add_of_le' hid.1
  obtain ⟨n, rfl⟩ := Nat.exists_eq_add_of_le' hk.1
  have place := get_eq_values (p.set (i + 1) v) (i := n) (by omega)
  rw [values_set p v (by omega), List.getElem?_set] at place
  split at place
  · rename_i same
    rw [if_pos (by omega)]
    split at place
    · exact (Option.some.inj place).symm
    · cases place
  · rename_i other
    rw [if_neg (by omega)]
    exact Option.some.inj (place.symm.trans (get_eq_values p (by omega)))

/-- A write within its range, with LEL_TRIP kept 50 above LEL_WARN, keeps the parameters' ranges (R172, R195). -/
theorem paramsSound_set {p : Params} {id v lo hi : Nat} (h : paramsSound p) (range : paramRange id = some (lo, hi))
    (low : lo ≤ v) (high : v ≤ hi) (warn : id = 18 → v + 50 ≤ p.lelTrip) (trip : id = 19 → p.lelWarn + 50 ≤ v) :
    paramsSound (p.set id v) := by
  obtain ⟨ranges, apart⟩ := h
  have bounds := paramRange_bounds range
  refine ⟨fun k least most hk => ?_, ?_⟩
  · rw [params_get_set p v bounds (paramRange_bounds hk)]
    split
    · rename_i same
      subst same
      cases range.symm.trans hk
      exact ⟨low, high⟩
    · exact ranges k least most hk
  · have lel : (p.set id v).get 18 + 50 ≤ (p.set id v).get 19 := by
      rw [params_get_set p v bounds ⟨by decide, by decide⟩, params_get_set p v bounds ⟨by decide, by decide⟩]
      by_cases isWarn : id = 18
      · rw [if_pos isWarn, if_neg (by omega)]
        exact warn isWarn
      · rw [if_neg isWarn]
        split
        · exact trip ‹_›
        · exact apart
    exact lel

/-! ### Operations that leave the tables and the parameters -/

/-- The two copies of the table with the commit status, and the parameters, are the same. -/
structure SameTables (s t : State) : Prop where
  store : t.store = s.store
  params : t.params = s.params

theorem SameTables.refl (s : State) : SameTables s s := ⟨rfl, rfl⟩

theorem SameTables.trans {s t u : State} (h : SameTables s t) (k : SameTables t u) : SameTables s u :=
  ⟨k.store.trans h.store, k.params.trans h.params⟩

theorem SameTables.ite {s t u : State} {c : Prop} [Decidable c] (h : SameTables s t) (k : SameTables s u) :
    SameTables s (if c then t else u) := by split <;> assumption

theorem Steady.sameTables {s t : State} (h : Steady s t) : SameTables s t := ⟨h.store, congrArg Agent.params h.agent⟩

theorem SameJudged.sameTables {s t : State} (h : SameJudged s t) : SameTables s t := ⟨h.store, h.agent⟩

theorem sameTables_withEntry (s : State) (ch : Nat) (e : Entry) : SameTables s (s.withEntry ch e) := ⟨rfl, rfl⟩

theorem sameTables_originate (ch : Nat) (e : Entry) (d : DriveRec) (s : State) : SameTables s (originate ch e d s) :=
  (sameTables_withEntry s ch _).trans (steady_insertFrame _ _).sameTables

theorem steady_trackerReport (r : TrackerReport) (s : State) : Steady s (trackerReport r s) := by
  have reported : ∀ u, Steady u (speedReport u) := fun u => (steady_crossingTest u).trans (steady_speedReportToPlan _)
  unfold trackerReport
  split
  · exact .refl _
  · exact reported _
  · exact (reported _).trans (steady_clearCause _ _)
  · exact (steady_speedLost _).ite (.refl _)

theorem sameTables_trackerStep (r : Tracker × TrackerReport) (s : State) : SameTables s (trackerStep r s) :=
  SameTables.trans (t := s.withTracker r.1) ⟨rfl, rfl⟩ (steady_trackerReport _ _).sameTables

theorem sameTables_changeLevel (ch : Nat) (e : Entry) (old new : LevelRec) (s : State) :
    SameTables s (changeLevel ch e old new s) := by
  refine (sameTables_withEntry s ch { e with level := some new }).trans (Steady.sameTables ?_)
  unfold changeLevel
  dsimp only
  split
  · exact (steady_reportTransition _ _ _).trans (steady_forwardLevels _ _ _)
  · exact .refl _

theorem sameTables_positionFrom (last n : Nat) (s : State) : SameTables s (positionFrom last n s) := by
  fun_cases positionFrom
  · exact .refl s
  · exact (steady_advanceTransit _ s).sameTables
  · exact ⟨rfl, rfl⟩

theorem sameTables_routeReading (ch : Nat) (v : Half) (q : Nat) (s : State) : SameTables s (routeReading ch v q s) := by
  fun_cases routeReading
  · exact .refl s
  · exact .refl s
  · exact (steady_airReading _ _ _ s).sameTables
  · exact (steady_lelReading _ _ _ s).sameTables
  · exact (steady_webReading _ _ _ s).sameTables
  · exact ((steady_countKindMismatch s).ite (.refl s)).sameTables.trans (sameTables_trackerStep _ _)
  · unfold positionReading
    split
    · exact .refl s
    · dsimp only
      split
      · exact ⟨rfl, rfl⟩
      · exact SameTables.trans (t := s.withTracker { s.tracker with lastPosition := some v.toNat }) ⟨rfl, rfl⟩
          (sameTables_positionFrom _ _ _)
  · exact (steady_countKindMismatch s).sameTables

theorem sameTables_routeLevel (ch : Nat) (b : Bool) (s : State) : SameTables s (routeLevel ch b s) := by
  fun_cases routeLevel
  · exact .refl s
  · exact .refl s
  · unfold levelHanded
    split
    · exact sameTables_changeLevel _ _ _ _ s
    · exact .refl s
  all_goals exact (steady_countKindMismatch s).sameTables

theorem sameTables_copyFrame (o : List Byte) (s : State) : SameTables s (copyFrame o s) := by
  unfold copyFrame
  dsimp only
  split
  · exact (steady_copyBeat _ _ _ s).sameTables
  · exact (sameTables_routeReading _ _ _ s).ite (steady_countKindMismatch s).sameTables
  · exact (sameTables_routeLevel _ _ s).ite (steady_countKindMismatch s).sameTables
  all_goals exact .refl s

theorem sameTables_forwardFrame (o : List Byte) (s : State) : SameTables s (forwardFrame o s) := by
  have joined : ∀ f u, SameTables u (joinThrough f u) := fun f u => (sameJudged_joinThrough f u).sameTables
  unfold forwardFrame joinDemand
  dsimp only
  refine SameTables.ite ?_ (joined _ s)
  split
  · exact joined _ s
  · exact ((sameTables_withEntry s _ _).trans (joined _ _)).ite (joined _ s)

theorem steady_controlWork (s : State) : Steady s (controlWork s) := by
  have loops : ∀ u, Steady u (followDrives (forCircuits circuitPeriod (forZones zonePeriod u))) := fun u =>
    ((steady_forZones _ steady_zonePeriod u).trans (steady_forCircuits _ steady_circuitPeriod _)).trans
      (steady_followDrives _)
  have settled : ∀ u, Steady u (settleJudged u) := fun u => (steady_withLine u _).ite (.refl u)
  unfold controlWork
  refine (steady_withLine s { s.line with control := some Config.controlMs, priorMinFire := none }).trans ?_
  refine (loops _).trans (((settled _).trans (steady_bandReportToPlan _)).trans ?_)
  exact ((steady_forZones _ steady_judgeZone _).trans (steady_clearJudged _)).trans (steady_sensorTested _ _)

/-- The work of an expiry leaves the tables and the parameters. -/
theorem sameTables_expiryWork (c : Instr) (s : State) : SameTables s (expiryWork c s) := by
  cases c
  case confirmTimerExpiry ch =>
    show SameTables s (confirmWork ch.toNat s)
    unfold confirmWork
    split
    · exact sameTables_changeLevel _ _ _ _ s
    · exact .refl s
  case refreshTimerExpiry ch =>
    show SameTables s (refreshWork ch.toNat s)
    unfold refreshWork
    split
    · exact sameTables_originate _ _ _ s
    · exact .refl s
  case ageTimer1000 => exact sameTables_trackerStep _ s
  case purgeTimerExpiry => exact ((steady_enterHeatup s).ite (steady_withLine s _)).sameTables
  case settleTimerExpiry => exact (steady_readyFromHeatup s).sameTables
  case cooldownTimerExpiry => exact ((steady_withLine s _).trans (steady_cooldownJudged _)).sameTables
  case controlPeriod => exact (steady_controlWork s).sameTables
  case headTimerAfter | soakComplete | slowedDelayExpiry =>
    show SameTables s (fireWork s)
    unfold fireWork
    split
    · exact (steady_fireDue _ s).sameTables
    · exact .refl s
  case readyTimeout =>
    show SameTables s (stallWork s)
    unfold stallWork
    split
    · exact (steady_stallPlan _ s).sameTables
    · exact .refl s
  case ignitionTimerExpiry z => exact ((steady_withZone s z _).trans (steady_trip _ _)).sameTables
  case clearTimerExpiry => exact (steady_clearRelief s).sameTables
  case graceTimerExpiry z => exact ((steady_setGrace z none s).trans (steady_trip _ _)).sameTables
  case supervisionInterval => exact ((steady_withSupervisor s _).trans (steady_superviseInterval _)).sameTables
  all_goals exact ⟨rfl, rfl⟩

/-! ### Carrying out a commit (R67) -/

theorem steady_boundCeiling (b : Int) (s : State) : Steady s (boundCeiling b s) :=
  ((steady_withPlanner _ _).trans (steady_sendUnasked _ _)).ite (.refl s)

theorem steady_zoneFromRow (r : Row) (z : Zone) (s : State) : Steady s (zoneFromRow r z s) := by
  unfold zoneFromRow; split <;> simp

theorem steady_commitReady (r : Row) (s : State) : Steady s (commitReady r s) :=
  ((steady_withPlanner s _).trans (steady_flushTransit _)).trans
    (((steady_forZones _ (steady_zoneFromRow r) _).trans
      (steady_forCircuits _ (fun c u => steady_setSetpoint c (r.chill.get c) u) _)).trans (steady_boundCeiling _ _))

theorem steady_boundByGrantRow (s : State) : Steady s (boundByGrantRow s) := by
  unfold boundByGrantRow
  split
  · exact steady_boundCeiling _ s
  · exact .refl s

theorem steady_commitRun (s : State) : Steady s (commitRun s) := by
  unfold commitRun
  split
  · exact .refl s
  · rename_i j _
    have lowered : Steady s (boundByGrantRow (lowerGrantRow j s)) :=
      (steady_withPlanner s _).trans (steady_boundByGrantRow _)
    dsimp only
    split
    · exact lowered
    · exact lowered.trans (steady_installPlan _ _)

/-- The store once the pending commit is carried out. -/
def Store.committed (t : Store) : Store := { t with active := t.shadow, status := .done }

/-- A commit carried out moves the shadow copy into the active one, and what follows in READY and RUN leaves both (R67). -/
theorem steady_carryOut (s : State) : Steady (s.withStore s.store.committed) (carryOut s) := by
  unfold carryOut
  dsimp only
  split
  · split
    · exact steady_commitReady _ _
    · exact .refl _
  · exact steady_commitRun _
  all_goals exact .refl _

/-! ### The invariant -/

/-- The tables are sound under CRAWL_SPEED, and the parameters in their ranges. -/
structure TablesSound (s : State) : Prop where
  store : StoreSound s
  params : paramsSound s.params

theorem SameTables.sound {s t : State} (h : SameTables s t) (sound : TablesSound s) : TablesSound t := by
  obtain ⟨⟨active, shadow⟩, params⟩ := sound
  exact ⟨⟨by rw [h.store, h.params]; exact active, by rw [h.store, h.params]; exact shadow⟩,
    by rw [h.params]; exact params⟩

/-- Another store with the active copy as it is, whose shadow copy is sound where its commit is pending. -/
theorem TablesSound.withStore {s : State} {x : Store} (h : TablesSound s) (active : x.active = s.store.active)
    (shadow : x.status = .pending → tableFault s.params.crawlSpeed x.shadow = none) : TablesSound (s.withStore x) :=
  ⟨⟨by rw [State.withStore_store, active]; exact h.store.active, shadow⟩, h.params⟩

/-- The shadow copy of a pending commit is sound, so the active copy it becomes is (R64, R67). -/
theorem tablesSound_settleStore {s : State} (h : TablesSound s) : TablesSound (settleStore s) := by
  unfold settleStore
  split
  · rename_i due
    refine (steady_carryOut s).sameTables.sound ⟨⟨.inr (h.store.shadow due.1), nofun⟩, h.params⟩
  · exact h

theorem tablesSound_closeEvent {s : State} (h : TablesSound s) : TablesSound (closeEvent s) :=
  ((steady_driveStage _).trans ((steady_payGrants _).trans (steady_sweepFaults _))).sameTables.sound
    (tablesSound_settleStore h)

theorem tablesSound_arbitrate {s : State} (h : TablesSound s) : TablesSound (arbitrate s) :=
  (sameJudged_arbitrate s).sameTables.sound h

theorem tablesSound_finish {s : State} (h : TablesSound s) : TablesSound (finish s) :=
  tablesSound_arbitrate (tablesSound_closeEvent h)

/-- The power-on values of the tables and the parameters are sound, whatever the other blocks hold. -/
theorem tablesSound_unconfigured {s : State} (store : s.store.active = [] ∧ s.store.status = .none)
    (params : s.params = .init) : TablesSound s :=
  ⟨⟨.inl store.1, fun pending => nomatch pending.symm.trans store.2⟩, params ▸ paramsSound_init⟩

/-- A SOFT_RESET keeps the active copy and the parameters or gives both their power-on values, and leaves no commit pending
(R72, R195, R197). -/
theorem tablesSound_softResetEffect {s : State} (h : TablesSound s) : TablesSound (softResetEffect s) := by
  by_cases retain : s.params.retain = 1
  · obtain ⟨active, _, params, _, _⟩ := retained_softResetEffect retain
    exact ⟨⟨by rw [active, params]; exact h.store.active,
      fun pending => nomatch pending.symm.trans (commitStatus_softReset _ _)⟩, by rw [params]; exact h.params⟩
  · have off : (s.params.retain == 1) = false := beq_eq_false_iff_ne.mpr retain
    refine tablesSound_unconfigured ⟨?_, commitStatus_softReset _ _⟩ ?_
    · show (s.store.softReset (s.params.retain == 1)).active = _
      rw [off]
      rfl
    · show (if s.params.retain == 1 then s.params else .init) = _
      rw [off]
      rfl

/-! ### Orders -/

theorem sameTables_writeMapBody (d : List Byte) (s : State) : SameTables s (writeMapBody d s).state := by
  have forgot : ∀ r u, SameTables u (forgetRole r u) := fun r u => by cases r <;> exact ⟨rfl, rfl⟩
  have rederived : ∀ a b u, SameTables u (superviseRederived a b u) := fun a b u =>
    have h : Steady u (superviseRederived a b u) := by
      unfold superviseRederived
      repeat' split
      all_goals simp
    h.sameTables
  have taken : ∀ ch f e, SameTables s (writeMapTaken ch f e s) := fun ch f e =>
    ((sameTables_withEntry s ch (e.written f)).trans (((forgot _ _).trans (forgot _ _)).ite (rederived _ _ _))).trans
      (steady_purgeTested _).sameTables
  fun_cases writeMapBody
  case case5 => exact taken _ _ _
  all_goals exact .refl s

theorem withdrawn_status (t : Store) : t.withdrawn.status ≠ .pending := by
  unfold Store.withdrawn
  split
  · nofun
  · assumption

/-- A write of the shadow copy withdraws a pending commit, so nothing need hold of the copy (R58). -/
theorem tablesSound_writeShadow {l : List Row} {s : State} (h : TablesSound s) : TablesSound (writeShadow l s) :=
  h.withStore (withdrawn_tables _).1 fun pending => absurd pending (withdrawn_status _)

theorem tablesSound_writeRowBody (d : List Byte) {s : State} (h : TablesSound s) :
    TablesSound (writeRowBody d s).state := by
  unfold writeRowBody
  split
  · exact h
  dsimp only
  split
  · exact h
  split
  · exact tablesSound_writeShadow h
  split
  · exact h
  split
  · exact tablesSound_writeShadow h
  split
  · exact tablesSound_writeShadow h
  · exact h

theorem tablesSound_withdrawn {s : State} (h : TablesSound s) : TablesSound (s.withStore s.store.withdrawn) :=
  h.withStore (withdrawn_tables _).1 fun pending => absurd pending (withdrawn_status _)

/-- A shadow copy that a COMMIT accepts satisfies V1 to V6 (R60, R64). -/
theorem tableFault_of_commitFault {s : State} (h : commitFault s = none) :
    tableFault s.params.crawlSpeed s.store.shadow = none := by
  unfold commitFault at h
  split at h
  · cases h
  · assumption

theorem tablesSound_commitBody {s : State} (h : TablesSound s) : TablesSound (commitBody s).state := by
  unfold commitBody
  split
  · exact tablesSound_withdrawn h
  · rename_i accepted
    exact h.withStore rfl fun _ => tableFault_of_commitFault accepted

/-- A table stays sound under a CRAWL_SPEED that its row 0 reaches (R70). -/
theorem tableSound_crawl {c v : Nat} {t : List Row} (h : tableSound c t) (fits : crawlFits v t = true) : tableSound v t :=
  h.imp id fun sound => tableFault_none.mpr ((tableFault_none.mp sound).crawl fits)

theorem steady_paramEffect (id v : Nat) (s : State) : Steady s (paramEffect id v s) := by
  have burner : ∀ z u, Steady u (refreshBurner z u) := steady_ifPresent _ fun _ _ => steady_withZone _ _ _
  have valve : ∀ c u, Steady u (refreshValve c u) := fun c u => (steady_withCircuit u c _).ite (.refl u)
  unfold paramEffect
  split
  · exact (steady_boundCeiling _ _).ite (.refl s)
  · exact (steady_forZones _ burner s).ite (.refl s)
  · exact (steady_forCircuits _ valve s).ite (.refl s)
  · exact steady_forZones _ (steady_ifPresent _ steady_judgeWarn) s
  · exact steady_forZones _ (steady_ifPresent _ steady_judgeTrip) s
  · exact steady_forZones _ (steady_ifPresent _ steady_judgeHot) s
  · exact .refl s

/-- A write that passes its range and its cross-conditions keeps the tables and the parameters sound (R70, R172, R195). -/
theorem tablesSound_setParams {s : State} {id v lo hi : Nat} (h : TablesSound s) (range : paramRange id = some (lo, hi))
    (low : lo ≤ v) (high : v ≤ hi) (fits : paramFits id v s = true) :
    TablesSound (setParams (s.params.set id v) s) := by
  have crawl : (s.params.set id v).crawlSpeed = if id = 2 then v else s.params.crawlSpeed :=
    params_get_set s.params v (paramRange_bounds range) (k := 2) ⟨by decide, by decide⟩
  have params : paramsSound (s.params.set id v) := by
    refine paramsSound_set h.params range low high ?_ ?_ <;> rintro rfl <;> exact of_decide_eq_true fits
  refine ⟨⟨?_, fun pending => ?_⟩, params⟩
  · show tableSound (s.params.set id v).crawlSpeed s.store.active
    rw [crawl]
    split
    · rename_i isCrawl
      subst isCrawl
      exact tableSound_crawl h.store.active (Bool.and_eq_true_iff.mp fits).1
    · exact h.store.active
  · show tableFault (s.params.set id v).crawlSpeed s.store.shadow = none
    have sound := h.store.shadow pending
    rw [crawl]
    split
    · rename_i isCrawl
      subst isCrawl
      have shadow := (Bool.and_eq_true_iff.mp fits).2
      rw [show s.store.status = .pending from pending] at shadow
      exact tableFault_none.mpr ((tableFault_none.mp sound).crawl shadow)
    · exact sound

/-- The cross-conditions read the tables, the parameters and the own address alone. -/
theorem paramFits_of_steady {s t : State} (h : Steady s t) (id v : Nat) : paramFits id v t = paramFits id v s := by
  unfold paramFits
  rw [h.store, h.link, h.sameTables.params]

theorem tablesSound_writeParamTaken {s : State} {id v lo hi : Nat} (h : TablesSound s)
    (range : paramRange id = some (lo, hi)) (low : lo ≤ v) (high : v ≤ hi) (fits : paramFits id v s = true) :
    TablesSound (writeParamTaken id v s) := by
  have kept := steady_keepMinFire id s
  have written := tablesSound_setParams (kept.sameTables.sound h) range low high ((paramFits_of_steady kept id v).trans fits)
  rw [kept.sameTables.params] at written
  unfold writeParamTaken
  split
  · exact h
  · exact (steady_paramEffect id v _).sameTables.sound written

theorem tablesSound_writeParamBody (d : List Byte) {s : State} (h : TablesSound s) :
    TablesSound (writeParamBody d s).state := by
  unfold writeParamBody
  split
  · dsimp only
    split
    · exact h
    rename_i least most range
    split
    · exact h
    rename_i bounds
    simp only [not_or, not_lt, Bool.not_eq_false] at bounds
    obtain ⟨low, high, fits⟩ := bounds
    split
    · exact h
    exact tablesSound_writeParamTaken h range low high fits
  · exact h

theorem steady_lineBody (d : List Byte) (s : State) : Steady s (lineBody d s).state := by
  have presence : Steady s (fixPresence s) :=
    ((steady_withLine _ _).trans (steady_withZones _ _)).trans ((steady_withCircuits _ _).trans (steady_withSupervisor _ _))
  fun_cases lineBody
  · fun_cases startBody
    · exact .refl s
    · exact presence.trans (steady_enterPurge _)
    · exact .refl s
  · fun_cases stopBody
    · exact steady_enterCooldown s
    · exact .refl s
  · fun_cases restartBody
    · exact (steady_emptyStack s).trans (steady_enterHeatup _)
    · exact .refl s
  · fun_cases clearLockoutBody
    · exact steady_enterCold s
    · exact .refl s
  · exact .refl s

theorem sameTables_faultTakeBody (s : State) : SameTables s (faultTakeBody s).state := by
  fun_cases faultTakeBody
  · exact .refl s
  · exact ((steady_withFaults _ _).trans (steady_sweepFaults _)).sameTables

theorem tablesSound_withoutData {body : State → Answer} (hb : ∀ s, TablesSound s → TablesSound (body s).state)
    (d : List Byte) {s : State} (h : TablesSound s) : TablesSound (withoutData body d s).state := by
  unfold withoutData
  split
  · exact hb s h
  · exact h

/-- Every order's body keeps the tables and the parameters sound. -/
theorem tablesSound_orderBody (code : Nat) (d : List Byte) {s : State} (h : TablesSound s) :
    TablesSound (orderBody code d s).state := by
  unfold orderBody
  split
  · rwa [readPlain_state]
  · rwa [readZoneBody_state]
  · rwa [readChillBody_state]
  · rwa [readPlain_state]
  · rwa [readPlanBody_state]
  · rwa [readPlain_state]
  · rwa [readMapBody_state]
  · rwa [readRowBody_state]
  · rwa [readParamBody_state]
  · rwa [readPlain_state]
  · exact (sameTables_writeMapBody d s).sound h
  · exact tablesSound_writeRowBody d h
  · split
    · exact tablesSound_commitBody h
    · exact h
  · exact tablesSound_withoutData (fun _ => tablesSound_withdrawn) d h
  · exact tablesSound_writeParamBody d h
  · exact (steady_lineBody d s).sameTables.sound h
  · unfold setHoldBody
    split
    · exact SameTables.sound (s := s) ⟨rfl, rfl⟩ h
    · exact h
  · unfold setFaultEnableBody
    split
    · exact (steady_withFaults s _).sameTables.sound h
    · exact h
  · exact tablesSound_withoutData (fun u => (sameTables_faultTakeBody u).sound) d h
  · exact tablesSound_withoutData (fun u => (steady_withSat u _).sameTables.sound) d h
  · refine tablesSound_withoutData (fun u hu => ?_) d h
    unfold softResetBody
    split <;> exact hu
  · exact h

theorem tablesSound_reply {a : Addr} {code tag : Byte} {d : List Byte} {s : State} (h : TablesSound s) :
    TablesSound (reply a code tag d s) := by
  have inserted := (steady_insertFrame (.reply a code tag d) s).sameTables.sound h
  unfold reply
  dsimp only
  split
  · split
    · exact tablesSound_softResetEffect inserted
    · exact inserted
  · exact (sameJudged_setSlot _ _).sameTables.sound inserted

theorem tablesSound_takeOrder {a : Addr} {code tag : Byte} {d : List Byte} {s : State} (h : TablesSound s) :
    TablesSound (takeOrder a code tag d s) := by
  have decided : TablesSound (decideOrder a code.toNat d s).state := by
    unfold decideOrder
    split
    · exact h
    · exact tablesSound_orderBody _ d h
  unfold takeOrder
  split
  · exact tablesSound_reply (tablesSound_closeEvent decided)
  · exact tablesSound_closeEvent ((steady_withSat s _).sameTables.sound h)

/-! ### One step -/

theorem tablesSound_receive (o : List Byte) {s : State} (h : TablesSound s) : TablesSound (receive o s) := by
  have linked : ∀ {u : State} (x : Link), TablesSound u → TablesSound (u.withLink x) := fun {u} x =>
    SameTables.sound (s := u) ⟨rfl, rfl⟩
  have good : TablesSound (countGood s) := linked _ h
  unfold receive
  split
  · split
    · unfold classify
      split
      · exact tablesSound_finish (linked _ good)
      · exact tablesSound_finish ((steady_takeAsk _ _ _ _).sameTables.sound (linked _ good))
      · exact tablesSound_arbitrate (tablesSound_takeOrder (linked _ good))
      · exact tablesSound_finish
          (((sameTables_forwardFrame o _).trans (sameTables_copyFrame o _)).sound good)
    · refine tablesSound_finish (Steady.sameTables ?_ |>.sound h)
      exact ((steady_withSat s _).trans (steady_raiseFault _ _)).ite (steady_withSat s _)
  · exact h

theorem tablesSound_txDoneWork {s : State} (h : TablesSound s) : TablesSound (txDoneWork s) := by
  unfold txDoneWork
  split
  · exact h
  · refine SameTables.sound (s := s) ?_ h
    unfold correctDemand
    split
    · exact ⟨rfl, rfl⟩
    split
    · exact SameTables.ite ⟨rfl, rfl⟩
        (SameTables.trans (t := throughLeft (freePort s)) ⟨rfl, rfl⟩ (sameTables_originate _ _ _ _))
    · exact ⟨rfl, rfl⟩
  · dsimp only
    have counted : TablesSound (countWrap (fun w => { w with txInserted := wrapInc w.txInserted }) (freePort s)) :=
      SameTables.sound (s := s) ⟨rfl, rfl⟩ h
    split
    · exact tablesSound_softResetEffect counted
    · exact counted

theorem tablesSound_exec {c : Instr} {s t : State} (h : TablesSound s) (ht : exec c s = .next t) : TablesSound t := by
  obtain ⟨phase, own, control, interval⟩ | _ | _ | o | _ | _ := exec_effect ht
  · exact tablesSound_unconfigured ⟨rfl, rfl⟩ rfl
  · exact h
  · exact SameTables.sound (s := s) ⟨rfl, rfl⟩ h
  · exact tablesSound_receive o h
  · exact tablesSound_finish (tablesSound_txDoneWork h)
  · exact tablesSound_finish ((sameTables_expiryWork c s).sound h)

/-- Settles O32: the commands that write the tables or a parameter check what they write, and every other one leaves them. -/
theorem activeTableStaysSound : Obligations.ActiveTableStaysSound := by
  intro s t store params h
  have sound : TablesSound s := ⟨store, params⟩
  suffices TablesSound t from ⟨this.store, this.params⟩
  unfold step at h
  split at h
  · cases h
    exact SameTables.sound (s := s) ⟨rfl, rfl⟩ sound
  · rename_i c rest _
    exact tablesSound_exec (SameTables.sound (s := s) (t := s.withPending rest) ⟨rfl, rfl⟩ sound) h

end Sys2Proof.Machine

/-!
SUPPORT. Orders that change the store alone, taken by a part at rest: the statements about WRITE_ROW and WITHDRAW.
-/

namespace Sys2Proof.Machine

/-! ### The store of a part at rest -/

theorem onlyChanges_withStore (s : State) (x : Store) : OnlyChanges [.store] s (s.withStore x) :=
  fun b hb => by cases b <;> simp_all [State.same]

/-- The conditions of the fault entries read of the store the active copy alone. -/
theorem conditionMask_withStore {s : State} {x : Store} (active : x.active = s.store.active) :
    (s.withStore x).conditionMask = s.conditionMask := by
  refine faultMask_congr fun e => ?_
  cases e
  case overspeed => simp only [faultCondition, State.withStore_store, State.withStore_planner, active]; rfl
  all_goals rfl

/-- The sources of demands do not read the store. -/
theorem drivesFollow_withStore (s : State) (x : Store) : drivesFollow (s.withStore x) = drivesFollow s := by
  have source : ∀ r, demandSource (s.withStore x) r = demandSource s r := fun r => by cases r <;> rfl
  unfold drivesFollow
  simp only [source]
  rfl

/-- A part at rest is closed under another store with the active copy as it is, whose commit is not due (R66). -/
theorem closed_withStore {s : State} {x : Store} (h : s.atRest = true) (active : x.active = s.store.active)
    (idle : x.status = .pending → s.safePoint = false) : Closed (s.withStore x) := by
  obtain ⟨drives, _, faults, _, grants⟩ := atRest_iff.mp h
  refine ⟨(drivesFollow_withStore s x).trans drives, ?_, ?_, grants⟩
  · show (!(x.status == .pending && s.safePoint)) = true
    cases pending : x.status == .pending with
    | false => rfl
    | true => rw [idle (eq_of_beq pending)]; rfl
  · unfold faultsSettled at faults ⊢
    rw [conditionMask_withStore active]
    exact faults

/-! ### Orders that change the store alone -/

/-- An order whose body ends where its event ends, with the sending side as it was and room for its REPLY. -/
theorem exec_answered_closed {c : Instr} {o : OrderFields} {s : State} {a : Answer} (ho : orderFields c = some o)
    (h : Taken o s) (admits : ManagerAdmits o.src s) (room : s.outlet.queue.length < Config.insertCapacity)
    (body : orderBody o.code.toNat o.data (arrived s) = a) (closed : Closed a.state)
    (link : a.state.link = (arrived s).link) (outlet : a.state.outlet = s.outlet) (hn : resetTaken o.code a.data = false) :
    ∃ t, exec c s = .next t ∧ Answered o a.data s t ∧ OutletAlone a.state t := by
  have port : portSettled a.state = true := by
    have settled := (atRest_iff.mp h.rest).2.2.2.1
    unfold portSettled at settled ⊢
    rw [link, outlet]
    exact settled
  obtain ⟨sends, slot, alone⟩ := reply_alone (dst := addrOf o.src) (tag := o.tag) (outlet ▸ room) port hn
  refine ⟨_, exec_order ho h admits body, ?_, ?_⟩ <;> rw [closed.closeEvent]
  · exact ⟨alone.link.trans link, sends, slot.trans (by rw [slotAfterReply, outlet]; rfl)⟩
  · exact alone

/-- An order is answered with data `d` and leaves the store at `x`, and changes nothing else. -/
def StoreAnswered (c : Instr) (d : List Byte) (x : Store) (s : State) : Prop :=
  ∃ o t, orderFields c = some o ∧ exec c s = .next t ∧ Answered o d s t ∧
    OnlyChanges [.link, .outlet, .agent, .store] s t ∧ t.params = s.params ∧ t.store = x

/-- An order whose body replaces the store, with the active copy as it is and no commit due. -/
theorem storeAnswered_of_body {c : Instr} {o : OrderFields} {s : State} {d : List Byte} {x : Store}
    (ho : orderFields c = some o) (taken : Taken o s) (admits : ManagerAdmits o.src s)
    (room : s.outlet.queue.length < Config.insertCapacity)
    (body : orderBody o.code.toNat o.data (arrived s) = { state := (arrived s).withStore x, data := d })
    (active : x.active = s.store.active) (idle : x.status = .pending → s.safePoint = false)
    (hn : resetTaken o.code d = false) : StoreAnswered c d x s := by
  have closed : Closed ((arrived s).withStore x) := closed_withStore (atRest_arrived taken.rest) active idle
  obtain ⟨t, done, answered, alone⟩ := exec_answered_closed ho taken admits room body closed rfl rfl hn
  exact ⟨o, t, ho, done, answered, (((onlyChanges_arrived s).trans (onlyChanges_withStore _ x)).trans
    alone.onlyChanges).mono (by simp), alone.judged.agent, alone.judged.store⟩

/-- A withdrawal in the statements' words. -/
theorem withdrawn_eq (t : Store) :
    t.withdrawn = { t with status := if t.status = .pending then .withdrawn else t.status } := by
  unfold Store.withdrawn
  split <;> rfl

/-- Settles O31: with none pending the store is its own withdrawal. -/
theorem withdrawEndsAPendingCommit : Obligations.WithdrawEndsAPendingCommit := by
  intro src dst tag s c alone write
  refine ⟨fun unpending => ?_, fun pending => ?_⟩
  · have same : s.store.withdrawn = s.store := if_neg unpending
    refine reports_of_body alone write rfl (d := [0]) ?_ rfl
    show ({ state := (arrived s).withStore s.store.withdrawn, data := [0] } : Answer) = _
    rw [same]
    rfl
  · obtain ⟨_, ⟨⟩, taken, room⟩ := alone
    obtain ⟨_, ⟨⟩, _, admits⟩ := write
    have gone : s.store.withdrawn = { s.store with status := .withdrawn } := if_pos pending
    refine storeAnswered_of_body (c := c) (d := [0]) rfl taken admits room ?_ rfl nofun rfl
    show ({ state := (arrived s).withStore s.store.withdrawn, data := [0] } : Answer) = _
    rw [gone]

/-! ### WRITE_ROW (R58) -/

/-- A row block past the table, unreadable, or past the row count is refused. -/
theorem writeRowBody_refused {i : Byte} {block : List Byte} {s : State}
    (h : 15 < i.toNat ∨ block ≠ [] ∧ (parseRow block = none ∨ s.store.shadow.length < i.toNat)) :
    writeRowBody (i :: block) s = .status .badArgument s := by
  unfold writeRowBody
  dsimp only
  split
  · rfl
  · rename_i small
    obtain large | ⟨nonempty, bad⟩ := h
    · exact absurd large small
    · rw [if_neg nonempty]
      split
      · rfl
      · rename_i r found
        obtain unread | past := bad
        · rw [unread] at found; cases found
        · rw [if_neg (by omega), if_neg (by omega)]

/-- No block truncates the shadow copy. -/
theorem writeRowBody_truncates {i : Byte} {s : State} (h : i.toNat ≤ 15) :
    writeRowBody [i] s = .status .done (writeShadow (s.store.shadow.take i.toNat) s) := by
  unfold writeRowBody
  dsimp only
  rw [if_neg (show ¬ Config.tableCapacity ≤ i.toNat from not_le.mpr (Nat.lt_succ_of_le h)), if_pos rfl]

/-- A row block that is read replaces a row, or joins the rows at their end. -/
theorem writeRowBody_row {i : Byte} {block : List Byte} {s : State} {r : Row} (h : i.toNat ≤ 15)
    (hr : parseRow block = some r) (hi : i.toNat ≤ s.store.shadow.length) :
    writeRowBody (i :: block) s =
      .status .done (writeShadow
        (if i.toNat < s.store.shadow.length then s.store.shadow.set i.toNat r else s.store.shadow ++ [r]) s) := by
  have nonempty : block ≠ [] := by rintro rfl; cases hr
  unfold writeRowBody
  dsimp only
  rw [if_neg (show ¬ Config.tableCapacity ≤ i.toNat from not_le.mpr (Nat.lt_succ_of_le h)), if_neg nonempty, hr]
  dsimp only
  split
  · rfl
  · rw [if_pos (by omega)]

/-- Settles O29, by R58's table. -/
theorem writeRowEditsTheShadow : Obligations.WriteRowEditsTheShadow := by
  intro src dst tag i block s c n status writes alone write
  have written : ∀ rows, writeRowBody (i :: block) (arrived s) = .status .done (writeShadow rows (arrived s)) →
      writes rows := by
    intro rows body
    obtain ⟨_, ⟨⟩, taken, room⟩ := alone
    obtain ⟨_, ⟨⟩, _, admits⟩ := write
    refine storeAnswered_of_body (c := c) rfl taken admits room (body.trans ?_) rfl (fun pending => ?_) rfl
    · show Answer.status .done ((arrived s).withStore { s.store with shadow := rows }.withdrawn) = _
      rw [withdrawn_eq]
      rfl
    · exact absurd pending (withdrawn_eq { s.store with shadow := rows } ▸ withdrawn_status { s.store with shadow := rows })
  refine ⟨fun small empty => ?_, fun r hr small inside => ?_, fun r hr small last => ?_, fun bad => ?_⟩
  · subst empty
    exact written _ (writeRowBody_truncates small)
  · have body := writeRowBody_row (s := arrived s) small hr inside.le
    rw [if_pos (by exact inside)] at body
    exact written _ body
  · have body := writeRowBody_row (s := arrived s) small hr last.le
    rw [if_neg (by exact last.not_lt)] at body
    exact written _ body
  · exact reports_of_body alone write rfl (writeRowBody_refused bad) rfl

end Sys2Proof.Machine

/-!
SUPPORT. A plan without GRANT steps at its head's tests, and a frame that waits through the end of its event: what a commit carried
out in RUN leaves.
-/

namespace Sys2Proof.Machine

/-! ### Steps without a GRANT (R102, R111) -/

/-- The line record, the grant, the sending side and INSERT_LOSS are the same. -/
structure SameGrant (s t : State) : Prop where
  line : t.line = s.line
  ceiling : t.planner.ceiling = s.planner.ceiling
  grantRow : t.planner.grantRow = s.planner.grantRow
  target : t.planner.target = s.planner.target
  outlet : t.outlet = s.outlet
  loss : t.sat.insertLoss = s.sat.insertLoss

theorem SameGrant.refl (s : State) : SameGrant s s := ⟨rfl, rfl, rfl, rfl, rfl, rfl⟩

theorem SameGrant.trans {s t u : State} (h : SameGrant s t) (k : SameGrant t u) : SameGrant s u :=
  ⟨k.line.trans h.line, k.ceiling.trans h.ceiling, k.grantRow.trans h.grantRow, k.target.trans h.target,
    k.outlet.trans h.outlet, k.loss.trans h.loss⟩

/-- And so is the plan. -/
structure Unsent (s t : State) : Prop extends SameGrant s t where
  plan : t.planner.plan = s.planner.plan

theorem Unsent.refl (s : State) : Unsent s s := ⟨.refl s, rfl⟩

theorem Unsent.trans {s t u : State} (h : Unsent s t) (k : Unsent t u) : Unsent s u :=
  ⟨h.toSameGrant.trans k.toSameGrant, k.plan.trans h.plan⟩

/-- Updates of blocks that hold none of these. -/
theorem unsent_of_same {s t : State} (line : t.line = s.line := by rfl) (ceiling : t.planner.ceiling = s.planner.ceiling := by rfl)
    (grantRow : t.planner.grantRow = s.planner.grantRow := by rfl) (target : t.planner.target = s.planner.target := by rfl)
    (outlet : t.outlet = s.outlet := by rfl) (loss : t.sat.insertLoss = s.sat.insertLoss := by rfl)
    (plan : t.planner.plan = s.planner.plan := by rfl) : Unsent s t := ⟨⟨line, ceiling, grantRow, target, outlet, loss⟩, plan⟩

theorem Unsent.ite {s t u : State} {c : Prop} [Decidable c] (h : Unsent s t) (k : Unsent s u) :
    Unsent s (if c then t else u) := by split <;> assumption

theorem unsent_retargetZone (z : Zone) (a f r : Int) (s : State) : Unsent s (retargetZone z a f r s) := by
  unfold retargetZone
  exact Unsent.ite unsent_of_same (.refl s)

theorem unsent_setSetpoint (c : Circuit) (v : Int) (s : State) : Unsent s (setSetpoint c v s) := by
  unfold setSetpoint
  exact Unsent.ite unsent_of_same (.refl s)

theorem unsent_forceHead (s : State) : Unsent s (forceHead s) := by
  unfold forceHead
  split
  · exact .refl s
  · rename_i e rest _
    have matured : Unsent s (mature e (s.withTransit rest)) :=
      Unsent.trans (t := s.withTransit rest) unsent_of_same (unsent_setSetpoint _ _ _)
    exact matured.trans unsent_of_same

theorem unsent_appendTransit (c : Circuit) (v : Int) (j : Nat) (s : State) : Unsent s (appendTransit c v j s) :=
  ((Unsent.refl s).ite (unsent_forceHead s)).trans unsent_of_same

/-- A step that is no GRANT step sends nothing and leaves the grant (R102). -/
theorem unsent_stepEffect {k : StepKind} (h : ∀ v j, k ≠ .grant v j) (req : Option Request) (s : State) :
    Unsent s (stepEffect req k s) := by
  cases k with
  | setExhaust v => exact unsent_of_same
  | setFan z v => exact unsent_of_same
  | setZone z a f r =>
    exact Unsent.trans (t := setTargets z _ s) unsent_of_same (unsent_retargetZone _ _ _ _ _)
  | queueChill c v j =>
    exact Unsent.trans
      (t := s.withPlanner
        { s.planner with inForce := { s.planner.inForce with chill := s.planner.inForce.chill.set c v } })
      unsent_of_same (unsent_appendTransit _ _ _ _)
  | grant v j => exact absurd rfl (h v j)

/-! ### Plans without a GRANT step -/

/-- A plan's cause, request, target and steps as they are, but for the steps' status. -/
structure Plan.Alike (p q : Plan) : Prop where
  origin : q.origin = p.origin
  ordering : q.ordering = p.ordering
  request : q.request = p.request
  target : q.target = p.target
  shapes : q.steps.map PlanStep.shape = p.steps.map PlanStep.shape

theorem Plan.Alike.refl (p : Plan) : p.Alike p := ⟨rfl, rfl, rfl, rfl, rfl⟩

theorem Plan.Alike.trans {p q r : Plan} (h : p.Alike q) (k : q.Alike r) : p.Alike r :=
  ⟨k.origin.trans h.origin, k.ordering.trans h.ordering, k.request.trans h.request, k.target.trans h.target,
    k.shapes.trans h.shapes⟩

/-- A head that fires changes its status alone (R106). -/
theorem alike_advanced (limit : Nat) (p : Plan) : p.Alike (p.advanced limit) := by
  refine ⟨rfl, rfl, rfl, rfl, List.ext_getElem? fun i => ?_⟩
  simp only [Plan.advanced, List.getElem?_map, List.getElem?_modify]
  cases p.steps[i]? with
  | none => rfl
  | some t => by_cases head : p.head = i <;> simp [head]

/-- A plan that holds no GRANT step. -/
def Plan.grantless (p : Plan) : Prop := ∀ x ∈ p.steps.map PlanStep.shape, ∀ v j, x.1 ≠ .grant v j

theorem Plan.Alike.grantless {p q : Plan} (h : p.Alike q) (k : p.grantless) : q.grantless := by
  unfold Plan.grantless
  rw [h.shapes]
  exact k

/-- What the tests of a plan's head leave where it has no GRANT step and no entry into READY to make. -/
structure Ran (p : Plan) (s t : State) : Prop extends SameGrant s t where
  plan : ∀ q, t.planner.plan = some q → p.Alike q

theorem ran_self {p : Plan} {s : State} (plan : s.planner.plan = some p) : Ran p s s :=
  ⟨.refl s, fun q hq => by cases plan.symm.trans hq; exact .refl p⟩

theorem ran_withPlan {p : Plan} {s : State} {x : Option Plan} (h : ∀ q, x = some q → p.Alike q) : Ran p s (s.withPlan x) :=
  ⟨⟨rfl, rfl, rfl, rfl, rfl, rfl⟩, h⟩

/-- The head fires and the tests go on from what it leaves. -/
theorem Ran.after {p q : Plan} {s t u : State} (h : Unsent (s.withPlan (some q)) t) (alike : p.Alike q) (k : Ran q t u) :
    Ran p s u :=
  have stored : SameGrant s (s.withPlan (some q)) := ⟨rfl, rfl, rfl, rfl, rfl, rfl⟩
  ⟨(stored.trans h.toSameGrant).trans k.toSameGrant, fun r hr => alike.trans (k.plan r hr)⟩

theorem completePlan_away {p : Plan} (h : p.target ≠ 0) (s : State) : completePlan p s = s.withPlan none := by
  unfold completePlan
  exact if_neg fun k => h k.2.1

theorem ran_testHead (n : Nat) {p : Plan} {s : State} (plan : s.planner.plan = some p) (away : p.target ≠ 0)
    (grantless : p.grantless) : Ran p s (testHead n s) := by
  induction n generalizing p s with
  | zero => exact ran_self plan
  | succ n ih =>
    unfold testHead
    rw [plan]
    dsimp only
    split
    · rw [completePlan_away away]
      exact ran_withPlan nofun
    · rename_i x head
      split
      · exact ran_self plan
      split
      · have shape : x.shape ∈ p.steps.map PlanStep.shape := List.mem_map_of_mem (List.mem_of_getElem? head)
        have alike := alike_advanced (seconds s.params.readyTimeout) p
        have fired : Unsent (s.withPlan (some (p.advanced (seconds s.params.readyTimeout)))) (fireHead p x.kind s) :=
          (unsent_stepEffect (grantless _ shape) _ _).trans unsent_of_same
        exact .after fired alike (ih fired.plan away (alike.grantless grantless))
      · exact ran_withPlan fun q hq => by cases hq; exact ⟨rfl, rfl, rfl, rfl, rfl⟩

/-- An ADJUST plan has no GRANT step (R111). -/
theorem grant_notMem_adjustSteps (s : State) (j : Nat) (r : Row) (v : Int) (k : Nat) :
    .grant v k ∉ (adjustSteps s j r).map PlanStep.kind := by
  have exhaust : .grant v k ∉ exhaustKinds s r := by rcases exhaustKinds_cases s r with e | e <;> simp [e]
  have fan : .grant v k ∉ fanKinds s r := by
    rw [fanKinds, List.mem_filterMap]
    rintro ⟨z, _, h⟩
    split at h
    · split at h <;> cases h
    · cases h
  have zone : .grant v k ∉ zoneKinds s r := by
    rw [zoneKinds, List.mem_filterMap]
    rintro ⟨z, _, h⟩
    split at h
    · split at h <;> cases h
    · cases h
  have chill : .grant v k ∉ chillKinds s j r := by
    rw [chillKinds, List.mem_filterMap]
    rintro ⟨c, _, h⟩
    split at h <;> cases h
  simp [adjustSteps, openingSteps, closingSteps, exhaust, fan, zone, chill]

theorem grantless_adjust (s u : State) (o : Origin) (ord : Ordering3) (req : Option Request) (j : Nat) (r : Row) :
    (Plan.built u o ord req j (adjustSteps s j r)).grantless := by
  intro x hx v k grant
  obtain ⟨t, ht, rfl⟩ := List.mem_map.mp hx
  exact grant_notMem_adjustSteps s j r v k (List.mem_map.mpr ⟨t, ht, grant⟩)

/-- The steps of an ADJUST plan read the stack, the in-force set, the presence and the parameters (R108, R111). -/
theorem adjustSteps_congr {s u : State} (stack : u.stack = s.stack) (inForce : u.planner.inForce = s.planner.inForce)
    (line : u.line = s.line) (params : u.params = s.params) (j : Nat) (r : Row) : adjustSteps u j r = adjustSteps s j r := by
  have zones : ∀ z, u.present z = s.present z := fun z => by unfold State.present; rw [line]
  have circuits : ∀ c, u.circuitPresent c = s.circuitPresent c := fun c => by unfold State.circuitPresent; rw [line]
  simp only [adjustSteps, openingSteps, closingSteps, exhaustKinds, fanKinds, zoneKinds, chillKinds, stack, inForce, params,
    zones, circuits]

/-- A plan put in existence in RUN has its head tested (R84, R108). -/
theorem installPlan_run {p : Plan} {s : State} (run : s.line.state = .run) :
    installPlan p s =
      testHead (p.steps.length + 1) (s.withPlanner { s.planner with plan := some p, target := p.target }) := by
  unfold installPlan
  dsimp only
  rw [if_neg (by rw [State.withPlanner_line, run]; nofun)]
  rfl

/-! ### A frame that waits through the end of its event (R14) -/

theorem replaceWaiting_keeps {f g : OwnFrame} {q r : List OwnFrame} (key : f.key ≠ g.key) (hf : f ∈ q)
    (h : replaceWaiting g q = some r) : f ∈ r := by
  induction q generalizing r with
  | nil => cases hf
  | cons x q ih =>
    unfold replaceWaiting at h
    split at h
    · rename_i same
      cases h
      rcases List.mem_cons.mp hf with rfl | hf
      · exact absurd (eq_of_beq (Bool.and_eq_true_iff.mp same).2).symm key
      · exact List.mem_cons_of_mem _ hf
    · obtain ⟨l, hl, rfl⟩ := Option.map_eq_some_iff.mp h
      rcases List.mem_cons.mp hf with rfl | hf
      · exact List.mem_cons_self
      · exact List.mem_cons_of_mem _ (ih hf hl)

/-- A waiting frame waits on while a frame of another key is inserted. -/
theorem waits_insertFrame {f g : OwnFrame} {s : State} (key : f.key ≠ g.key) (hf : f ∈ s.outlet.queue) :
    f ∈ (insertFrame g s).outlet.queue := by
  cases h : replaceWaiting g s.outlet.queue with
  | some q =>
    rw [insertFrame_of_same h]
    exact replaceWaiting_keeps key hf h
  | none =>
    rw [insertFrame_of_new h]
    split
    · exact List.mem_append_left _ hf
    · exact hf

theorem waits_insertAll {f : OwnFrame} {l : List OwnFrame} {s : State} (key : ∀ g ∈ l, f.key ≠ g.key)
    (hf : f ∈ s.outlet.queue) : f ∈ (insertAll l s).outlet.queue := by
  induction l generalizing s with
  | nil => exact hf
  | cons g l ih =>
    obtain ⟨first, rest⟩ := List.forall_mem_cons.mp key
    exact ih rest (waits_insertFrame first hf)

theorem owedDemands_demand {n : Nat} {l : List Entry} {g : OwnFrame} (h : g ∈ owedDemands n l) :
    ∃ ch v, g = .demand ch v := by
  induction l generalizing n with
  | nil => cases h
  | cons e l ih =>
    unfold owedDemands at h
    split at h
    · split at h
      · rcases List.mem_cons.mp h with rfl | h
        · exact ⟨_, _, rfl⟩
        · exact ih h
      · exact ih h
    · exact ih h

/-- A GRANT waits on while the drive stage originates its DEMAND frames (R36). -/
theorem waits_driveStage {f : OwnFrame} {s : State} (key : f.key = some .grant) (hf : f ∈ s.outlet.queue) :
    f ∈ (driveStage s).outlet.queue := by
  refine waits_insertAll (fun g hg => ?_) hf
  obtain ⟨ch, v, rfl⟩ := owedDemands_demand hg
  rw [key]
  nofun

/-- A frame waits in the insert queue of `t`, or INSERT_LOSS has counted it since `s` (R14). -/
def WaitsOrLost (f : OwnFrame) (s t : State) : Prop :=
  f ∈ t.outlet.queue ∨ ∃ n : Byte, s.sat.insertLoss.toNat ≤ n.toNat ∧ (satInc n).toNat ≤ t.sat.insertLoss.toNat

theorem WaitsOrLost.later {f : OwnFrame} {s t u : State} (h : WaitsOrLost f s t)
    (waits : f ∈ t.outlet.queue → f ∈ u.outlet.queue) (loss : t.sat.insertLoss.toNat ≤ u.sat.insertLoss.toNat) :
    WaitsOrLost f s u :=
  h.imp waits fun ⟨n, since, counted⟩ => ⟨n, since, counted.trans loss⟩

theorem waitsOrLost_insertFrame {f : OwnFrame} {s t : State} (h : s.sat.insertLoss.toNat ≤ t.sat.insertLoss.toNat) :
    WaitsOrLost f s (insertFrame f t) :=
  (insertFrame_waits_or_lost f t).imp id fun lost => ⟨_, h, by rw [lost]⟩

/-- A count that has saturated or grown is not the one before, or stands at 255 (R19). -/
theorem loss_moved {a n b : Byte} (since : a.toNat ≤ n.toNat) (counted : (satInc n).toNat ≤ b.toNat) : b ≠ a ∨ b = 255 := by
  have small : n.toNat < 256 := n.isLt
  have limit : b.toNat < 256 := b.isLt
  by_cases full : n = 255#8
  · refine .inr (BitVec.eq_of_toNat_eq ?_)
    have value : n.toNat = 255 := congrArg BitVec.toNat full
    rw [satInc, if_pos full] at counted
    change b.toNat = 255
    omega
  · refine .inl ?_
    rintro rfl
    have notFull : n.toNat ≠ 255 := fun k => full (BitVec.eq_of_toNat_eq k)
    rw [satInc, if_neg full, BitVec.toNat_add] at counted
    change (n.toNat + 1) % 256 ≤ _ at counted
    omega

/-- A frame that waits when the arbiter decides is sent (R16). -/
theorem WaitsOrLost.sent {f : OwnFrame} {s t : State} (h : WaitsOrLost f s t) : SentOrLost f s (arbitrate t) := by
  rcases h with waits | ⟨n, since, counted⟩
  · exact .inl (sends_arbitrate waits)
  · rw [SentOrLost, (outletAlone_arbitrate t).sat]
    exact .inr (loss_moved since counted)

end Sys2Proof.Machine

/-!
SUPPORT. A COMMIT taken by a part at rest, by what it finds and by the line state it is carried out in: the statement about COMMIT.
-/

namespace Sys2Proof.Machine

/-! ### A commit carried out, by line state (R67 to R69) -/

/-- In COLD and COOLDOWN a commit asks nothing further of the line. -/
theorem carryOut_idle {s : State} (h : s.line.state = .cold ∨ s.line.state = .cooldown) :
    carryOut s = s.withStore s.store.committed := by
  unfold carryOut
  rcases h with h | h <;> simp only [State.withStore_line, h] <;> rfl

theorem carryOut_ready {s : State} {r : Row} {rs : List Row} (ready : s.line.state = .ready)
    (shadow : s.store.shadow = r :: rs) : carryOut s = commitReady r (s.withStore s.store.committed) := by
  unfold carryOut
  simp only [State.withStore_line, State.withStore_store, Store.committed, ready, shadow]

theorem carryOut_run {s : State} (run : s.line.state = .run) : carryOut s = commitRun (s.withStore s.store.committed) := by
  unfold carryOut
  simp only [State.withStore_line, run]
  rfl

/-- A commit in READY: row 0 in force, the transit line flushed, the ceiling bounded by row 0's band (R68). -/
theorem commitReady_leaves (r : Row) (s : State) :
    (commitReady r s).planner =
        { s.planner with inForce := s.planner.inForce.fromRow r, ceiling := min s.planner.ceiling r.high } ∧
      (commitReady r s).transit = [] ∧ (commitReady r s).line = s.line := by
  let u := flushTransit (s.withPlanner { s.planner with inForce := s.planner.inForce.fromRow r })
  let v := forCircuits (fun c => setSetpoint c (r.chill.get c)) (forZones (zoneFromRow r) u)
  have zone : ∀ z w, Calm w (zoneFromRow r z w) := fun z w => by
    unfold zoneFromRow
    split
    · exact calm_retargetZone _ _ _ _ w
    · exact .refl w
  have loops : Calm u v := (calm_forZones _ zone u).trans (calm_forCircuits _ (fun c w => calm_setSetpoint c _ w) _)
  have bound : (boundCeiling r.high v).transit = v.transit ∧ (boundCeiling r.high v).line = v.line := by
    unfold boundCeiling
    split
    · exact ⟨(calm_sendUnasked _ _).transit, (calm_sendUnasked _ _).line⟩
    · exact ⟨rfl, rfl⟩
  refine ⟨(boundCeiling_planner r.high v).trans ?_, bound.1.trans loops.transit, bound.2.trans loops.line⟩
  rw [loops.planner]
  rfl

/-- What a bound of the ceiling leaves beside the planner. -/
theorem boundCeiling_rest (b : Int) (s : State) :
    (boundCeiling b s).line = s.line ∧ (boundCeiling b s).stack = s.stack := by
  unfold boundCeiling
  split
  · exact ⟨(calm_sendUnasked _ _).line, (calm_sendUnasked _ _).stack⟩
  · exact ⟨rfl, rfl⟩

/-- The grant bounded by a commit in RUN toward row `j`, the band high of the grant row's new place being `b` (R69). -/
def boundGrant (j : Nat) (b : Int) (s : State) : State := boundCeiling b (lowerGrantRow j s)

theorem boundGrant_planner (j : Nat) (b : Int) (s : State) :
    (boundGrant j b s).planner =
      { s.planner with ceiling := min s.planner.ceiling b, grantRow := s.planner.grantRow.map (min j) } :=
  boundCeiling_planner b (lowerGrantRow j s)

theorem boundGrant_rest (j : Nat) (b : Int) (s : State) :
    (boundGrant j b s).line = s.line ∧ (boundGrant j b s).stack = s.stack :=
  boundCeiling_rest b (lowerGrantRow j s)

theorem steady_boundGrant (j : Nat) (b : Int) (s : State) : Steady s (boundGrant j b s) :=
  (steady_withPlanner s _).trans (steady_boundCeiling b _)

/-- A ceiling that falls is told by a GRANT HELD (R69). -/
theorem boundGrant_sends {j : Nat} {b : Int} {s : State} (falls : b < s.planner.ceiling) :
    WaitsOrLost (.grant s.outlet.dest.address s.planner.lastTag b .held) s (boundGrant j b s) ∧
      grantsPaid (boundGrant j b s) = true := by
  let u := (lowerGrantRow j s).withPlanner { (lowerGrantRow j s).planner with ceiling := b }
  have sent : boundGrant j b s = insertFrame (.grant s.outlet.dest.address s.planner.lastTag b .held) (payGrants u) :=
    if_pos falls
  rw [sent]
  refine ⟨waitsOrLost_insertFrame ?_, (sameJudged_insertFrame _ _).grants_paid.trans (grantsPaid_payGrants u)⟩
  exact (work_payGrants u).undisturbed.loss

/-- A commit carried out in RUN: the grant bounded, then an ADJUST plan toward the row chosen (R69). -/
theorem commitRun_eq {s : State} {j g : Nat} {r b : Row} (chosen : commitRow s = some j) (grant : s.planner.grantRow = some g)
    (hr : s.store.active[j]? = some r) (hb : s.store.active[min j g]? = some b) :
    commitRun s =
      installPlan (.built (boundGrant j b.high s) .commit .adjust none j (adjustSteps s j r)) (boundGrant j b.high s) := by
  have bound : boundByGrantRow (lowerGrantRow j s) = boundGrant j b.high s := by
    have row : ((lowerGrantRow j s).planner.grantRow.bind fun k => (lowerGrantRow j s).store.active[k]?) = some b := by
      show ((s.planner.grantRow.map (min j)).bind fun k => s.store.active[k]?) = some b
      rw [grant]
      exact hb
    rw [boundByGrantRow, row]
    rfl
  have kept := steady_boundGrant j b.high s
  obtain ⟨line, stack⟩ := boundGrant_rest j b.high s
  have steps := adjustSteps_congr stack (by rw [boundGrant_planner]) line kept.sameTables.params j r
  rw [commitRun, chosen]
  dsimp only
  rw [bound, kept.store, hr]
  dsimp only
  rw [steps]

/-! ### The end of the event that carries a commit out -/

theorem calm_sweepFaults (s : State) : Calm s (sweepFaults s) := by
  obtain ⟨x, swept⟩ := sweepFaults_cases s
  rw [swept]
  exact ⟨rfl, rfl, rfl, rfl, rfl⟩

/-- A commit that is due is carried out before the drive stage, the GRANT frames and the fault entries (R66; log 7). -/
theorem closeEvent_due {s : State} (pending : s.store.status = .pending) (safe : s.safePoint = true) :
    closeEvent s = sweepFaults (payGrants (driveStage (carryOut s))) := by
  rw [closeEvent, settleStore, if_pos ⟨pending, safe⟩]

/-- What the event of a COMMIT carried out leaves of the state `v` that the commit makes. -/
structure CommitEnds (s v t : State) : Prop where
  calm : Calm v t
  tables : SameTables v t
  idle : drivesFollow v = true → grantsPaid v = true → OnlyChanges [.outlet, .sat, .agent, .faults] v t
  sends : ∀ f : OwnFrame, f.key = some .grant → grantsPaid v = true → WaitsOrLost f s v → SentOrLost f s t

/-- An ending of the event and an ordinary REPLY. -/
theorem commitEnds_reply {s v t : State} {dst : Addr} {code tag : Byte} {d : List Byte} (hn : resetTaken code d = false)
    (ht : t = arbitrate (reply dst code tag d (sweepFaults (payGrants (driveStage v))))) : CommitEnds s v t := by
  obtain ⟨slot, replied⟩ := reply_ordinary (dst := dst) (tag := tag) (sweepFaults (payGrants (driveStage v))) hn
  rw [replied] at ht
  subst ht
  let u := sweepFaults (payGrants (driveStage v))
  have closes : Calm v u := ((calm_driveStage v).trans (calm_payGrants _)).trans (calm_sweepFaults _)
  have answered : SameJudged u (arbitrate (setSlot slot (insertFrame (.reply dst code tag d) u))) :=
    ((sameJudged_insertFrame _ _).trans (sameJudged_setSlot slot _)).trans (sameJudged_arbitrate _)
  have beside : OnlyChanges [.outlet, .sat, .agent] u (arbitrate (setSlot slot (insertFrame (.reply dst code tag d) u))) :=
    (((onlyChanges_insertFrame _ _).trans (onlyChanges_withAgent _ _)).trans
      (outletAlone_arbitrate _).onlyChanges).mono (by simp)
  refine ⟨closes.trans ⟨answered.line, answered.planner, answered.stack, beside .transit (by simp), answered.supervisor⟩,
    (((steady_driveStage v).trans (steady_payGrants _)).trans (steady_sweepFaults _)).sameTables.trans answered.sameTables,
    fun drives grants => ?_, fun f key grants waits => ?_⟩
  · obtain ⟨x, swept⟩ := sweepFaults_cases v
    have ending : u = v.withFaults x := by
      show sweepFaults (payGrants (driveStage v)) = _
      rw [driveStage_of_settled drives, payGrants_of_paid grants, swept]
    exact ((ending ▸ onlyChanges_withFaults v x : OnlyChanges [.faults] v u).trans beside).mono (by simp)
  · have paid : payGrants (driveStage v) = driveStage v :=
      payGrants_of_paid ((driveStage_same v).grants_paid.trans grants)
    obtain ⟨x, swept⟩ := sweepFaults_cases (driveStage v)
    have ending : u = (driveStage v).withFaults x := by
      show sweepFaults (payGrants (driveStage v)) = _
      rw [paid, swept]
    have closed : WaitsOrLost f s u := by
      rw [ending]
      exact waits.later (waits_driveStage key) (work_driveStage v).undisturbed.loss
    refine WaitsOrLost.sent (closed.later (fun hf => ?_) (work_insertFrame _ u).undisturbed.loss)
    exact waits_insertFrame (by rw [key]; nofun) hf

/-- A COMMIT accepted at a safe point is carried out in its own event (R64, R66, R67). -/
theorem exec_commit_due {src dst tag : Byte} {s : State} (write : TakenWrite (.commit src dst tag []) s)
    (accepted : commitFault s = none) (safe : s.safePoint = true) :
    ∃ t, Carries (.commit src dst tag []) [1, 0, 0] s t ∧
      CommitEnds s (carryOut ((arrived s).withStore { s.store with status := .pending })) t := by
  obtain ⟨_, ⟨⟩, taken, admits⟩ := write
  let u := (arrived s).withStore { s.store with status := .pending }
  have body : commitBody (arrived s) = { state := u, data := [1, 0, 0] } := by
    rw [commitBody, show commitFault (arrived s) = none from accepted]
    rfl
  have closes : closeEvent u = sweepFaults (payGrants (driveStage (carryOut u))) := closeEvent_due rfl safe
  obtain ⟨t, carries, _⟩ := exec_carried (c := .commit src dst tag []) rfl taken admits body rfl le_rfl rfl
  refine ⟨t, carries, commitEnds_reply (dst := addrOf src) (code := 0x22) (tag := tag) (d := [1, 0, 0]) rfl ?_⟩
  obtain ⟨_, _, done, _⟩ := carries
  have ordered := exec_order (c := .commit src dst tag []) rfl taken admits body
  rw [← closes]
  exact Host.Outcome.next.inj (done.symm.trans ordered)

/-! ### A commit in RUN (R69, R85) -/

/-- The plan of a commit in RUN toward row `j` (R69). -/
def commitPlan (s : State) (j : Nat) (r : Row) (b : Int) : Plan :=
  .built (boundGrant j b s) .commit .adjust none j (adjustSteps s j r)

/-- The part in RUN with the grant bounded and the commit's plan in existence. -/
def commitBuilt (s : State) (j : Nat) (r : Row) (b : Int) : State :=
  (boundGrant j b s).withPlanner
    { (boundGrant j b s).planner with plan := some (commitPlan s j r b), target := j }

theorem commitRun_tests {s : State} {j g : Nat} {r b : Row} (run : s.line.state = .run) (chosen : commitRow s = some j)
    (grant : s.planner.grantRow = some g) (hr : s.store.active[j]? = some r) (hb : s.store.active[min j g]? = some b) :
    commitRun s = testHead ((adjustSteps s j r).length + 1) (commitBuilt s j r b.high) := by
  rw [commitRun_eq chosen grant hr hb]
  exact installPlan_run (by rw [(boundGrant_rest j b.high s).1]; exact run)

/-- A plan built without steps completes at once (R106). -/
theorem testHead_empty {n : Nat} {p : Plan} {s : State} (plan : s.planner.plan = some p) (empty : p.steps = []) :
    testHead (n + 1) s = completePlan p s := by
  rw [testHead, plan]
  dsimp only
  rw [empty]
  rfl

/-- A MASTER_LOST push leaves the planner, or discards its plan (R155). -/
theorem push_masterLost_planner (s : State) :
    (push .masterLost s).planner = s.planner ∨ (push .masterLost s).planner = { s.planner with plan := none } := by
  unfold push
  split
  · exact .inl rfl
  split
  · exact .inl rfl
  split
  · split
    · exact .inr rfl
    · exact .inl rfl
  · split
    · exact .inr rfl
    · exact .inr rfl

/-- The return to READY with an empty stack and no plan (R85). -/
theorem readyFromRun_leaves {s : State} (alone : s.stack = []) (noPlan : s.planner.plan = none) :
    (readyFromRun s).line.state = .ready ∧
      (readyFromRun s).planner = { s.planner with ceiling := s.params.crawlSpeed, grantRow := some 0 } := by
  let e := enterLine .ready s
  let u := e.withPlanner { e.planner with ceiling := s.params.crawlSpeed, grantRow := some 0 }
  let v := sendUnasked (if (s.params.crawlSpeed : Int) < s.planner.ceiling then .held else .granted) u
  have entered : readyFromRun s = masterAtReady v := by
    have stack : e.stack.isEmpty = true := by rw [enterLine_stack, alone]; rfl
    have params : e.params = s.params := (steady_enterLine .ready s).sameTables.params
    unfold readyFromRun
    dsimp only
    rw [show (enterLine .ready s).stack.isEmpty = true from stack, if_pos rfl,
      show (enterLine .ready s).params = s.params from params]
  have line : v.line.state = .ready := by
    rw [show v.line = e.line from (calm_sendUnasked _ u).line, enterLine_line]
  have planner : v.planner = { s.planner with ceiling := s.params.crawlSpeed, grantRow := some 0 } := by
    rw [show v.planner = u.planner from sendUnasked_planner _ u]
    show { e.planner with ceiling := (s.params.crawlSpeed : Int), grantRow := some 0 } = _
    rw [enterLine_planner]
    rfl
  rw [entered]
  unfold masterAtReady
  split
  · refine ⟨by rw [(push_rest .masterLost v).1, line], ?_⟩
    rcases push_masterLost_planner v with h | h <;> rw [h, planner]
    rw [← noPlan]
  · exact ⟨line, planner⟩

theorem commitBuilt_planner {s : State} {j g : Nat} (r : Row) (b : Int) (grant : s.planner.grantRow = some g) :
    (commitBuilt s j r b).planner =
      { s.planner with
        ceiling := min s.planner.ceiling b, grantRow := some (min j g), target := j, plan := some (commitPlan s j r b) } := by
  show { (boundGrant j b s).planner with plan := some (commitPlan s j r b), target := j } = _
  rw [boundGrant_planner, grant]
  rfl

theorem commitBuilt_line (s : State) (j : Nat) (r : Row) (b : Int) : (commitBuilt s j r b).line = s.line :=
  (boundGrant_rest j b s).1

section inRun

variable {s : State} {j g : Nat} {r b : Row}

/-- Toward a row above row 0 the plan runs as far as it can, and the line stays in RUN (R69). -/
theorem ran_commitRun (run : s.line.state = .run) (chosen : commitRow s = some j) (grant : s.planner.grantRow = some g)
    (hr : s.store.active[j]? = some r) (hb : s.store.active[min j g]? = some b) (away : j ≠ 0) :
    Ran (commitPlan s j r b.high) (commitBuilt s j r b.high) (commitRun s) := by
  rw [commitRun_tests run chosen grant hr hb]
  exact ran_testHead _ rfl away (grantless_adjust s _ _ _ _ j r)

/-- A ceiling that falls is told by a GRANT HELD, which no step of the plan takes the place of (R14, R69). -/
theorem commitRun_sends (run : s.line.state = .run) (chosen : commitRow s = some j) (grant : s.planner.grantRow = some g)
    (hr : s.store.active[j]? = some r) (hb : s.store.active[min j g]? = some b) (away : j ≠ 0)
    (falls : b.high < s.planner.ceiling) :
    WaitsOrLost (.grant s.outlet.dest.address s.planner.lastTag b.high .held) s (commitRun s) ∧
      grantsPaid (commitRun s) = true := by
  have ran := ran_commitRun run chosen grant hr hb away
  obtain ⟨waits, paid⟩ := boundGrant_sends (j := j) falls
  refine ⟨waits.later (fun hf => ran.outlet ▸ hf) (congrArg BitVec.toNat ran.loss).ge, ?_⟩
  rw [grantsPaid, ran.outlet]
  exact paid

/-- With every value in force already the plan completes at once (R106). -/
theorem commitRun_empty (run : s.line.state = .run) (chosen : commitRow s = some j) (grant : s.planner.grantRow = some g)
    (hr : s.store.active[j]? = some r) (hb : s.store.active[min j g]? = some b) (empty : adjustSteps s j r = []) :
    commitRun s = completePlan (commitPlan s j r b.high) (commitBuilt s j r b.high) := by
  rw [commitRun_tests run chosen grant hr hb]
  exact testHead_empty rfl empty

/-- Toward row 0 with every value in force already the line returns to READY (R85). -/
theorem commitRun_home (run : s.line.state = .run) (chosen : commitRow s = some 0) (grant : s.planner.grantRow = some g)
    (hr : s.store.active[0]? = some r) (hb : s.store.active[min 0 g]? = some b) (empty : adjustSteps s 0 r = [])
    (alone : s.stack = []) :
    (commitRun s).line.state = .ready ∧ (commitRun s).planner.plan = none ∧ (commitRun s).planner.grantRow = some 0 ∧
      (commitRun s).planner.ceiling = s.params.crawlSpeed ∧ (commitRun s).planner.target = 0 := by
  let u := (commitBuilt s 0 r b.high).withPlan none
  have completes : commitRun s = readyFromRun u := by
    rw [commitRun_empty run chosen grant hr hb empty, completePlan]
    refine if_pos ⟨?_, rfl, nofun⟩
    exact (congrArg Line.state (commitBuilt_line s 0 r b.high)).trans run
  have stack : u.stack = [] := (boundGrant_rest 0 b.high s).2.trans alone
  have params : u.params = s.params := (steady_boundGrant 0 b.high s).sameTables.params
  obtain ⟨line, planner⟩ := readyFromRun_leaves stack rfl
  rw [completes, planner, params]
  exact ⟨line, rfl, rfl, rfl, rfl⟩

end inRun

/-! ### COMMIT (R64) -/

/-- A COMMIT that finds the shadow copy bad is refused with the row and the reason (R64). -/
theorem commit_refused {src dst tag : Byte} {s : State} {k : Nat} {f : TableFault}
    (write : TakenWrite (.commit src dst tag []) s) (bad : commitFault s = some (k, f))
    (room : s.outlet.queue.length < Config.insertCapacity) :
    StoreAnswered (.commit src dst tag []) [4, BitVec.ofNat 8 k, BitVec.ofNat 8 f.code] s.store.withdrawn s := by
  obtain ⟨_, ⟨⟩, taken, admits⟩ := write
  refine storeAnswered_of_body rfl taken admits room ?_ (withdrawn_tables _).1
    (fun pending => absurd pending (withdrawn_status _)) rfl
  show commitBody (arrived s) = _
  rw [commitBody, show commitFault (arrived s) = some (k, f) from bad]
  rfl

/-- A COMMIT accepted away from a safe point pends (R64, R66). -/
theorem commit_pends {src dst tag : Byte} {s : State} (write : TakenWrite (.commit src dst tag []) s)
    (accepted : commitFault s = none) (notSafe : s.safePoint = false) :
    ∃ t, Carries (.commit src dst tag []) [1, 0, 0] s t ∧ OnlyChanges [.link, .outlet, .agent, .sat, .store] s t ∧
      t.store = { s.store with status := .pending } := by
  obtain ⟨_, ⟨⟩, taken, admits⟩ := write
  let x : Store := { s.store with status := .pending }
  have body : commitBody (arrived s) = { state := (arrived s).withStore x, data := [1, 0, 0] } := by
    rw [commitBody, show commitFault (arrived s) = none from accepted]
    rfl
  have closed : Closed ((arrived s).withStore x) :=
    closed_withStore (atRest_arrived taken.rest) rfl fun _ => notSafe
  obtain ⟨t, carries, judged, beside⟩ :=
    exec_carried_closed (c := .commit src dst tag []) rfl taken admits body closed rfl le_rfl rfl
  exact ⟨t, carries,
    (((onlyChanges_arrived s).trans (onlyChanges_withStore _ x)).trans beside).mono (by simp), judged.store⟩

/-- The part as its line state finds the commit, the shadow copy in the active one. -/
def committing (s : State) : State := (arrived s).withStore s.store.committed

/-- The row that a commit in RUN reconciles with, in the statement's words (R69). -/
theorem commitRow_committing {s : State} {j : Nat}
    (usable : ∀ v, s.usableSpeed = some v → rowForSpeed s.store.shadow s.planner.target v = some j)
    (unusable : s.usableSpeed = none → j = min s.planner.target (s.store.shadow.length - 1)) :
    commitRow (committing s) = some j := by
  unfold commitRow
  rw [show (committing s).usableSpeed = s.usableSpeed from rfl]
  cases speed : s.usableSpeed with
  | some v => exact usable v speed
  | none => exact congrArg some (unusable speed).symm

/-- Settles O30, by what the COMMIT finds, and at a safe point by the line state. -/
theorem commitAcceptsOrRefuses : Obligations.CommitAcceptsOrRefuses := by
  intro src dst tag s c left write
  refine ⟨fun k f bad room => ?_, commit_pends write, fun accepted safe => ?_⟩
  · obtain ⟨o, t, ho, done, answered, only, _, store⟩ := commit_refused write bad room
    exact ⟨t, ⟨o, ho, done, answered.link, .inl answered.sends⟩, only, store.trans (withdrawn_eq s.store)⟩
  obtain ⟨t, carries, ends⟩ := exec_commit_due write accepted safe
  let u := (arrived s).withStore { s.store with status := .pending }
  have tables : SameTables (committing s) t := (steady_carryOut u).sameTables.trans ends.tables
  have planner : t.planner = (carryOut u).planner := ends.calm.planner
  have line : t.line = (carryOut u).line := ends.calm.line
  refine ⟨t, carries, tables.store, tables.params, fun idle => ?_, fun r rs ready shadow => ?_, ?_⟩
  · have carried : carryOut u = committing s := carryOut_idle (s := u) idle
    rw [carried] at ends
    obtain ⟨_, ⟨⟩, taken, _⟩ := write
    obtain ⟨drives, _, _, _, grants⟩ := atRest_iff.mp taken.rest
    exact (((onlyChanges_arrived s).trans (onlyChanges_withStore _ _)).trans
      (ends.idle ((drivesFollow_withStore _ _).trans ((sameJudged_arrived s).drives.trans drives)) grants)).mono (by simp)
  · have carried : carryOut u = commitReady r (committing s) := carryOut_ready (s := u) ready shadow
    obtain ⟨inForce, flushed, stays⟩ := commitReady_leaves r (committing s)
    rw [planner, ends.calm.transit, line, carried, inForce, stays]
    exact ⟨rfl, flushed, rfl, rfl, rfl, ready⟩
  · intro j g r b run usable unusable grant hr hb
    have carried : carryOut u = commitRun (committing s) := carryOut_run (s := u) run
    have chosen := commitRow_committing usable unusable
    have steps : adjustSteps (committing s) j r = adjustSteps s j r := adjustSteps_congr rfl rfl rfl rfl j r
    have built := commitBuilt_planner (s := committing s) (j := j) r b.high grant
    refine ⟨fun away => ?_, fun home empty => ?_⟩
    · have ran := ran_commitRun (s := committing s) run chosen grant hr hb away
      rw [planner, line, carried, ran.line, ran.target, ran.grantRow, ran.ceiling, built, commitBuilt_line, ← steps]
      refine ⟨run, rfl, rfl, rfl, fun falls => ?_, fun empty => ?_, fun p plan => ?_⟩
      · obtain ⟨waits, paid⟩ := commitRun_sends (s := committing s) run chosen grant hr hb away falls
        rw [carried] at ends
        exact ends.sends _ rfl paid waits
      · rw [commitRun_empty (s := committing s) run chosen grant hr hb empty, completePlan_away away]
        have inForce : (commitBuilt (committing s) j r b.high).planner.inForce = s.planner.inForce := by rw [built]; rfl
        exact ⟨rfl, inForce⟩
      · have alike := ran.plan p plan
        exact ⟨alike.origin, alike.ordering, alike.request, alike.target, alike.shapes⟩
    · subst home
      have safeStack : s.stack = [] := by
        simp only [State.safePoint, Bool.and_eq_true, List.isEmpty_iff] at safe
        exact safe.2
      rw [planner, line, carried]
      exact commitRun_home (s := committing s) run chosen grant hr hb (steps.trans empty) safeStack

end Sys2Proof.Machine

/-!
SUPPORT. The shared operations keep what follows the line state: one lemma per operation of the line controller, the planner, the
context stack and the supervisor.
-/

namespace Sys2Proof.Machine

-- One proof after the other: side by side with the text above, their threads need more memory than the check allows.
set_option Elab.async false

/-- What follows the line state goes on following it. -/
def KeepsLine (s t : State) : Prop := LineSound s → LineSound t

theorem KeepsLine.refl (s : State) : KeepsLine s s := id

theorem KeepsLine.trans {s t u : State} (h : KeepsLine s t) (k : KeepsLine t u) : KeepsLine s u := fun sound => k (h sound)

theorem KeepsLine.ite {s t u : State} {c : Prop} [Decidable c] (h : KeepsLine s t) (k : KeepsLine s u) :
    KeepsLine s (if c then t else u) := by split <;> assumption

/-! ### Updates -/

/-- A change of none of the four blocks that the line state is followed in. -/
theorem keepsLine_of_same {s t : State} (line : t.line = s.line := by rfl) (planner : t.planner = s.planner := by rfl)
    (stack : t.stack = s.stack := by rfl) (supervisor : t.supervisor = s.supervisor := by rfl) : KeepsLine s t := fun h =>
  { permit := by rw [line, supervisor]; exact h.permit
    grant := by rw [line, planner]; exact h.grant
    ceiling := by rw [line, planner]; exact h.ceiling
    plan := by rw [line, planner]; exact h.plan
    purge := by rw [line]; exact h.purge
    settle := by rw [line]; exact h.settle
    cooldown := by rw [line]; exact h.cooldown
    stack := by rw [line, stack]; exact h.stack }

theorem Calm.keepsLine {s t : State} (h : Calm s t) : KeepsLine s t :=
  keepsLine_of_same h.line h.planner h.stack h.supervisor

theorem SameJudged.keepsLine {s t : State} (h : SameJudged s t) : KeepsLine s t :=
  keepsLine_of_same h.line h.planner h.stack h.supervisor

/-- The supervision record with the permit as it is. -/
theorem keepsLine_withSupervisor {s : State} {x : Supervisor} (permit : x.permit = s.supervisor.permit := by rfl) :
    KeepsLine s (s.withSupervisor x) := fun h => { h with permit := permit.trans h.permit }

/-- The line record with the line state and its timers as they are. -/
theorem keepsLine_withLine {s : State} {x : Line} (state : x.state = s.line.state := by rfl)
    (purge : x.purge = s.line.purge := by rfl) (settle : x.settle = s.line.settle := by rfl)
    (cooldown : x.cooldown = s.line.cooldown := by rfl) : KeepsLine s (s.withLine x) := fun h =>
  { permit := state ▸ h.permit
    grant := state ▸ h.grant
    ceiling := fun k => h.ceiling (state ▸ k)
    plan := fun k => state.trans (h.plan k)
    purge := fun k => state.trans (h.purge (purge ▸ k))
    settle := fun k => state.trans (h.settle (settle ▸ k))
    cooldown := fun k => state.trans (h.cooldown (cooldown ▸ k))
    stack := fun k => by rw [State.withLine_line, state]; exact h.stack k }

/-- The planner with the grant as it is, and no plan where none stood. -/
theorem keepsLine_withPlanner {s : State} {x : Planner} (plan : x.plan.isSome = true → s.planner.plan.isSome = true := by exact id)
    (grantRow : x.grantRow = s.planner.grantRow := by rfl) (ceiling : x.ceiling = s.planner.ceiling := by rfl) :
    KeepsLine s (s.withPlanner x) := fun h =>
  { h with
    grant := grantRow ▸ h.grant
    ceiling := fun k => ceiling.trans (h.ceiling k)
    plan := fun k => h.plan (plan k) }

/-- The plan replaced by another, or removed. -/
theorem keepsLine_withPlan {s : State} {p : Option Plan} (plan : p.isSome = true → s.planner.plan.isSome = true) :
    KeepsLine s (s.withPlan p) := keepsLine_withPlanner plan

/-- In READY and RUN the ceiling is free. -/
theorem keepsLine_withCeiling {s : State} (c : Int) (hg : s.line.state.granted = true) :
    KeepsLine s (s.withPlanner { s.planner with ceiling := c }) := fun h =>
  { h with ceiling := fun k => by cases hg.symm.trans k }

/-- In READY and RUN the grant row moves from row to row, and the ceiling is free. -/
theorem keepsLine_withGrant {s : State} {x : Planner} (hg : s.line.state.granted = true)
    (row : x.grantRow.isSome = true := by rfl) (plan : x.plan = s.planner.plan := by rfl) :
    KeepsLine s (s.withPlanner x) := fun h =>
  { h with
    grant := row.trans hg.symm
    ceiling := fun k => by cases hg.symm.trans k
    plan := fun k => h.plan (plan ▸ k) }

/-- A stack that is empty where the one before was. -/
theorem keepsLine_withStack {s : State} {l : List Context} (stack : l ≠ [] → s.stack ≠ []) : KeepsLine s (s.withStack l) :=
  fun h => { h with stack := fun k => h.stack (stack k) }

theorem keepsLine_forZones (f : Zone → State → State) (hf : ∀ z s, KeepsLine s (f z s)) (s : State) :
    KeepsLine s (forZones f s) := ((hf _ _).trans (hf _ _)).trans ((hf _ _).trans (hf _ _))

/-! ### What the line state says of the other blocks -/

/-- No context stands outside READY, RUN and BREAK (R152, R165). -/
theorem LineSound.noStack {s : State} (h : LineSound s) (granted : s.line.state.granted = false)
    (brk : s.line.state ≠ .brk) : s.stack = [] :=
  by_contra fun some => (h.stack some).elim (fun k => by cases granted.symm.trans k) brk

theorem LineSound.run {s : State} {p : Plan} (h : LineSound s) (plan : s.planner.plan = some p) : s.line.state = .run :=
  h.plan (by rw [plan]; rfl)

theorem granted_of_run {l : LineState} (h : l = .run) : l.granted = true := by rw [h]; rfl

theorem granted_of_ready {l : LineState} (h : l = .ready) : l.granted = true := by rw [h]; rfl

/-! ### Requests to the planner, trips and pushes -/

theorem keepsLine_raiseFault (e : FaultCode) (s : State) : KeepsLine s (raiseFault e s) := (calm_raiseFault e s).keepsLine

theorem keepsLine_sendGrant (st : GrantStatus) (tag : Byte) (s : State) : KeepsLine s (sendGrant st tag s) :=
  (calm_sendGrant st tag s).keepsLine

theorem keepsLine_sendUnasked (st : GrantStatus) (s : State) : KeepsLine s (sendUnasked st s) :=
  keepsLine_sendGrant st _ s

theorem keepsLine_countKindMismatch (s : State) : KeepsLine s (countKindMismatch s) := keepsLine_of_same

theorem keepsLine_discardPlan (s : State) : KeepsLine s (discardPlan s) := keepsLine_withPlan nofun

theorem keepsLine_setOverspeed (b : Bool) (s : State) : KeepsLine s (setOverspeed b s) := keepsLine_withPlanner

theorem keepsLine_setTarget (j : Nat) (s : State) : KeepsLine s (setTarget j s) := keepsLine_withPlanner

theorem keepsLine_push (c : Cause) (s : State) : KeepsLine s (push c s) := lineSound_push c

theorem keepsLine_trip (e : FaultCode) (s : State) : KeepsLine s (trip e s) :=
  (keepsLine_raiseFault e s).trans lineSound_tripLine

theorem keepsLine_sensorTested (b : Bool) (s : State) : KeepsLine s (sensorTested b s) := (keepsLine_trip _ s).ite (.refl s)

theorem keepsLine_lelWarning (s : State) : KeepsLine s (lelWarning s) :=
  (KeepsLine.trans keepsLine_withSupervisor (keepsLine_raiseFault _ _)).trans (keepsLine_push _ _)

theorem keepsLine_masterAtReady (s : State) : KeepsLine s (masterAtReady s) := (keepsLine_push _ s).ite (.refl s)

theorem keepsLine_speedLost (s : State) : KeepsLine s (speedLost s) := (keepsLine_raiseFault _ s).trans (keepsLine_push _ _)

/-! ### State entries -/

/-- An entry into READY or RUN that gives the grant itself (R83, R85). -/
theorem lineSound_enterLine_granting {l : LineState} {s : State} (hl : l.granted = true)
    (hp : s.planner.plan.isSome = true → l = .run) (c : Int) (g : Nat) :
    LineSound ((enterLine l s).withPlanner { (enterLine l s).planner with ceiling := c, grantRow := some g }) := by
  have state : (enterLine l s).line.state = l := by rw [enterLine_line]
  have plan : (enterLine l s).planner.plan = s.planner.plan := by rw [enterLine_planner, if_pos hl]
  refine ⟨?_, ?_, ?_, ?_, ?_, ?_, ?_, fun _ => .inl ?_⟩ <;>
    simp only [State.withPlanner_line, State.withPlanner_planner, State.withPlanner_supervisor, state]
  · rw [enterLine_supervisor]
    exact entered_permit l _
  · exact hl.symm
  · exact fun k => by cases hl.symm.trans k
  · rwa [plan]
  · rw [enterLine_line]; nofun
  · rw [enterLine_line]; nofun
  · rw [enterLine_line]; nofun
  · exact hl

/-- The entry into HEATUP, where no plan and no context stands (R81). -/
theorem lineSound_enterHeatup {s : State} (plan : s.planner.plan = none) (stack : s.stack = []) : LineSound (enterHeatup s) := by
  rw [enterHeatup_eq]
  refine keepsLine_sensorTested _ _ (lineSound_enterLine _ _ (fun k => ?_) (fun k => absurd stack k) nofun)
  rw [show (heatupTargets s).planner.plan = s.planner.plan from rfl, plan] at k
  cases k

/-- The entry into READY at the settle timer's expiry, where no plan stands (R83). -/
theorem lineSound_readyFromHeatup {s : State} (plan : s.planner.plan = none) : LineSound (readyFromHeatup s) :=
  (keepsLine_sendUnasked _ _).trans (((keepsLine_lelWarning _).ite (.refl _)).trans (keepsLine_masterAtReady _))
    (lineSound_enterLine_granting rfl (by rw [plan]; nofun) _ _)

/-- The return to READY, once the plan is gone (R85). -/
theorem lineSound_readyFromRun {s : State} (plan : s.planner.plan = none) : LineSound (readyFromRun s) :=
  (keepsLine_sendUnasked _ _).trans (keepsLine_masterAtReady _)
    (lineSound_enterLine_granting rfl (by rw [plan]; nofun) _ _)

/-- The entry into RUN, with a plan or without (R84). -/
theorem lineSound_enterRun {s : State} (row : s.planner.grantRow.isSome = true) : LineSound (enterRun s) :=
  ((keepsLine_speedLost _).ite (.refl _)).trans ((keepsLine_push _ _).ite (.refl _))
    (lineSound_enterLine .run s (fun _ => rfl) (fun _ => .inl rfl) fun _ => row)

/-- The break entry discards the plan and keeps the contexts (R90). -/
theorem keepsLine_webBreak (s : State) : KeepsLine s (webBreak s) :=
  (keepsLine_raiseFault .webBreak s).trans
    (KeepsLine.ite (fun _ => lineSound_enterLine .brk _ nofun (fun _ => .inr rfl) nofun) (.refl _))

/-! ### Plans -/

theorem keepsLine_fireGrant {s : State} (hg : s.line.state.granted = true) (req : Option Request) (v : Int) (j : Nat) :
    KeepsLine s (fireGrant req v j s) := by
  cases req
  · exact (keepsLine_withGrant hg).trans (keepsLine_sendUnasked _ _)
  · exact (keepsLine_withGrant hg).trans (keepsLine_sendGrant _ _ _)

theorem keepsLine_appendTransit (c : Circuit) (v : Int) (j : Nat) (s : State) : KeepsLine s (appendTransit c v j s) := by
  have forced : KeepsLine s (forceHead s) := by
    unfold forceHead
    split
    · exact .refl s
    · rename_i e rest _
      have matured : KeepsLine s (mature e (s.withTransit rest)) :=
        KeepsLine.trans (t := s.withTransit rest) keepsLine_of_same (calm_setSetpoint _ _ _).keepsLine
      exact matured.trans keepsLine_of_same
  exact ((KeepsLine.refl s).ite forced).trans keepsLine_of_same

theorem keepsLine_stepEffect {s : State} (hg : s.line.state.granted = true) (req : Option Request) (k : StepKind) :
    KeepsLine s (stepEffect req k s) := by
  cases k
  case setExhaust | setFan => exact keepsLine_withPlanner
  case setZone => exact KeepsLine.trans keepsLine_withPlanner (calm_retargetZone _ _ _ _ _).keepsLine
  case queueChill => exact KeepsLine.trans keepsLine_withPlanner (keepsLine_appendTransit _ _ _ _)
  case grant => exact keepsLine_fireGrant hg _ _ _

/-- A plan stands in RUN, where its head's firing may move the grant (R84, R106). -/
theorem keepsLine_fireHead {p : Plan} {s : State} (plan : s.planner.plan = some p) (k : StepKind) :
    KeepsLine s (fireHead p k s) := fun h =>
  let u := s.withPlan (some (p.advanced (seconds s.params.readyTimeout)))
  have stored : KeepsLine s u := keepsLine_withPlan fun _ => by rw [plan]; rfl
  have granted : u.line.state.granted = true := granted_of_run (h.run plan)
  (stored.trans (keepsLine_stepEffect granted _ k)).trans (calm_followDrives _).keepsLine h

theorem keepsLine_completePlan (p : Plan) (s : State) : KeepsLine s (completePlan p s) :=
  (keepsLine_discardPlan s).trans (KeepsLine.ite (fun _ => lineSound_readyFromRun rfl) (.refl _))

theorem keepsLine_testHead (n : Nat) (s : State) : KeepsLine s (testHead n s) := by
  induction n generalizing s with
  | zero => exact .refl s
  | succ n ih =>
    unfold testHead
    split
    · exact .refl s
    rename_i p plan
    split
    · exact keepsLine_completePlan p s
    · refine (KeepsLine.refl s).ite (KeepsLine.ite ?_ ?_)
      · exact (keepsLine_fireHead plan _).trans (ih _)
      · exact keepsLine_withPlan fun _ => by rw [plan]; rfl

theorem keepsLine_runPlan (s : State) : KeepsLine s (runPlan s) := by
  unfold runPlan
  split
  · exact .refl s
  · exact keepsLine_testHead _ s

theorem keepsLine_fireWork (s : State) : KeepsLine s (fireWork s) := by
  unfold fireWork fireDue
  split
  · rename_i plan
    split
    · exact .refl s
    · exact (keepsLine_fireHead plan _).trans (keepsLine_testHead _ _)
  · exact .refl s

/-- A plan put in existence in READY moves the line to RUN before any step can fire (R84, R108). -/
theorem keepsLine_installPlan {s : State} (p : Plan) (hg : s.line.state.granted = true) : KeepsLine s (installPlan p s) := by
  intro h
  refine keepsLine_runPlan _ ?_
  split
  · exact lineSound_enterRun (h.grant.trans hg)
  · rename_i notReady
    have run : s.line.state = .run := by
      cases state : s.line.state <;> simp_all [LineState.granted]
    exact { h with plan := fun _ => run }

theorem keepsLine_stallPlan (p : Plan) (s : State) : KeepsLine s (stallPlan p s) := by
  have stalled : KeepsLine s (raiseFault .heatShortfall (s.withPlan none)) :=
    (keepsLine_discardPlan s).trans (keepsLine_raiseFault _ _)
  unfold stallPlan
  split
  · exact stalled.trans (keepsLine_sendGrant _ _ _)
  · exact stalled

theorem keepsLine_bandReportToPlan (s : State) : KeepsLine s (bandReportToPlan s) := by
  unfold bandReportToPlan
  split
  · exact .refl s
  split
  · exact keepsLine_runPlan s
  · exact .refl s

theorem keepsLine_speedReportToPlan (s : State) : KeepsLine s (speedReportToPlan s) := by
  unfold speedReportToPlan
  split
  · exact .refl s
  split
  · exact keepsLine_runPlan s
  · exact .refl s

theorem keepsLine_crossAbove {s : State} (hg : s.line.state.granted = true) (j : Nat) (r : Row) :
    KeepsLine s (crossAbove j r s) :=
  ((KeepsLine.refl s).ite ((keepsLine_raiseFault _ s).trans (keepsLine_setOverspeed _ _))).ite
    ((keepsLine_raiseFault _ s).trans (keepsLine_installPlan _ hg))

theorem keepsLine_crossingTest (s : State) : KeepsLine s (crossingTest s) := by
  unfold crossingTest
  split
  · rename_i crossing
    have hg : s.line.state.granted = true := by simp only [Bool.and_eq_true] at crossing; exact crossing.1.1
    split
    · exact .refl s
    split
    · split
      · exact .refl s
      · exact (keepsLine_installPlan _ hg).ite ((keepsLine_crossAbove hg _ _).ite (keepsLine_setOverspeed _ s))
    · exact .refl s
  · exact .refl s

/-! ### Clearance and restore -/

theorem setGrant_line (g : Nat) (c : Int) (s : State) : (setGrant g c s).line = s.line := by
  unfold setGrant
  dsimp only
  split
  · rfl
  · exact (calm_sendUnasked _ _).line

theorem keepsLine_setGrant {s : State} (g : Nat) (c : Int) (hg : s.line.state.granted = true) :
    KeepsLine s (setGrant g c s) :=
  KeepsLine.ite (keepsLine_withGrant hg) ((keepsLine_withGrant hg).trans (keepsLine_sendUnasked _ _))

theorem keepsLine_restorePlan {p : Plan} {s : State} (plan : s.planner.plan = some p) : KeepsLine s (restorePlan p s) :=
  have kept : KeepsLine s (s.withPlan (some (p.kept s))) := keepsLine_withPlan fun _ => by rw [plan]; rfl
  (kept.trans (keepsLine_runPlan _)).ite kept

theorem keepsLine_resumePlan {s : State} (req : Option Request) (j : Nat) (r : Row) (hg : s.line.state.granted = true) :
    KeepsLine s (resumePlan req j r s) := by
  have adjusted : KeepsLine s (resumeAdjust j r s) := (KeepsLine.refl s).ite (keepsLine_installPlan _ hg)
  cases req
  · exact adjusted
  · exact KeepsLine.ite (keepsLine_installPlan _ hg) adjusted

theorem keepsLine_restoreRest {s : State} (b : Context) (g : Nat) (hg : s.line.state.granted = true) :
    KeepsLine s (restoreRest b g s) := by
  unfold restoreRest
  split
  · rename_i plan
    exact keepsLine_restorePlan plan
  · unfold restoreDryer
    dsimp only
    split
    · exact (keepsLine_setTarget _ s).trans (keepsLine_resumePlan _ _ _ hg)
    · exact keepsLine_setTarget _ s

/-- A restore takes place where there is a grant (R75, R161). -/
theorem keepsLine_restore (b : Context) (s : State) : KeepsLine s (restore b s) := by
  intro h
  unfold restore
  split
  · exact h
  · rename_i g row
    have hg : s.line.state.granted = true := by rw [← h.grant, row]; rfl
    exact (keepsLine_setGrant _ _ hg).trans (keepsLine_restoreRest _ _ (by rwa [setGrant_line])) h

theorem keepsLine_popStack (s : State) : KeepsLine s (popStack s) := by
  unfold popStack
  split
  · exact (keepsLine_withStack fun k => absurd rfl k).trans (keepsLine_restore _ _)
  · rename_i l b _ popped
    refine keepsLine_withStack fun k empty => k ?_
    rw [empty] at popped
    exact (congrArg Prod.fst popped).symm

theorem keepsLine_clearCause (c : Cause) (s : State) : KeepsLine s (clearCause c s) :=
  KeepsLine.ite ((keepsLine_withStack fun k empty => k (by rw [empty]; rfl)).trans (keepsLine_popStack _)) (.refl s)

end Sys2Proof.Machine

/-!
SUPPORT. The blocks' answers to frames, expiries and orders keep what follows the line state, and so does what ends an event; and the
statement about every step.
-/

namespace Sys2Proof.Machine

-- One proof after the other: side by side with the text above, their threads need more memory than the check allows.
set_option Elab.async false

/-! ### The supervisor -/

theorem keepsLine_setFlags (z : Zone) (f : ZoneFlags) (s : State) : KeepsLine s (setFlags z f s) := keepsLine_withSupervisor

theorem keepsLine_judgeWarn (z : Zone) (s : State) : KeepsLine s (judgeWarn z s) :=
  (keepsLine_setFlags _ _ s).trans ((keepsLine_lelWarning _).ite (.refl _))

theorem keepsLine_judgeTrip (z : Zone) (s : State) : KeepsLine s (judgeTrip z s) :=
  (keepsLine_setFlags _ _ s).trans ((keepsLine_trip _ _).ite (.refl _))

theorem keepsLine_judgeHot (z : Zone) (s : State) : KeepsLine s (judgeHot z s) :=
  (keepsLine_setFlags _ _ s).trans ((keepsLine_trip _ _).ite (.refl _))

theorem keepsLine_ifPresent (f : Zone → State → State) (hf : ∀ z s, KeepsLine s (f z s)) (z : Zone) (s : State) :
    KeepsLine s (ifPresent f z s) := (hf z s).ite (.refl s)

theorem keepsLine_judgeZone (z : Zone) (s : State) : KeepsLine s (judgeZone z s) :=
  keepsLine_ifPresent _
    (fun _ _ => ((keepsLine_judgeWarn _ _).trans (keepsLine_judgeTrip _ _)).trans (keepsLine_judgeHot _ _)) z s

theorem keepsLine_clearRelief (s : State) : KeepsLine s (clearRelief s) :=
  KeepsLine.trans keepsLine_withSupervisor (keepsLine_clearCause _ _)

theorem keepsLine_setClearTimer (t : Timer) (s : State) : KeepsLine s (setClearTimer t s) := keepsLine_withSupervisor

theorem keepsLine_clearJudged (s : State) : KeepsLine s (clearJudged s) :=
  (KeepsLine.refl s).ite ((keepsLine_setClearTimer _ s).ite ((KeepsLine.refl s).ite
    ((keepsLine_clearRelief s).ite (keepsLine_setClearTimer _ s))))

theorem keepsLine_setGrace (z : Zone) (t : Timer) (s : State) : KeepsLine s (setGrace z t s) := keepsLine_withSupervisor

theorem keepsLine_superviseFlame (z : Zone) (b : Bool) (s : State) : KeepsLine s (superviseFlame z b s) :=
  ((keepsLine_setGrace z none s).trans ((KeepsLine.refl _).ite (keepsLine_trip _ _))).ite
    (((keepsLine_trip _ s).ite (keepsLine_setGrace z _ s)).ite (.refl s))

theorem keepsLine_superviseAirflow (z : Zone) (b : Bool) (s : State) : KeepsLine s (superviseAirflow z b s) :=
  (KeepsLine.refl s).ite ((keepsLine_trip _ s).ite ((keepsLine_raiseFault _ s).ite (.refl s)))

theorem keepsLine_superviseLevel (r : Role) (b : Bool) (s : State) : KeepsLine s (superviseLevel r b s) := by
  cases r
  case flame => exact keepsLine_superviseFlame _ b s
  case airflow => exact keepsLine_superviseAirflow _ b s
  all_goals exact .refl s

/-- A BEAT leaves the permit (R179). -/
theorem beat_permit (n : Nat) (q : Byte) (v : Supervisor) : (v.beat n q).1.permit = v.permit := by
  unfold Supervisor.beat
  repeat' split
  all_goals rfl

theorem keepsLine_superviseBeat (q : Byte) (s : State) : KeepsLine s (superviseBeat q s) := by
  have beaten : KeepsLine s (s.withSupervisor (s.supervisor.beat s.params.supervisionCount q).1) :=
    keepsLine_withSupervisor (beat_permit _ _ _)
  exact beaten.trans ((KeepsLine.ite keepsLine_of_same (.refl _)).trans
    (KeepsLine.ite (KeepsLine.trans keepsLine_withSupervisor (keepsLine_clearCause _ _)) (.refl _)))

theorem keepsLine_masterRunOut (s : State) : KeepsLine s (masterRunOut s) :=
  KeepsLine.trans (t := s.withSupervisor { s.supervisor with advanceRun := 0, lost := true }) keepsLine_withSupervisor
    ((KeepsLine.refl _).ite ((keepsLine_raiseFault _ _).trans (keepsLine_push _ _)))

theorem keepsLine_superviseInterval (s : State) : KeepsLine s (superviseInterval s) := by
  unfold superviseInterval
  split
  · exact KeepsLine.trans keepsLine_withSupervisor ((keepsLine_masterRunOut _).ite (.refl _))
  · exact .refl s

theorem keepsLine_superviseReading (z : Zone) (q : Nat) (s : State) : KeepsLine s (superviseReading z q s) := by
  unfold superviseReading
  split
  · exact keepsLine_judgeZone z s
  · exact .refl s
  · exact (keepsLine_sensorTested _ s).ite (.refl s)

/-! ### Readings and levels -/

theorem keepsLine_trackerReport (r : TrackerReport) (s : State) : KeepsLine s (trackerReport r s) := by
  have reported : KeepsLine s (speedReport s) := (keepsLine_crossingTest s).trans (keepsLine_speedReportToPlan _)
  cases r
  case quiet => exact .refl s
  case taken => exact reported
  case locked => exact reported.trans (keepsLine_clearCause _ _)
  case lost => exact (keepsLine_speedLost s).ite (.refl s)

theorem keepsLine_trackerStep (r : Tracker × TrackerReport) (s : State) : KeepsLine s (trackerStep r s) :=
  KeepsLine.trans (t := s.withTracker r.1) keepsLine_of_same (keepsLine_trackerReport _ _)

theorem keepsLine_advanceTransit (n : Nat) (s : State) : KeepsLine s (advanceTransit n s) :=
  KeepsLine.trans (t := s.withTransit _) keepsLine_of_same (calm_matureAll _ _).keepsLine

theorem keepsLine_positionReading (n q : Nat) (s : State) : KeepsLine s (positionReading n q s) := by
  have stored : KeepsLine s (s.withTracker { s.tracker with lastPosition := some n }) := keepsLine_of_same
  refine (KeepsLine.refl s).ite ?_
  dsimp only
  split
  · exact stored
  · refine stored.trans ?_
    unfold positionFrom
    split
    · exact .refl _
    · exact keepsLine_advanceTransit _ _
    · exact keepsLine_of_same

theorem keepsLine_routeReading (ch : Nat) (v : Half) (q : Nat) (s : State) : KeepsLine s (routeReading ch v q s) := by
  have counted : ∀ g v, KeepsLine s (countRange g v q s) := fun g v => (keepsLine_countKindMismatch s).ite (.refl s)
  have stored : ∀ {u : State} {z : Zone} {r : ZoneRec}, KeepsLine u (u.withZone z r) := keepsLine_of_same
  unfold routeReading
  split
  · exact .refl s
  · exact .refl s
  · exact (counted _ _).trans (stored.trans (keepsLine_superviseReading _ _ _))
  · exact ((counted _ _).trans (stored.trans (keepsLine_superviseReading _ _ _))).trans
      ((keepsLine_clearJudged _).ite (.refl _))
  · exact (counted _ _).trans keepsLine_of_same
  · exact ((keepsLine_countKindMismatch s).ite (.refl s)).trans (keepsLine_trackerStep _ _)
  · exact keepsLine_positionReading _ _ s
  · exact keepsLine_countKindMismatch s

theorem keepsLine_purgeTested (s : State) : KeepsLine s (purgeTested s) := by
  unfold purgeTested
  split
  · rename_i purge
    exact fun h => { h with purge := fun _ => purge }
  · exact .refl s

theorem keepsLine_reportTransition (r : Role) (b : Bool) (s : State) : KeepsLine s (reportTransition r b s) := by
  cases r
  case flame z => exact (keepsLine_superviseFlame z b s).trans (KeepsLine.ite keepsLine_of_same (.refl _))
  case airflow z => exact (keepsLine_superviseAirflow z b s).trans (keepsLine_purgeTested _)
  case brk => exact (keepsLine_webBreak s).ite (.refl s)
  all_goals exact .refl s

theorem keepsLine_changeLevel (ch : Nat) (e : Entry) (old new : LevelRec) (s : State) :
    KeepsLine s (changeLevel ch e old new s) := by
  refine KeepsLine.trans (t := s.withEntry ch { e with level := some new }) keepsLine_of_same ?_
  unfold changeLevel
  dsimp only
  split
  · exact (keepsLine_reportTransition _ _ _).trans (calm_insertAll _ _).keepsLine
  · exact .refl _

theorem keepsLine_routeLevel (ch : Nat) (b : Bool) (s : State) : KeepsLine s (routeLevel ch b s) := by
  unfold routeLevel levelHanded
  split
  · exact .refl s
  split
  · exact .refl s
  · split
    · exact keepsLine_changeLevel _ _ _ _ s
    · exact .refl s
  all_goals exact keepsLine_countKindMismatch s

/-! ### Frames -/

theorem keepsLine_takeMode (m : PressMode) (s : State) : KeepsLine s (takeMode m s) :=
  (KeepsLine.refl s).ite (KeepsLine.trans (t := s.withLine { s.line with mode := m }) keepsLine_withLine
    ((keepsLine_push _ _).ite ((keepsLine_clearCause _ _).ite (.refl _))))

theorem keepsLine_copyBeat (a : Addr) (q x : Byte) (s : State) : KeepsLine s (copyBeat a q x s) := by
  have dest : KeepsLine s (destFromBeat a s) := by
    unfold destFromBeat
    split
    · exact .refl s
    · exact keepsLine_of_same
    · exact keepsLine_of_same
  have supervised := dest.trans (keepsLine_superviseBeat q _)
  unfold copyBeat
  split
  · exact supervised.trans (keepsLine_takeMode _ _)
  · exact supervised.trans (keepsLine_countKindMismatch _)

theorem keepsLine_copyFrame (o : List Byte) (s : State) : KeepsLine s (copyFrame o s) := by
  unfold copyFrame
  dsimp only
  split
  · exact keepsLine_copyBeat _ _ _ s
  · exact (keepsLine_routeReading _ _ _ s).ite (keepsLine_countKindMismatch s)
  · exact (keepsLine_routeLevel _ _ s).ite (keepsLine_countKindMismatch s)
  all_goals exact .refl s

theorem keepsLine_forwardFrame (o : List Byte) (s : State) : KeepsLine s (forwardFrame o s) := by
  have joined : ∀ f u, KeepsLine u (joinThrough f u) := fun f u => (sameJudged_joinThrough f u).keepsLine
  unfold forwardFrame joinDemand
  dsimp only
  refine KeepsLine.ite ?_ (joined _ s)
  split
  · exact joined _ s
  · exact (KeepsLine.trans keepsLine_of_same (joined _ (s.withEntry _ _))).ite (joined _ s)

theorem keepsLine_buildAsked {s : State} (hg : s.line.state.granted = true) (v : Int) (tag : Byte) (j : Nat) (r : Row) :
    KeepsLine s (buildAsked v tag j r s) := by
  have sent : ∀ st, (sendGrant st tag (discardPlan s)).line.state.granted = true := fun st => by
    rw [(calm_sendGrant st tag _).line]
    exact hg
  refine (keepsLine_discardPlan s).trans (KeepsLine.ite ?_ ?_)
  · exact (keepsLine_sendGrant _ _ _).trans (keepsLine_installPlan _ (sent _))
  · split
    · exact keepsLine_installPlan _ hg
    · exact (keepsLine_sendGrant _ _ _).trans (keepsLine_installPlan _ (sent _))

theorem keepsLine_answerAsk (v : Option Int) (tag : Byte) (s : State) : KeepsLine s (answerAsk v tag s) := by
  have sent : ∀ st, KeepsLine s (sendGrant st tag s) := fun st => keepsLine_sendGrant st tag s
  unfold answerAsk
  split
  · exact sent _
  rename_i granted
  have hg : s.line.state.granted = true := by simpa using granted
  refine (sent _).ite ?_
  split
  · exact sent _
  split
  · exact sent _
  refine (sent _).ite (KeepsLine.ite ?_ ?_)
  · exact (keepsLine_withPlan fun k => by rwa [Option.isSome_map] at k).trans (keepsLine_sendGrant _ _ _)
  · split
    · exact keepsLine_buildAsked hg _ _ _ _
    · exact sent _

theorem keepsLine_takeAsk (a : Addr) (tag : Byte) (v : Half) (s : State) : KeepsLine s (takeAsk a tag v s) := by
  have tagged : KeepsLine s (setLastTag tag (destFromAsk a s)) :=
    KeepsLine.trans (t := destFromAsk a s) keepsLine_of_same keepsLine_withPlanner
  exact tagged.trans
    (KeepsLine.ite (keepsLine_answerAsk _ _ _) ((keepsLine_countKindMismatch _).trans (keepsLine_answerAsk _ _ _)))

/-! ### The end of an event -/

theorem keepsLine_boundCeiling {s : State} (b : Int) (hg : s.line.state.granted = true) : KeepsLine s (boundCeiling b s) :=
  KeepsLine.ite ((keepsLine_withCeiling b hg).trans (keepsLine_sendUnasked _ _)) (.refl s)

theorem calm_zoneFromRow (r : Row) (z : Zone) (s : State) : Calm s (zoneFromRow r z s) := by
  unfold zoneFromRow
  split
  · exact calm_retargetZone _ _ _ _ s
  · exact .refl s

theorem keepsLine_commitReady {s : State} (r : Row) (hg : s.line.state.granted = true) : KeepsLine s (commitReady r s) := by
  let u := flushTransit (s.withPlanner { s.planner with inForce := s.planner.inForce.fromRow r })
  have flushed : KeepsLine s u :=
    KeepsLine.trans (t := s.withPlanner { s.planner with inForce := s.planner.inForce.fromRow r }) keepsLine_withPlanner
      keepsLine_of_same
  have loops : Calm u (forCircuits (fun c => setSetpoint c (r.chill.get c)) (forZones (zoneFromRow r) u)) :=
    (calm_forZones _ (calm_zoneFromRow r) u).trans (calm_forCircuits _ (fun c w => calm_setSetpoint c _ w) _)
  exact (flushed.trans loops.keepsLine).trans (keepsLine_boundCeiling _ (by rw [loops.line]; exact hg))

theorem keepsLine_commitRun {s : State} (hg : s.line.state.granted = true) : KeepsLine s (commitRun s) := by
  unfold commitRun
  split
  · exact .refl s
  rename_i j _
  have lowered : KeepsLine s (lowerGrantRow j s) := fun h =>
    { h with
      grant := by
        show (s.planner.grantRow.map (min j)).isSome = _
        rw [Option.isSome_map]
        exact h.grant }
  have bound : KeepsLine s (boundByGrantRow (lowerGrantRow j s)) ∧ (boundByGrantRow (lowerGrantRow j s)).line = s.line := by
    unfold boundByGrantRow
    split
    · exact ⟨lowered.trans (keepsLine_boundCeiling _ hg), (boundCeiling_rest _ _).1⟩
    · exact ⟨lowered, rfl⟩
  dsimp only
  split
  · exact bound.1
  · exact bound.1.trans (keepsLine_installPlan _ (by rw [bound.2]; exact hg))

theorem keepsLine_settleStore (s : State) : KeepsLine s (settleStore s) := by
  refine KeepsLine.ite (KeepsLine.trans (t := s.withStore s.store.committed) keepsLine_of_same ?_) (.refl s)
  unfold carryOut
  dsimp only
  split
  · rename_i ready
    split
    · exact keepsLine_commitReady _ (granted_of_ready ready)
    · exact .refl _
  · rename_i run
    exact keepsLine_commitRun (granted_of_run run)
  all_goals exact .refl _

theorem keepsLine_closeEvent (s : State) : KeepsLine s (closeEvent s) :=
  (keepsLine_settleStore s).trans
    (((calm_driveStage _).trans (calm_payGrants _)).trans (calm_sweepFaults _)).keepsLine

theorem keepsLine_arbitrate (s : State) : KeepsLine s (arbitrate s) := (sameJudged_arbitrate s).keepsLine

theorem keepsLine_finish (s : State) : KeepsLine s (finish s) := (keepsLine_closeEvent s).trans (keepsLine_arbitrate _)

/-! ### Orders -/

theorem keepsLine_writeMapBody (d : List Byte) (s : State) : KeepsLine s (writeMapBody d s).state := by
  have forgot : ∀ r u, KeepsLine u (forgetRole r u) := fun r u => by cases r <;> exact keepsLine_of_same
  have rederived : ∀ a b u, KeepsLine u (superviseRederived a b u) := fun a b u => by
    unfold superviseRederived
    split
    · split
      · exact keepsLine_superviseLevel _ _ u
      · exact .refl u
    · exact .refl u
  have taken : ∀ ch f e, KeepsLine s (writeMapTaken ch f e s) := fun ch f e =>
    KeepsLine.trans (t := s.withEntry ch (e.written f)) keepsLine_of_same
      ((((forgot _ _).trans (forgot _ _)).ite (rederived _ _ _)).trans (keepsLine_purgeTested _))
  fun_cases writeMapBody d s
  case case5 => exact taken _ _ _
  all_goals exact .refl s

theorem keepsLine_writeRowBody (d : List Byte) (s : State) : KeepsLine s (writeRowBody d s).state := by
  have written : ∀ l, KeepsLine s (writeShadow l s) := fun _ => keepsLine_of_same
  unfold writeRowBody
  split
  · exact .refl s
  dsimp only
  split
  · exact .refl s
  split
  · exact written _
  split
  · exact .refl s
  split
  · exact written _
  split
  · exact written _
  · exact .refl s

theorem keepsLine_paramEffect (id v : Nat) (s : State) : KeepsLine s (paramEffect id v s) := by
  have burner : ∀ z u, KeepsLine u (refreshBurner z u) := keepsLine_ifPresent _ fun _ _ => keepsLine_of_same
  have valve : ∀ c u, KeepsLine u (refreshValve c u) := fun c u => KeepsLine.ite keepsLine_of_same (.refl u)
  unfold paramEffect
  split
  · split
    · rename_i ready
      exact keepsLine_boundCeiling _ (granted_of_ready ready)
    · exact .refl s
  · exact (keepsLine_forZones _ burner s).ite (.refl s)
  · exact ((valve _ s).trans (valve _ _)).ite (.refl s)
  · exact keepsLine_forZones _ (keepsLine_ifPresent _ keepsLine_judgeWarn) s
  · exact keepsLine_forZones _ (keepsLine_ifPresent _ keepsLine_judgeTrip) s
  · exact keepsLine_forZones _ (keepsLine_ifPresent _ keepsLine_judgeHot) s
  · exact .refl s

theorem keepsLine_writeParamBody (d : List Byte) (s : State) : KeepsLine s (writeParamBody d s).state := by
  have taken : ∀ id v, KeepsLine s (writeParamTaken id v s) := fun id v => by
    have kept : KeepsLine s (keepMinFire id s) := KeepsLine.ite keepsLine_withLine (.refl s)
    have set : KeepsLine (keepMinFire id s) (setParams (s.params.set id v) (keepMinFire id s)) := keepsLine_of_same
    exact (KeepsLine.refl s).ite ((kept.trans set).trans (keepsLine_paramEffect _ _ _))
  unfold writeParamBody
  split
  · dsimp only
    split
    · exact .refl s
    split
    · exact .refl s
    split
    · exact .refl s
    · exact taken _ _
  · exact .refl s

/-- A START enters PURGE from a state without a plan or a context (R77, R78). -/
theorem keepsLine_startBody (s : State) : KeepsLine s (startBody s).state := by
  intro h
  unfold startBody
  split
  · rename_i idle
    split
    · exact h
    · have plan : s.planner.plan = none := noPlan_outside_run h (by rcases idle with k | k <;> rw [k] <;> nofun)
      have stack : s.stack = [] :=
        h.noStack (by rcases idle with k | k <;> rw [k] <;> rfl) (by rcases idle with k | k <;> rw [k] <;> nofun)
      have entered : LineSound (enterLine .purge (fixPresence s)) :=
        lineSound_enterLine _ _ (fun k => by cases (congrArg Option.isSome plan).symm.trans k) (fun k => absurd stack k) nofun
      have state : (enterLine .purge (fixPresence s)).line.state = .purge := by rw [enterLine_line]
      exact { entered with purge := fun _ => state }
  · exact h

/-- The entry into COLD from a state without a plan or a context (R88). -/
theorem lineSound_enterCold {s : State} (plan : s.planner.plan = none) (stack : s.stack = []) : LineSound (enterCold s) :=
  lineSound_enterLine _ _ (fun k => by cases (congrArg Option.isSome plan).symm.trans k) (fun k => absurd stack k) nofun

/-- STOP empties the stack and enters COOLDOWN from a state without a plan (R86, R87). -/
theorem keepsLine_stopBody (s : State) : KeepsLine s (stopBody s).state := by
  intro h
  unfold stopBody
  split
  · rename_i stops
    have plan : s.planner.plan = none := noPlan_outside_run h (by rintro run; rw [run] at stops; cases stops)
    let u := enterLine .cooldown (flushTransit (emptyStack s))
    have entered : LineSound u :=
      lineSound_enterLine _ _ (fun k => by cases (congrArg Option.isSome plan).symm.trans k) (fun k => absurd rfl k) nofun
    have timed : LineSound (u.withLine { u.line with cooldown := some Config.cooldownMs }) :=
      { entered with cooldown := fun _ => by rw [State.withLine_line, enterLine_line] }
    have planner : u.planner.plan = none := by rw [enterLine_planner]; exact plan
    have stack : u.stack = [] := enterLine_stack _ _
    exact KeepsLine.ite (fun _ => lineSound_enterCold planner stack) (.refl _) timed
  · exact h

theorem keepsLine_lineBody (d : List Byte) (s : State) : KeepsLine s (lineBody d s).state := by
  unfold lineBody
  split
  · exact keepsLine_startBody s
  · exact keepsLine_stopBody s
  · intro h
    unfold restartBody
    split
    · rename_i taken
      have plan : s.planner.plan = none := noPlan_outside_run h (by rw [taken.1]; nofun)
      exact lineSound_enterHeatup (s := emptyStack s) plan rfl
    · exact h
  · intro h
    unfold clearLockoutBody
    split
    · rename_i taken
      exact lineSound_enterCold (noPlan_outside_run h (by rw [taken.1]; nofun))
        (h.noStack (by rw [taken.1]; rfl) (by rw [taken.1]; nofun))
    · exact h
  · exact .refl s

theorem keepsLine_withoutData {body : State → Answer} {s : State} (hb : KeepsLine s (body s).state) (d : List Byte) :
    KeepsLine s (withoutData body d s).state := by
  unfold withoutData
  split
  · exact hb
  · exact .refl s

/-- Every order's body keeps what follows the line state. -/
theorem keepsLine_orderBody (code : Nat) (d : List Byte) (s : State) : KeepsLine s (orderBody code d s).state := by
  have read : ∀ {a : Answer}, a.state = s → KeepsLine s a.state := fun h => h ▸ .refl s
  unfold orderBody
  split
  · exact read (readPlain_state _ d s)
  · exact read (readZoneBody_state d s)
  · exact read (readChillBody_state d s)
  · exact read (readPlain_state _ d s)
  · exact read (readPlanBody_state d s)
  · exact read (readPlain_state _ d s)
  · exact read (readMapBody_state d s)
  · exact read (readRowBody_state d s)
  · exact read (readParamBody_state d s)
  · exact read (readPlain_state _ d s)
  · exact keepsLine_writeMapBody d s
  · exact keepsLine_writeRowBody d s
  · split
    · unfold commitBody
      split <;> exact keepsLine_of_same
    · exact .refl s
  · exact keepsLine_withoutData keepsLine_of_same d
  · exact keepsLine_writeParamBody d s
  · exact keepsLine_lineBody d s
  · unfold setHoldBody
    split <;> exact keepsLine_of_same
  · unfold setFaultEnableBody
    split <;> exact keepsLine_of_same
  · refine keepsLine_withoutData ?_ d
    unfold faultTakeBody
    split
    · exact .refl s
    · exact KeepsLine.trans keepsLine_of_same (calm_sweepFaults _).keepsLine
  · exact keepsLine_withoutData keepsLine_of_same d
  · refine keepsLine_withoutData ?_ d
    unfold softResetBody
    split <;> exact .refl s
  · exact read rfl

/-- What follows the line state does so in a part fresh from a reset. -/
theorem lineSound_fresh {s : State} (h : Fresh s) : LineSound s := by
  obtain ⟨state, _, purge, settle, cooldown, _⟩ := h.line
  obtain ⟨ceiling, row, _, plan, _⟩ := h.grant
  obtain ⟨_, stack, _⟩ := h.queues
  obtain ⟨_, _, _, _, _, _, _, permit⟩ := h.supervisor
  exact
    { permit := by rw [permit, state]; rfl
      grant := by rw [row, state]; rfl
      ceiling := fun _ => ceiling
      plan := fun k => by rw [plan] at k; cases k
      purge := fun k => by rw [purge] at k; cases k
      settle := fun k => by rw [settle] at k; cases k
      cooldown := fun k => by rw [cooldown] at k; cases k
      stack := fun k => absurd stack k }

theorem keepsLine_softResetEffect (s : State) : KeepsLine s (softResetEffect s) :=
  fun _ => lineSound_fresh (fresh_softResetEffect s)

theorem keepsLine_reply (a : Addr) (code tag : Byte) (d : List Byte) (s : State) : KeepsLine s (reply a code tag d s) :=
  (calm_insertFrame _ s).keepsLine.trans
    (((keepsLine_softResetEffect _).ite (.refl _)).ite (sameJudged_setSlot _ _).keepsLine)

theorem keepsLine_takeOrder (a : Addr) (code tag : Byte) (d : List Byte) (s : State) :
    KeepsLine s (takeOrder a code tag d s) := by
  have decided : KeepsLine s (decideOrder a code.toNat d s).state := by
    unfold decideOrder
    split
    · exact .refl s
    · exact keepsLine_orderBody _ d s
  unfold takeOrder
  split
  · exact (decided.trans (keepsLine_closeEvent _)).trans (keepsLine_reply _ _ _ _ _)
  · exact KeepsLine.trans (t := s.withSat _) keepsLine_of_same (keepsLine_closeEvent _)

/-! ### Expiries and the end of a transmission -/

theorem keepsLine_controlWork (s : State) : KeepsLine s (controlWork s) := by
  have loops : ∀ u, KeepsLine u (followDrives (forCircuits circuitPeriod (forZones zonePeriod u))) := fun u =>
    (((calm_forZones _ calm_zonePeriod u).trans (calm_forCircuits _ calm_circuitPeriod _)).trans
      (calm_followDrives _)).keepsLine
  have settled : ∀ u, KeepsLine u (settleJudged u) := fun u => by
    unfold settleJudged
    split
    · rename_i heatup
      exact fun h => { h with settle := fun _ => heatup }
    · exact .refl u
  have acting : KeepsLine s (s.withLine { s.line with control := some Config.controlMs, priorMinFire := none }) :=
    keepsLine_withLine
  exact acting.trans ((loops _).trans (((settled _).trans (keepsLine_bandReportToPlan _)).trans
    (((keepsLine_forZones _ keepsLine_judgeZone _).trans (keepsLine_clearJudged _)).trans (keepsLine_sensorTested _ _))))

/-- The purge timer's expiry enters HEATUP from a state without a plan or a context (R78, R79). -/
theorem keepsLine_purgeWork {s : State} (due : timerDue s.line.purge = true) : KeepsLine s (purgeWork s) := by
  intro h
  have purge : s.line.state = .purge := h.purge (by rw [eq_of_beq due]; rfl)
  unfold purgeWork
  split
  · exact lineSound_enterHeatup (noPlan_of_purge h due) (h.noStack (by rw [purge]; rfl) (by rw [purge]; nofun))
  · exact { h with purge := nofun }

/-- The cooldown timer's expiry enters COLD or runs the timer again, in COOLDOWN (R87). -/
theorem keepsLine_cooldownWork {s : State} (due : timerDue s.line.cooldown = true) : KeepsLine s (cooldownWork s) := by
  intro h
  have cooldown : s.line.state = .cooldown := h.cooldown (by rw [eq_of_beq due]; rfl)
  have plan : s.planner.plan = none := noPlan_outside_run h (by rw [cooldown]; nofun)
  have stack : s.stack = [] := h.noStack (by rw [cooldown]; rfl) (by rw [cooldown]; nofun)
  let u := s.withLine { s.line with cooldown := some Config.cooldownMs }
  have timed : LineSound u := { h with cooldown := fun _ => cooldown }
  exact KeepsLine.ite (fun _ => lineSound_enterCold (s := u) plan stack) (.refl _) timed

theorem keepsLine_expiryWork {c : Instr} {s : State} (due : runOut s c = true) : KeepsLine s (expiryWork c s) := by
  cases c
  case purgeTimerExpiry => exact keepsLine_purgeWork due
  case settleTimerExpiry =>
    have heatup : s.line.state = .heatup := eq_of_beq (Bool.and_eq_true_iff.mp due).2
    exact fun h => lineSound_readyFromHeatup (noPlan_outside_run h (by rw [heatup]; nofun))
  case cooldownTimerExpiry => exact keepsLine_cooldownWork due
  case ringSilenceExpiry => exact keepsLine_of_same (t := silenceWork s)
  case confirmTimerExpiry ch =>
    show KeepsLine s (confirmWork ch.toNat s)
    unfold confirmWork
    split
    · exact keepsLine_changeLevel _ _ _ _ s
    · exact .refl s
  case refreshTimerExpiry ch =>
    show KeepsLine s (refreshWork ch.toNat s)
    unfold refreshWork
    split
    · exact KeepsLine.trans (t := s.withEntry _ _) keepsLine_of_same (calm_insertFrame _ _).keepsLine
    · exact .refl s
  case ageTimer250 => exact keepsLine_of_same (t := s.withTracker s.tracker.at250)
  case ageTimer1000 => exact keepsLine_trackerStep _ s
  case controlPeriod => exact keepsLine_controlWork s
  case headTimerAfter | soakComplete | slowedDelayExpiry => exact keepsLine_fireWork s
  case readyTimeout =>
    show KeepsLine s (stallWork s)
    unfold stallWork
    split
    · exact keepsLine_stallPlan _ s
    · exact .refl s
  case ignitionTimerExpiry z => exact KeepsLine.trans (t := s.withZone z _) keepsLine_of_same (keepsLine_trip _ _)
  case clearTimerExpiry => exact keepsLine_clearRelief s
  case graceTimerExpiry z => exact (keepsLine_setGrace z none s).trans (keepsLine_trip _ _)
  case supervisionInterval => exact KeepsLine.trans keepsLine_withSupervisor (keepsLine_superviseInterval _)
  all_goals exact .refl s

theorem keepsLine_txDoneWork (s : State) : KeepsLine s (txDoneWork s) := by
  unfold txDoneWork
  split
  · exact .refl s
  · refine KeepsLine.trans (t := throughLeft (freePort s)) keepsLine_of_same ?_
    unfold correctDemand
    split
    · exact .refl _
    split
    · exact (KeepsLine.refl _).ite
        (KeepsLine.trans (t := (throughLeft (freePort s)).withEntry _ _) keepsLine_of_same (calm_insertFrame _ _).keepsLine)
    · exact .refl _
  · exact KeepsLine.trans (t := countWrap _ (freePort s)) keepsLine_of_same
      ((keepsLine_softResetEffect _).ite (.refl _))

/-! ### One step -/

theorem keepsLine_receive (o : List Byte) (s : State) : KeepsLine s (receive o s) := by
  have counted : ∀ u, KeepsLine u (countGood u) := fun _ => keepsLine_of_same
  have consumed : ∀ u, KeepsLine u (countConsumed u) := fun _ => keepsLine_of_same
  unfold receive
  split
  · split
    · unfold classify
      split
      · exact KeepsLine.trans (t := stripWork (countGood s)) keepsLine_of_same (keepsLine_finish _)
      · exact ((counted s).trans (consumed _)).trans ((keepsLine_takeAsk _ _ _ _).trans (keepsLine_finish _))
      · exact ((counted s).trans (consumed _)).trans ((keepsLine_takeOrder _ _ _ _ _).trans (keepsLine_arbitrate _))
      · exact (counted s).trans (((keepsLine_forwardFrame o _).trans (keepsLine_copyFrame o _)).trans (keepsLine_finish _))
    · refine KeepsLine.trans (t := checkErrorWork s) ?_ (keepsLine_finish _)
      exact KeepsLine.ite (KeepsLine.trans (t := s.withSat _) keepsLine_of_same (keepsLine_raiseFault _ _)) keepsLine_of_same
  · exact .refl s

theorem keepsLine_exec {c : Instr} {s t : State} (ht : exec c s = .next t) : KeepsLine s t := by
  obtain ⟨phase, own, control, interval⟩ | _ | _ | o | _ | due := exec_effect ht
  · exact fun _ => lineSound_fresh (fresh_powerOn phase own control interval _ _)
  · exact .refl s
  · exact keepsLine_of_same
  · exact keepsLine_receive o s
  · exact (keepsLine_txDoneWork s).trans (keepsLine_finish _)
  · exact (keepsLine_expiryWork due).trans (keepsLine_finish _)

/-- A millisecond stops and starts no timer, and no plan. -/
theorem keepsLine_tick (s : State) : KeepsLine s (tick s) := by
  have running : ∀ t, (timerTick t).isSome = t.isSome := fun _ => Option.isSome_map
  have tick : (tick s).line.purge = timerTick s.line.purge ∧ (tick s).line.settle = timerTick s.line.settle ∧
      (tick s).line.cooldown = timerTick s.line.cooldown ∧ (tick s).planner.plan = s.planner.plan.map Plan.tick :=
    ⟨rfl, rfl, rfl, rfl⟩
  obtain ⟨purge, settle, cooldown, plan⟩ := tick
  exact fun h =>
    { permit := h.permit
      grant := h.grant
      ceiling := h.ceiling
      plan := fun k => h.plan (by rwa [plan, Option.isSome_map] at k)
      purge := fun k => h.purge (by rwa [purge, running] at k)
      settle := fun k => h.settle (by rwa [settle, running] at k)
      cooldown := fun k => h.cooldown (by rwa [cooldown, running] at k)
      stack := h.stack }

/-- Settles O42: each operation keeps what follows the line state, and each entry makes it follow the new one. -/
theorem lineRecordsFollowTheState : Obligations.LineRecordsFollowTheState := by
  intro s t sound h
  unfold step at h
  split at h
  · cases h
    exact keepsLine_tick s sound
  · rename_i c rest _
    exact keepsLine_exec h (lineSound_withPending rest sound)

end Sys2Proof.Machine

/-!
SUPPORT. The line states: what a state entry leaves and gives the zones and circuits, what the end of an event outside READY and RUN
leaves, and a GRANT's way through it; and the statement about refused LINE commands.
-/

namespace Sys2Proof.Machine

-- One proof after the other: side by side with the text above, their threads need more memory than the check allows.
set_option Elab.async false

/-! ### Refused LINE commands (R76, R77, R86, R92, R94) -/

/-- A BREAK role is confirmed INACTIVE on every channel that has one (R92). -/
theorem breaksInactive_iff {s : State} :
    breaksInactive s = true ↔
      ∀ e ∈ s.channels, (∃ d, e.role = .brk d) → e.level.map LevelRec.confirmed = some .inactive := by
  unfold breaksInactive
  rw [List.all_eq_true]
  refine forall₂_congr fun e _ => ?_
  unfold Entry.breakInactive
  cases e.role <;> simp

/-- Settles O33, command by command: the body refuses and changes nothing. -/
theorem lineCommandsAreRefusedByState : Obligations.LineCommandsAreRefusedByState := by
  intro src dst tag s ok
  refine ⟨?_, ?_, ?_, ?_, ?_⟩
  · rintro ⟨alone, write⟩ notCold notCooldown
    have refused : startBody (arrived s) = linePlain .refusedState (arrived s) := if_neg (not_or.mpr ⟨notCold, notCooldown⟩)
    exact reports_of_body alone write rfl refused rfl
  · rintro ⟨alone, write⟩ state trip
    exact reports_start (f := .tripPresent) alone write state (by rw [startFault, if_pos trip])
  · rintro ⟨alone, write⟩ state
    have stays : (arrived s).line.state.stops = false := by
      show s.line.state.stops = false
      rcases state with h | h | h | h <;> rw [h] <;> rfl
    have refused : stopBody (arrived s) = linePlain .refusedState (arrived s) := if_neg (by simp [stays])
    exact reports_of_body alone write rfl refused rfl
  · rintro ⟨alone, write⟩ stands
    have refused : restartBody (arrived s) = linePlain .refusedState (arrived s) := by
      refine if_neg fun ⟨brk, inactive⟩ => ?_
      rcases stands with away | ⟨e, he, role, level⟩
      · exact away brk
      · exact level (breaksInactive_iff.mp inactive e he role)
    exact reports_of_body alone write rfl refused rfl
  · rintro ⟨alone, write⟩ stands
    have refused : clearLockoutBody (arrived s) = linePlain .refusedState (arrived s) := by
      refine if_neg fun ⟨lockout, absent⟩ => ?_
      rcases stands with away | present
      · exact away lockout
      · exact Bool.noConfusion (present.symm.trans absent)
    exact reports_of_body alone write rfl refused rfl

/-! ### What a state entry changes (R73) -/

theorem onlyChanges_withLine (s : State) (x : Line) : OnlyChanges [.line] s (s.withLine x) :=
  fun b hb => by cases b <;> simp_all [State.same]

theorem onlyChanges_withPlanner (s : State) (x : Planner) : OnlyChanges [.planner] s (s.withPlanner x) :=
  fun b hb => by cases b <;> simp_all [State.same]

theorem onlyChanges_withZones (s : State) (x : PerZone ZoneRec) : OnlyChanges [.zones] s (s.withZones x) :=
  fun b hb => by cases b <;> simp_all [State.same]

theorem onlyChanges_withCircuits (s : State) (x : PerCircuit CircuitRec) : OnlyChanges [.circuits] s (s.withCircuits x) :=
  fun b hb => by cases b <;> simp_all [State.same]

theorem onlyChanges_withStack (s : State) (x : List Context) : OnlyChanges [.stack] s (s.withStack x) :=
  fun b hb => by cases b <;> simp_all [State.same]

theorem onlyChanges_withSupervisor (s : State) (x : Supervisor) : OnlyChanges [.supervisor] s (s.withSupervisor x) :=
  fun b hb => by cases b <;> simp_all [State.same]

theorem onlyChanges_payGrants (s : State) : OnlyChanges [.outlet, .sat] s (payGrants s) :=
  ((onlyChanges_withOutlet s _).trans (onlyChanges_insertAll _ _)).mono (by simp)

theorem onlyChanges_sweepFaults (s : State) : OnlyChanges [.faults] s (sweepFaults s) := by
  obtain ⟨x, swept⟩ := sweepFaults_cases s
  rw [swept]
  exact onlyChanges_withFaults s x

theorem onlyChanges_sendUnasked (st : GrantStatus) (s : State) : OnlyChanges [.outlet, .sat] s (sendUnasked st s) :=
  ((onlyChanges_payGrants s).trans (onlyChanges_insertFrame _ _)).mono (by simp)

/-- What is done for each zone in turn changes what it changes for one. -/
theorem onlyChanges_forZones {l : List Block} {f : Zone → State → State} (hf : ∀ z s, OnlyChanges l s (f z s)) (s : State) :
    OnlyChanges l s (forZones f s) :=
  (((hf _ _).trans (hf _ _)).trans ((hf _ _).trans (hf _ _))).mono (by simp)

theorem onlyChanges_forCircuits {l : List Block} {f : Circuit → State → State} (hf : ∀ c s, OnlyChanges l s (f c s))
    (s : State) : OnlyChanges l s (forCircuits f s) := ((hf _ _).trans (hf _ _)).mono (by simp)

theorem onlyChanges_zoneEntry (z : Zone) (s : State) : OnlyChanges [.zones] s (zoneEntry z s) := by
  unfold zoneEntry
  split
  · exact onlyChanges_withZones s _
  · exact (onlyChanges_refl s).mono (by simp)

theorem onlyChanges_circuitEntry (c : Circuit) (s : State) : OnlyChanges [.circuits] s (circuitEntry c s) := by
  unfold circuitEntry
  split
  · exact onlyChanges_withCircuit s _ _
  · exact (onlyChanges_refl s).mono (by simp)

/-- The loops and the drive stage at a state entry. -/
def loopEntries (s : State) : State := followDrives (forCircuits circuitEntry (forZones zoneEntry s))

theorem onlyChanges_loopEntries (s : State) : OnlyChanges [.zones, .circuits, .channels] s (loopEntries s) :=
  ((onlyChanges_forZones onlyChanges_zoneEntry s).trans (onlyChanges_forCircuits onlyChanges_circuitEntry _)).trans
    (onlyChanges_withChannels _ _)

theorem onlyChanges_grantAtEntry (l : LineState) (s : State) : OnlyChanges [.planner, .outlet, .sat] s (grantAtEntry l s) := by
  unfold grantAtEntry
  split
  · exact (onlyChanges_refl s).mono (by simp)
  split
  · exact (onlyChanges_withPlanner s _).trans (onlyChanges_sendUnasked _ _)
  · exact (onlyChanges_withPlanner s _).mono (by simp)

/-- The part at a state entry, its grant withdrawn and its state and watches new, before the loops take the state up. -/
def stateEntered (l : LineState) (s : State) : State :=
  ((grantAtEntry l s).withLine { s.line with state := l, purge := none, settle := none, cooldown := none }).withSupervisor
    (s.supervisor.entered l)

theorem enterLine_eq (l : LineState) (s : State) : enterLine l s = loopEntries (stateEntered l s) := by
  obtain ⟨line, _, _, supervisor⟩ := grantAtEntry_rest l s
  unfold enterLine stateEntered
  dsimp only
  rw [line, State.withLine_supervisor, supervisor]
  rfl

theorem onlyChanges_stateEntered (l : LineState) (s : State) :
    OnlyChanges [.planner, .outlet, .sat, .line, .supervisor] s (stateEntered l s) :=
  ((onlyChanges_grantAtEntry l s).trans (onlyChanges_withLine _ _)).trans (onlyChanges_withSupervisor _ _)

theorem onlyChanges_enterLine (l : LineState) (s : State) :
    OnlyChanges [.planner, .outlet, .sat, .line, .supervisor, .zones, .circuits, .channels] s (enterLine l s) := by
  rw [enterLine_eq]
  exact (onlyChanges_stateEntered l s).trans (onlyChanges_loopEntries _)

/-- The frames a state entry leaves waiting are those that the grant's withdrawal leaves. -/
theorem enterLine_outlet (l : LineState) (s : State) : (enterLine l s).outlet = (grantAtEntry l s).outlet := by
  rw [enterLine_eq]
  exact onlyChanges_loopEntries _ .outlet (by simp)

theorem enterLine_sat (l : LineState) (s : State) : (enterLine l s).sat = (grantAtEntry l s).sat := by
  rw [enterLine_eq]
  exact onlyChanges_loopEntries _ .sat (by simp)

/-! ### What a state entry gives the zones and circuits (R131, R135, R141) -/

theorem zone_forZones_zoneEntry (s : State) (z : Zone) :
    (forZones zoneEntry s).zones.get z =
      if s.present z then (s.zones.get z).entered s.loopParams s.line.state (s.planner.inForce.zones.get z)
      else s.zones.get z := by
  have one : ∀ y u, u.line = s.line → u.planner = s.planner → u.params = s.params → (zoneEntry y u).zones.get z =
      if y = z ∧ s.present z = true then
        (u.zones.get z).entered s.loopParams s.line.state (s.planner.inForce.zones.get z)
      else u.zones.get z := fun y u line planner params => by
    have present : u.present y = s.present y := by unfold State.present; rw [line]
    have loop : u.loopParams = s.loopParams := by unfold State.loopParams; rw [line, params]
    unfold zoneEntry
    rw [present, loop, line, planner]
    by_cases same : y = z
    · subst same
      split <;> simp [*, State.withZone, PerZone.get_set]
    · split <;> simp [same, Ne.symm same, State.withZone, PerZone.get_set]
  have kept : ∀ y u, (zoneEntry y u).line = u.line ∧ (zoneEntry y u).planner = u.planner ∧ (zoneEntry y u).params = u.params :=
    fun y u => ⟨onlyChanges_zoneEntry y u .line (by simp), onlyChanges_zoneEntry y u .planner (by simp),
      congrArg Agent.params (onlyChanges_zoneEntry y u .agent (by simp))⟩
  show (zoneEntry .z4 (zoneEntry .z3 (zoneEntry .z2 (zoneEntry .z1 s)))).zones.get z = _
  simp only [one, kept]
  cases z <;> simp

theorem circuit_forCircuits_circuitEntry (s : State) (c : Circuit) :
    (forCircuits circuitEntry s).circuits.get c =
      if s.circuitPresent c then (s.circuits.get c).entered s.params s.line.state (s.planner.inForce.chill.get c)
      else s.circuits.get c := by
  have one : ∀ k u, u.line = s.line → u.planner = s.planner → u.params = s.params → (circuitEntry k u).circuits.get c =
      if k = c ∧ s.circuitPresent c = true then
        (u.circuits.get c).entered s.params s.line.state (s.planner.inForce.chill.get c)
      else u.circuits.get c := fun k u line planner params => by
    have present : u.circuitPresent k = s.circuitPresent k := by unfold State.circuitPresent; rw [line]
    unfold circuitEntry
    rw [present, line, planner, params]
    by_cases same : k = c
    · subst same
      split <;> simp [*, State.withCircuit, PerCircuit.get_set]
    · split <;> simp [same, Ne.symm same, State.withCircuit, PerCircuit.get_set]
  have kept : ∀ k u, (circuitEntry k u).line = u.line ∧ (circuitEntry k u).planner = u.planner ∧
      (circuitEntry k u).params = u.params :=
    fun k u => ⟨onlyChanges_circuitEntry k u .line (by simp), onlyChanges_circuitEntry k u .planner (by simp),
      congrArg Agent.params (onlyChanges_circuitEntry k u .agent (by simp))⟩
  show (circuitEntry .c2 (circuitEntry .c1 s)).circuits.get c = _
  simp only [one, kept]
  cases c <;> simp

theorem stateEntered_reads (l : LineState) (s : State) :
    (stateEntered l s).line.state = l ∧ (stateEntered l s).loopParams = s.loopParams ∧
      (stateEntered l s).params = s.params ∧ (stateEntered l s).planner.inForce = s.planner.inForce := by
  have params : (stateEntered l s).params = s.params := congrArg Agent.params (onlyChanges_stateEntered l s .agent (by simp))
  refine ⟨rfl, ?_, params, ?_⟩
  · unfold State.loopParams
    rw [params]
    rfl
  · show (grantAtEntry l s).planner.inForce = _
    rw [grantAtEntry_planner]
    split <;> rfl

/-- A state entry gives each present zone its record (R130, R131, R135). -/
theorem zone_enterLine (l : LineState) (s : State) (z : Zone) :
    (enterLine l s).zones.get z =
      if s.present z then (s.zones.get z).entered s.loopParams l (s.planner.inForce.zones.get z) else s.zones.get z := by
  let u := stateEntered l s
  obtain ⟨state, loop, _, inForce⟩ := stateEntered_reads l s
  have zones : u.zones = s.zones := onlyChanges_stateEntered l s .zones (by simp)
  have after : (loopEntries u).zones = (forZones zoneEntry u).zones :=
    ((onlyChanges_forCircuits onlyChanges_circuitEntry _).trans (onlyChanges_withChannels _ _)) .zones (by simp)
  rw [enterLine_eq, after, zone_forZones_zoneEntry, zones, loop, state, inForce]
  rfl

/-- A state entry gives each present circuit its record (R141, R142). -/
theorem circuit_enterLine (l : LineState) (s : State) (c : Circuit) :
    (enterLine l s).circuits.get c =
      if s.circuitPresent c then (s.circuits.get c).entered s.params l (s.planner.inForce.chill.get c)
      else s.circuits.get c := by
  let u := stateEntered l s
  have loops : OnlyChanges [.zones] u (forZones zoneEntry u) := onlyChanges_forZones onlyChanges_zoneEntry u
  have line : (forZones zoneEntry u).line = u.line := loops .line (by simp)
  have planner : (forZones zoneEntry u).planner = u.planner := loops .planner (by simp)
  have agent : (forZones zoneEntry u).params = u.params := congrArg Agent.params (loops .agent (by simp))
  have circuits : (forZones zoneEntry u).circuits = s.circuits :=
    (loops .circuits (by simp)).trans (onlyChanges_stateEntered l s .circuits (by simp))
  obtain ⟨state, _, params, inForce⟩ := stateEntered_reads l s
  have after : (loopEntries u).circuits = (forCircuits circuitEntry (forZones zoneEntry u)).circuits := rfl
  have present : (forZones zoneEntry u).circuitPresent c = s.circuitPresent c := by
    unfold State.circuitPresent
    rw [line]
    rfl
  rw [enterLine_eq, after, circuit_forCircuits_circuitEntry, present, circuits, line, planner, agent, params, state, inForce]

/-! ### The end of an event outside READY and RUN (R66; log 7) -/

/-- The store at the end of an event outside READY and RUN. -/
def State.storeAtEnd (s : State) : Store :=
  if s.store.status = .pending ∧ s.safePoint = true then s.store.committed else s.store

/-- Outside READY and RUN a commit that is carried out changes the store alone. -/
theorem settleStore_outside {s : State} (h : s.line.state.granted = false) : settleStore s = s.withStore s.storeAtEnd := by
  unfold settleStore State.storeAtEnd carryOut
  split
  · dsimp only
    cases state : s.line.state <;> simp_all [LineState.granted] <;> rfl
  · rfl

theorem storeAtEnd_kept {s : State} (h : s.store.status ≠ .pending ∨ s.safePoint = false) : s.storeAtEnd = s.store :=
  if_neg fun ⟨pending, safe⟩ => h.elim (fun k => k pending) fun k => Bool.noConfusion (safe.symm.trans k)

theorem storeAtEnd_committed {s : State} (pending : s.store.status = .pending) (safe : s.safePoint = true) :
    s.storeAtEnd = s.store.committed := if_pos ⟨pending, safe⟩

theorem closeEvent_outside {s : State} (h : s.line.state.granted = false) :
    closeEvent s = sweepFaults (payGrants (driveStage (s.withStore s.storeAtEnd))) := by
  rw [closeEvent, settleStore_outside h]

/-- The drive stage, the GRANT frames owed and the fault entries. -/
theorem onlyChanges_ending (s : State) :
    OnlyChanges [.channels, .outlet, .sat, .faults] s (sweepFaults (payGrants (driveStage s))) :=
  (((onlyChanges_driveStage s).trans (onlyChanges_payGrants _)).trans (onlyChanges_sweepFaults _)).mono (by simp)

theorem onlyChanges_closeEvent {s : State} (h : s.line.state.granted = false) :
    OnlyChanges [.store, .channels, .outlet, .sat, .faults] s (closeEvent s) := by
  rw [closeEvent_outside h]
  exact (onlyChanges_withStore s _).trans (onlyChanges_ending _)

theorem store_closeEvent {s : State} (h : s.line.state.granted = false) : (closeEvent s).store = s.storeAtEnd := by
  rw [closeEvent_outside h]
  exact onlyChanges_ending (s.withStore s.storeAtEnd) .store (by simp)

/-- At no safe point, or with no commit pending, the store is as it was (R66). -/
theorem onlyChanges_closeEvent_settled {s : State} (h : storeSettled s = true) :
    OnlyChanges [.channels, .outlet, .sat, .faults] s (closeEvent s) := by
  rw [closeEvent, settleStore_of_settled h]
  exact onlyChanges_ending s

theorem onlyChanges_finish {s : State} (h : s.line.state.granted = false) :
    OnlyChanges [.store, .channels, .outlet, .sat, .faults, .agent] s (finish s) :=
  ((onlyChanges_closeEvent h).trans (outletAlone_arbitrate _).onlyChanges).mono (by simp)

theorem params_finish (s : State) : (finish s).params = s.params := (work_finish s).undisturbed.params

theorem store_finish {s : State} (h : s.line.state.granted = false) : (finish s).store = s.storeAtEnd :=
  ((outletAlone_arbitrate (closeEvent s)).onlyChanges .store (by simp)).trans (store_closeEvent h)

/-! ### Entries that stay pending (R183) -/

/-- An entry that nothing has taken outlives the sweep. -/
theorem pending_sweepFaults_untaken {e : FaultCode} {s : State} (untaken : s.faults.taken &&& e.bit = 0)
    (h : s.faults.pending &&& e.bit ≠ 0) : (sweepFaults s).faults.pending &&& e.bit ≠ 0 := by
  obtain ⟨out, swept⟩ := sweepFaults_eq s
  have low : e.code - 1 < 16 := by cases e <;> decide
  have notTaken : s.faults.taken.getLsbD (e.code - 1) = false := by
    rw [← Bool.not_eq_true, ← pending_iff]
    exact not_not.mpr untaken
  rw [pending_iff] at h ⊢
  rw [swept]
  simp only [State.withFaults_faults, BitVec.getLsbD_and, BitVec.getLsbD_or, BitVec.getLsbD_not, h, notTaken, low, decide_true,
    Bool.not_false, Bool.true_and, Bool.true_or]

/-- An entry that is raised is pending and not taken. -/
structure Raised (e : FaultCode) (f : Faults) : Prop where
  pending : f.pending &&& e.bit ≠ 0
  untaken : f.taken &&& e.bit = 0

theorem raised_raiseFault (e : FaultCode) (s : State) : Raised e (raiseFault e s).faults where
  pending := pending_raiseFault_same e s
  untaken := by
    show (s.faults.taken &&& ~~~ e.bit) &&& e.bit = 0
    rw [BitVec.and_assoc, show ~~~ e.bit &&& e.bit = 0 from by cases e <;> decide]
    exact BitVec.and_zero

/-- An entry raised in an event is pending at its end. -/
theorem Raised.closed {e : FaultCode} {s : State} (h : s.line.state.granted = false) (raised : Raised e s.faults) :
    (closeEvent s).faults.pending &&& e.bit ≠ 0 := by
  have paid : (payGrants (driveStage (s.withStore s.storeAtEnd))).faults = s.faults :=
    (payGrants_same _).faults.trans (driveStage_same (s.withStore s.storeAtEnd)).faults
  rw [closeEvent_outside h]
  exact pending_sweepFaults_untaken (paid ▸ raised.untaken) (paid ▸ raised.pending)

/-! ### A GRANT's way to the ring (R75, R99; log 7) -/

theorem grantsPaid_sendUnasked (st : GrantStatus) (s : State) : grantsPaid (sendUnasked st s) = true := by
  have paid : grantsPaid (payGrants s) = true := (payGrants_same s).grants_paid
  exact (sameJudged_insertFrame _ _).grants_paid.trans paid

theorem waitsOrLost_sendUnasked {s u : State} (st : GrantStatus) (loss : s.sat.insertLoss.toNat ≤ u.sat.insertLoss.toNat) :
    WaitsOrLost (u.grantFrame st u.planner.lastTag) s (sendUnasked st u) :=
  waitsOrLost_insertFrame (loss.trans (work_payGrants u).undisturbed.loss)

/-- A GRANT that waits is sent when the drive stage has originated its DEMAND frames and no other GRANT is owed. -/
theorem WaitsOrLost.ended {f : OwnFrame} {s v : State} (h : WaitsOrLost f s v) (key : f.key = some .grant)
    (paid : grantsPaid v = true) : SentOrLost f s (arbitrate (sweepFaults (payGrants (driveStage v)))) := by
  have nothing : payGrants (driveStage v) = driveStage v := payGrants_of_paid ((driveStage_same v).grants_paid.trans paid)
  have swept := onlyChanges_sweepFaults (driveStage v)
  have outlet : (sweepFaults (driveStage v)).outlet = (driveStage v).outlet := swept .outlet (by simp)
  have sat : (sweepFaults (driveStage v)).sat = (driveStage v).sat := swept .sat (by simp)
  rw [nothing]
  refine WaitsOrLost.sent (h.later (fun waits => ?_) ?_)
  · rw [outlet]
    exact waits_driveStage key waits
  · rw [sat]
    exact (work_driveStage v).undisturbed.loss

theorem WaitsOrLost.finished {f : OwnFrame} {s v : State} (h : WaitsOrLost f s v) (key : f.key = some .grant)
    (paid : grantsPaid v = true) (outside : v.line.state.granted = false) : SentOrLost f s (finish v) := by
  have stored : WaitsOrLost f s (v.withStore v.storeAtEnd) := h
  unfold finish
  rw [closeEvent_outside outside]
  exact stored.ended key paid

end Sys2Proof.Machine

/-!
SUPPORT. A trip outside COLD and LOCKOUT, and in them; and the statement about trips at the expiries that report one.
-/

namespace Sys2Proof.Machine

-- One proof after the other: side by side with the text above, their threads need more memory than the check allows.
set_option Elab.async false

theorem whenDue_due {b : Bool} {work : State → State} {s : State} (h : b = true) : whenDue b work s = finish (work s) := if_pos h

theorem grantAtEntry_lockout (s : State) : grantAtEntry .lockout s = sendUnasked .held (withdrawGrant s) := by
  unfold grantAtEntry
  rw [if_neg (by nofun), if_pos (.inr (.inr rfl))]

/-- The entry into LOCKOUT leaves a GRANT HELD with ceiling 0 waiting, and owes no other (R75). -/
theorem waits_enterLockout {s u : State} (loss : s.sat.insertLoss.toNat ≤ u.sat.insertLoss.toNat) :
    WaitsOrLost (.grant u.outlet.dest.address u.planner.lastTag 0 .held) s (enterLine .lockout u) ∧
      grantsPaid (enterLine .lockout u) = true := by
  let sent := sendUnasked .held (withdrawGrant u)
  have outlet : (enterLine .lockout u).outlet = sent.outlet := by rw [enterLine_outlet, grantAtEntry_lockout]
  have sat : (enterLine .lockout u).sat = sent.sat := by rw [enterLine_sat, grantAtEntry_lockout]
  have waits : WaitsOrLost ((withdrawGrant u).grantFrame .held u.planner.lastTag) s sent := waitsOrLost_sendUnasked .held loss
  refine ⟨waits.later (fun h => by rwa [outlet]) (by rw [sat]), ?_⟩
  unfold grantsPaid
  rw [outlet]
  exact grantsPaid_sendUnasked _ _

/-- What an event in which the line is tripped from `s` into LOCKOUT leaves (R75, R93, R165). -/
structure LockedOut (s t : State) : Prop where
  line : t.line = { s.line with state := .lockout, purge := none, settle := none, cooldown := none }
  planner : t.planner = { s.planner with plan := none, ceiling := 0, grantRow := none }
  stack : t.stack = []
  transit : t.transit = []
  supervisor : t.supervisor = s.supervisor.entered .lockout
  params : t.params = s.params
  store : t.store = s.store
  grant : SentOrLost (.grant s.outlet.dest.address s.planner.lastTag 0 .held) s t

/-- Where a trip is taken, the event ends in LOCKOUT; LOCKOUT is no safe point, so no commit is carried out. -/
theorem lockedOut_finish {s : State} (away : ¬ (s.line.state = .cold ∨ s.line.state = .lockout)) :
    LockedOut s (finish (tripLine s)) := by
  rw [tripLine_else away]
  let v := flushTransit (discardPlan (emptyStack s))
  have line : (enterLine .lockout v).line = { s.line with state := .lockout, purge := none, settle := none, cooldown := none } :=
    enterLine_line .lockout v
  have outside : (enterLine .lockout v).line.state.granted = false := by rw [line]; rfl
  have busy : (enterLine .lockout v).safePoint = false := by
    unfold State.safePoint
    rw [line]
    rfl
  have ends := onlyChanges_finish outside
  obtain ⟨waits, paid⟩ := waits_enterLockout (s := s) (u := v) le_rfl
  exact
    { line := (ends .line (by simp)).trans line
      planner := (ends .planner (by simp)).trans (enterLine_planner .lockout v)
      stack := (ends .stack (by simp)).trans (enterLine_stack .lockout v)
      transit := (ends .transit (by simp)).trans (enterLine_transit .lockout v)
      supervisor := (ends .supervisor (by simp)).trans (enterLine_supervisor .lockout v)
      params := (params_finish _).trans (congrArg Agent.params (onlyChanges_enterLine .lockout v .agent (by simp)))
      store := (store_finish outside).trans
        ((storeAtEnd_kept (.inr busy)).trans (onlyChanges_enterLine .lockout v .store (by simp)))
      grant := waits.finished rfl paid outside }

/-- A trip gives each present zone its record on entry into LOCKOUT. -/
theorem zone_finish_tripLine {s : State} (away : ¬ (s.line.state = .cold ∨ s.line.state = .lockout)) {z : Zone}
    (present : s.present z = true) :
    (finish (tripLine s)).zones.get z =
      (s.zones.get z).entered s.loopParams .lockout (s.planner.inForce.zones.get z) := by
  rw [tripLine_else away]
  let v := flushTransit (discardPlan (emptyStack s))
  have outside : (enterLine .lockout v).line.state.granted = false := by rw [enterLine_line]; rfl
  rw [onlyChanges_finish outside .zones (by simp), zone_enterLine, if_pos (show v.present z = true from present)]
  rfl

/-- The entry that a trip raises is not taken by what follows it. -/
theorem raised_trip (e : FaultCode) (s : State) : Raised e (trip e s).faults := by
  have faults : (trip e s).faults = (raiseFault e s).faults := by
    unfold trip tripLine
    split
    · rfl
    · exact onlyChanges_enterLine .lockout _ .faults (by simp)
  exact faults ▸ raised_raiseFault e s

/-- After a trip the line is in a state without a grant. -/
theorem trip_outside (e : FaultCode) (s : State) : (trip e s).line.state.granted = false := by
  unfold trip tripLine
  split
  · rename_i h
    rcases h with h | h <;> rw [h] <;> rfl
  · rw [enterLine_line]
    rfl

/-- An entry raised with a trip is pending at the event's end, whatever the line state. -/
theorem pending_finish_trip (e : FaultCode) (s : State) : (finish (trip e s)).faults.pending &&& e.bit ≠ 0 := by
  show (arbitrate (closeEvent (trip e s))).faults.pending &&& e.bit ≠ 0
  rw [(sameJudged_arbitrate _).faults]
  exact (raised_trip e s).closed (trip_outside e s)

/-- A trip in COLD and LOCKOUT raises its entry alone (R93, R178). -/
theorem trip_idle (e : FaultCode) {s : State} (h : s.line.state = .cold ∨ s.line.state = .lockout) :
    trip e s = raiseFault e s := tripLine_cold h

/-- The entry into LOCKOUT leaves a FAILED zone FAILED, with its burner cut (R130, R135). -/
theorem entered_lockout_failed {p : Params} {t : ZoneTargets} {r : ZoneRec} (h : r.ignition = .failed) :
    (r.entered p .lockout t).ignition = .failed ∧ (r.entered p .lockout t).ignitionTimer = none ∧
      (r.entered p .lockout t).burner = 0 := by
  unfold ZoneRec.entered
  rw [if_neg (by nofun), h]
  exact ⟨rfl, rfl, rfl⟩

/-- Settles O41: each expiry's work is a trip from the state in which the zone has FAILED, or its grace has ended. -/
theorem tripsEnterLockout : Obligations.TripsEnterLockout := by
  intro z s _ locked tripped
  have lockedOf : ∀ t, LockedOut s t → locked t := fun t h => by
    obtain ⟨line, planner, stack, transit, supervisor, params, store, grant⟩ := h
    refine ⟨by rw [line], by rw [supervisor]; rfl, by rw [planner], stack, transit, by rw [planner], by rw [planner],
      by rw [line], by rw [line], by rw [line], by rw [supervisor]; rfl, params, store, grant⟩
  have awayOf : tripped → ¬ (s.line.state = .cold ∨ s.line.state = .lockout) := fun h => not_or.mpr h
  have idleOf : ¬ tripped → s.line.state = .cold ∨ s.line.state = .lockout := fun h => by
    simpa only [tripped, ne_eq, ← not_or, not_not] using h
  refine ⟨fun igniting due present => ?_, fun due => ?_⟩
  · let r : ZoneRec :=
      ({ s.zones.get z with ignition := .failed, ignitionTimer := none } : ZoneRec).withBurner s.loopParams s.line.state
    let u := s.withZone z r
    have zone : u.zones.get z = r := (PerZone.get_set ..).trans (if_pos rfl)
    have done : exec (.ignitionTimerExpiry z) s = .next (finish (trip .ignitionFail u)) := by
      have isDue : ignitionDue z s = true := by simp [ignitionDue, due, igniting, timerDue]
      exact congrArg Host.Outcome.next (whenDue_due isDue)
    have pending : (finish (trip .ignitionFail u)).faults.pending &&& FaultCode.ignitionFail.bit ≠ 0 :=
      pending_finish_trip _ u
    by_cases h : tripped
    · have lockout : LockedOut (raiseFault .ignitionFail u) (finish (trip .ignitionFail u)) := lockedOut_finish (awayOf h)
      have failed : (finish (trip .ignitionFail u)).zones.get z =
          (u.zones.get z).entered u.loopParams .lockout (u.planner.inForce.zones.get z) :=
        zone_finish_tripLine (s := raiseFault .ignitionFail u) (awayOf h) present
      obtain ⟨ignition, timer, burner⟩ := entered_lockout_failed (p := u.loopParams) (t := u.planner.inForce.zones.get z)
        (r := u.zones.get z) (by rw [zone]; rfl)
      rw [← failed] at ignition timer burner
      exact ⟨_, done, pending, ignition, timer, fun _ => ⟨lockedOf _ { lockout with }, burner⟩, fun k => absurd h k⟩
    · have idle : u.line.state = .cold ∨ u.line.state = .lockout := idleOf h
      have outside := trip_outside .ignitionFail u
      have ends := onlyChanges_finish outside
      rw [trip_idle _ idle] at done pending ends
      have zones : (finish (raiseFault .ignitionFail u)).zones.get z = r := (congrArg (·.get z) (ends .zones (by simp))).trans zone
      exact ⟨_, done, pending, by rw [zones]; rfl, by rw [zones]; rfl, fun k => absurd k h,
        fun _ => congrArg Line.state (ends .line (by simp))⟩
  · let u := setGrace z none s
    have done : exec (.graceTimerExpiry z) s = .next (finish (trip .flameFail u)) := by
      have isDue : timerDue (s.supervisor.grace.get z) = true := by simp [due, timerDue]
      exact congrArg Host.Outcome.next (whenDue_due isDue)
    have pending : (finish (trip .flameFail u)).faults.pending &&& FaultCode.flameFail.bit ≠ 0 :=
      pending_finish_trip _ u
    by_cases h : tripped
    · have lockout : LockedOut (raiseFault .flameFail u) (finish (trip .flameFail u)) := lockedOut_finish (awayOf h)
      refine ⟨_, done, pending, ?_, fun _ => lockedOf _ { lockout with }, fun k => absurd h k⟩
      rw [lockout.supervisor]
      cases z <;> rfl
    · have idle : u.line.state = .cold ∨ u.line.state = .lockout := idleOf h
      have ends := onlyChanges_finish (trip_outside .flameFail u)
      rw [trip_idle _ idle] at done pending ends
      refine ⟨_, done, pending, ?_, fun k => absurd k h, fun _ => congrArg Line.state (ends .line (by simp))⟩
      rw [ends .supervisor (by simp)]
      exact (PerZone.get_set ..).trans (if_pos rfl)

end Sys2Proof.Machine

/-!
SUPPORT. The LINE commands that are taken: what the event of one leaves, and the statements about STOP and the cooldown timer, about
CLEAR_LOCKOUT and about RESTART.
-/

namespace Sys2Proof.Machine

-- One proof after the other: side by side with the text above, their threads need more memory than the check allows.
set_option Elab.async false

/-! ### The event of a LINE command that is taken -/

/-- A LINE command that leaves `u`, outside READY and RUN: its event leaves `u` but for the store, where a commit was due, the demands
and frames, the fault entries and the REPLY. -/
theorem line_carried {c : Instr} {o : OrderFields} {s u : State} (ho : orderFields c = some o) (write : TakenWrite c s)
    (body : orderBody o.code.toNat o.data (arrived s) = linePlain .done u) (ordinary : resetTaken o.code [0, 0, 0] = false)
    (link : u.link = (arrived s).link) (loss : s.sat.insertLoss.toNat ≤ u.sat.insertLoss.toNat)
    (outside : u.line.state.granted = false) :
    ∃ t, Carries c [0, 0, 0] s t ∧ SameJudged (closeEvent u) t ∧
      OnlyChanges [.store, .channels, .outlet, .sat, .faults, .agent] u t ∧ t.store = u.storeAtEnd ∧ t.params = u.params := by
  obtain ⟨_, same, taken, admits⟩ := write
  cases ho.symm.trans same
  obtain ⟨t, carries, _, judged, only⟩ := exec_carried (a := linePlain .done u) ho taken admits body link loss ordinary
  have closes := onlyChanges_closeEvent outside
  exact ⟨t, carries, judged, (closes.trans only).mono (by simp), judged.store.trans (store_closeEvent outside),
    judged.agent.trans (congrArg Agent.params (closes .agent (by simp)))⟩

/-- A block that is the same after all is none of those changed. -/
theorem OnlyChanges.except {b : Block} {l : List Block} {s t : State} (h : OnlyChanges (b :: l) s t) (same : s.same t b) :
    OnlyChanges l s t := fun x hx => by
  by_cases k : x = b
  · exact k ▸ same
  · exact h x (by simp [k, hx])

/-! ### What the tests of the readings read (R87, R177) -/

/-- The present zones, their readings and the parameters are the same. -/
structure SameReadings (s t : State) : Prop where
  present : ∀ z, t.present z = s.present z
  zones : ∀ z, (s.zones.get z).sameReadings (t.zones.get z)
  params : t.params = s.params

theorem SameReadings.trans {s t u : State} (h : SameReadings s t) (k : SameReadings t u) : SameReadings s u where
  present z := (k.present z).trans (h.present z)
  zones z := ⟨(k.zones z).1.trans (h.zones z).1, (k.zones z).2.trans (h.zones z).2⟩
  params := k.params.trans h.params

theorem SameReadings.cooldownTest {s t : State} (h : SameReadings s t) : t.cooldownTest = s.cooldownTest := by
  unfold State.cooldownTest
  simp only [h.present, h.params, (h.zones _).1]

theorem SameReadings.sensorTestFails {s t : State} (h : SameReadings s t) : t.sensorTestFails = s.sensorTestFails := by
  unfold State.sensorTestFails
  simp only [h.present, h.params, (h.zones _).1, (h.zones _).2]

theorem params_enterLine (l : LineState) (s : State) : (enterLine l s).params = s.params :=
  congrArg Agent.params (onlyChanges_enterLine l s .agent (by simp))

theorem sameReadings_enterLine (l : LineState) (s : State) : SameReadings s (enterLine l s) where
  present z := by
    unfold State.present
    rw [enterLine_line]
  zones z := by
    rw [zone_enterLine]
    split
    · exact sameReadings_entered _ _ _ _
    · exact ZoneRec.sameReadings_refl _
  params := params_enterLine l s

/-! ### Entries that put the burners out (R130, R135) -/

theorem entered_off {p : Params} {l : LineState} {t : ZoneTargets} {r : ZoneRec} (h : l = .cold ∨ l = .cooldown) :
    (r.entered p l t).ignition = .off ∧ (r.entered p l t).burner = 0 := by
  rcases h with rfl | rfl <;> exact ⟨rfl, rfl⟩

/-- The burner of every zone present in `s` is out. -/
def BurnersOut (s u : State) : Prop :=
  ∀ z, s.present z = true → (u.zones.get z).ignition = .off ∧ (u.zones.get z).burner = 0

theorem burnersOut_enterLine {l : LineState} (s : State) (h : l = .cold ∨ l = .cooldown) : BurnersOut s (enterLine l s) :=
  fun z present => by
    rw [zone_enterLine, if_pos present]
    exact entered_off h

/-! ### STOP and the cooldown test (R86 to R88) -/

/-- STOP's entry into COOLDOWN, before the cooldown test. -/
def cooldownBegun (s : State) : State :=
  let u := enterLine .cooldown (flushTransit (emptyStack s))
  u.withLine { u.line with cooldown := some Config.cooldownMs }

theorem enterCooldown_eq (s : State) : enterCooldown s = cooldownJudged (cooldownBegun s) := rfl

/-- What a STOP leaves, in COOLDOWN and in COLD alike. -/
structure Cooled (s u : State) : Prop where
  only : OnlyChanges [.outlet, .sat, .channels, .line, .planner, .zones, .circuits, .transit, .stack, .supervisor] s u
  readings : SameReadings s u
  stack : u.stack = []
  transit : u.transit = []
  permit : u.supervisor.permit = false
  planner : u.planner = { s.planner with grantRow := none, ceiling := 0 }
  purge : u.line.purge = none
  settle : u.line.settle = none
  zonesPresent : u.line.zonesPresent = s.line.zonesPresent
  circuitsPresent : u.line.circuitsPresent = s.line.circuitsPresent
  burners : BurnersOut s u

theorem cooled_cooldownBegun (s : State) : Cooled s (cooldownBegun s) := by
  let v := flushTransit (emptyStack s)
  have line : (cooldownBegun s).line =
      { s.line with state := .cooldown, purge := none, settle := none, cooldown := some Config.cooldownMs } :=
    congrArg (fun x : Line => { x with cooldown := some Config.cooldownMs }) (enterLine_line .cooldown v)
  have readings := sameReadings_enterLine .cooldown v
  exact
    { only := ((((onlyChanges_withStack s []).trans (onlyChanges_withTransit _ [])).trans (onlyChanges_enterLine .cooldown v)).trans
        (onlyChanges_withLine _ _)).mono (by simp)
      readings := ⟨readings.present, readings.zones, readings.params⟩
      stack := enterLine_stack .cooldown v
      transit := enterLine_transit .cooldown v
      permit := (congrArg Supervisor.permit (enterLine_supervisor .cooldown v)).trans (entered_permit _ _)
      planner := enterLine_planner .cooldown v
      purge := by rw [line]
      settle := by rw [line]
      zonesPresent := by rw [line]
      circuitsPresent := by rw [line]
      burners := burnersOut_enterLine v (.inr rfl) }

/-- The entry into COLD that follows. -/
theorem Cooled.enterCold {s u : State} (h : Cooled s u) : Cooled s (enterCold u) := by
  let v := flushTransit u
  have readings := sameReadings_enterLine .cold v
  have line : (Machine.enterCold u).line = { u.line with state := .cold, purge := none, settle := none, cooldown := none } :=
    enterLine_line .cold v
  exact
    { only := ((h.only.trans (onlyChanges_withTransit _ [])).trans (onlyChanges_enterLine .cold v)).mono (by simp)
      readings := h.readings.trans ⟨readings.present, readings.zones, readings.params⟩
      stack := (enterLine_stack .cold v).trans h.stack
      transit := enterLine_transit .cold v
      permit := (congrArg Supervisor.permit (enterLine_supervisor .cold v)).trans (entered_permit _ _)
      planner := (enterLine_planner .cold v).trans (congrArg (fun p : Planner => { p with grantRow := none, ceiling := 0 }) h.planner)
      purge := by rw [line]
      settle := by rw [line]
      zonesPresent := by rw [line]; exact h.zonesPresent
      circuitsPresent := by rw [line]; exact h.circuitsPresent
      burners := fun z present => burnersOut_enterLine v (.inl rfl) z ((h.readings.present z).trans present) }

theorem cooled_enterCooldown (s : State) : Cooled s (enterCooldown s) := by
  rw [enterCooldown_eq]
  unfold cooldownJudged
  split
  · exact (cooled_cooldownBegun s).enterCold
  · exact cooled_cooldownBegun s

/-- The cooldown test of the readings as they were decides between COOLDOWN and COLD. -/
theorem enterCooldown_line (s : State) :
    (s.cooldownTest = true → (enterCooldown s).line.state = .cold ∧ (enterCooldown s).line.cooldown = none) ∧
      (s.cooldownTest = false →
        (enterCooldown s).line.state = .cooldown ∧ (enterCooldown s).line.cooldown = some Config.cooldownMs) := by
  rw [enterCooldown_eq, ← (cooled_cooldownBegun s).readings.cooldownTest]
  unfold cooldownJudged
  refine ⟨fun cool => ?_, fun warm => ?_⟩
  · rw [if_pos cool, enterCold, enterLine_line]
    exact ⟨rfl, rfl⟩
  · rw [if_neg (by simp [warm])]
    refine ⟨?_, rfl⟩
    show (enterLine .cooldown _).line.state = _
    rw [enterLine_line]

/-- A timer of the line that changes alone leaves a part at rest there (R35, R66, R182). -/
theorem atRest_withLine {s : State} {x : Line} (h : s.atRest = true) (state : x.state = s.line.state)
    (zones : x.zonesPresent = s.line.zonesPresent) (circuits : x.circuitsPresent = s.line.circuitsPresent) :
    (s.withLine x).atRest = true := by
  obtain ⟨drives, store, faults, port, grants⟩ := atRest_iff.mp h
  have zone : ∀ z, (s.withLine x).present z = s.present z := fun z => congrArg (·.get z) zones
  have circuit : ∀ c, (s.withLine x).circuitPresent c = s.circuitPresent c := fun c => congrArg (·.get c) circuits
  have source : ∀ r, demandSource (s.withLine x) r = demandSource s r := fun r => by
    cases r <;> simp only [demandSource, zone, circuit, State.withLine_line, state] <;> rfl
  have hold : ∀ e, (s.withLine x).underHold e = s.underHold e := fun e => by
    unfold State.underHold
    rw [State.withLine_line, state]
    rfl
  have safe : (s.withLine x).safePoint = s.safePoint := by
    unfold State.safePoint
    rw [State.withLine_line, state]
    rfl
  have mask : (s.withLine x).conditionMask = s.conditionMask := faultMask_congr fun e => by
    cases e <;> simp only [faultCondition, zone, State.withLine_line, state] <;> rfl
  refine atRest_iff.mpr ⟨?_, ?_, ?_, port, grants⟩
  · rw [drivesFollow_iff] at drives ⊢
    intro e he d hd
    rw [source, hold]
    exact drives e he d hd
  · unfold storeSettled at store ⊢
    rw [safe]
    exact store
  · unfold faultsSettled at faults ⊢
    rw [mask]
    exact faults

/-- Settles O36: STOP's entries, the test of the readings as they were, and the timer's test once more. -/
theorem stopCoolsTheLine : Obligations.StopCoolsTheLine := by
  refine ⟨?_, ?_⟩
  · intro src dst tag s c write state
    let u := enterCooldown (arrived s)
    have cooled : Cooled (arrived s) u := cooled_enterCooldown _
    obtain ⟨cold, warm⟩ := enterCooldown_line (arrived s)
    have stops : (arrived s).line.state.stops = true := by
      show s.line.state.stops = true
      rcases state with h | h | h | h <;> rw [h] <;> rfl
    have outside : u.line.state.granted = false := by
      cases test : (arrived s).cooldownTest
      · rw [(warm test).1]; rfl
      · rw [(cold test).1]; rfl
    obtain ⟨t, carries, _, only, _, params⟩ := line_carried (c := c) rfl write (if_pos stops) rfl
      (cooled.only .link (by simp)) (work_enterCooldown (arrived s)).undisturbed.loss outside
    have line : t.line = u.line := only .line (by simp)
    have zones : t.zones = u.zones := only .zones (by simp)
    refine ⟨t, carries, (((onlyChanges_arrived s).trans cooled.only).trans only).mono (by simp), params.trans cooled.readings.params,
      (only .stack (by simp)).trans cooled.stack, (only .transit (by simp)).trans cooled.transit, ?_,
      (only .planner (by simp)).trans cooled.planner, ?_⟩
    · exact (congrArg Supervisor.permit (only .supervisor (by simp))).trans cooled.permit
    · rw [line, zones]
      exact ⟨cooled.purge, cooled.settle, cooled.zonesPresent, cooled.circuitsPresent, cold, warm, cooled.burners⟩
  · intro s rest state due
    let w := s.withLine { s.line with cooldown := some Config.cooldownMs }
    have done : exec .cooldownTimerExpiry s = .next (finish (cooldownJudged w)) :=
      congrArg Host.Outcome.next (whenDue_due (by rw [due]; rfl))
    have test : w.cooldownTest = s.cooldownTest := rfl
    refine ⟨_, done, fun cool => ?_, fun warm => ?_⟩
    · have entered : cooldownJudged w = enterCold w := if_pos (test.trans cool)
      have line : (enterCold w).line = { w.line with state := .cold, purge := none, settle := none, cooldown := none } :=
        enterLine_line .cold (flushTransit w)
      have ends := onlyChanges_finish (s := enterCold w) (by rw [line]; rfl)
      rw [entered, ends .line (by simp), ends .transit (by simp), line]
      exact ⟨rfl, rfl, enterLine_transit .cold (flushTransit w)⟩
    · have stays : cooldownJudged w = w := if_neg (by simp [test, warm])
      have wRest : w.atRest = true := atRest_withLine rest rfl rfl rfl
      rw [stays, finish_atRest wRest]
      exact ⟨onlyChanges_withLine s _, rfl⟩

end Sys2Proof.Machine

/-!
SUPPORT. The entry into COLD from LOCKOUT, and the entry into HEATUP with the sensor test; and the statements about CLEAR_LOCKOUT and
RESTART.
-/

namespace Sys2Proof.Machine

-- One proof after the other: side by side with the text above, their threads need more memory than the check allows.
set_option Elab.async false

/-! ### CLEAR_LOCKOUT (R88, R94) -/

/-- In COLD every source gives 0, present or not (R35). -/
theorem demandSource_of_cold {s : State} (cold : s.line.state = .cold) (r : Role) : demandSource s r = 0 := by
  cases r <;> simp [demandSource, cold]

/-- In COLD every drive record that follows its source stands at 0, under no hold (R35, R39). -/
theorem drives_cold {s : State} (follow : drivesFollow s = true) (cold : s.line.state = .cold) :
    ∀ e ∈ s.channels, ∀ d, e.drive = some d → d.computed = 0 ∧ d.sent = 0 := by
  intro e he d hd
  have settled := drivesFollow_iff.mp follow e he d hd
  rw [demandSource_of_cold cold, underHold_uncontrolled (by rw [cold]; rfl)] at settled
  obtain ⟨computed, free, _⟩ := settled_cases settled
  exact ⟨computed, (free rfl).1⟩

/-- No condition reads the collector. -/
theorem conditionMask_sweepFaults (s : State) : (sweepFaults s).conditionMask = s.conditionMask := by
  obtain ⟨x, swept⟩ := sweepFaults_cases s
  rw [swept]
  exact faultMask_congr fun e => by cases e <;> rfl

/-- Outside READY and RUN an event's end takes out of the entries that are pending those that are taken with their condition gone, and
touches nothing else of the collector (R183). -/
theorem faults_closeEvent {s : State} (outside : s.line.state.granted = false) :
    (closeEvent s).faults.taken = s.faults.taken ∧ (closeEvent s).faults.enable = s.faults.enable ∧
      (closeEvent s).faults.pending = s.faults.pending &&& (~~~ s.faults.taken ||| (closeEvent s).conditionMask) := by
  let x := payGrants (driveStage (s.withStore s.storeAtEnd))
  have paid : x.faults = s.faults := (payGrants_same _).faults.trans (driveStage_same (s.withStore s.storeAtEnd)).faults
  obtain ⟨out, swept⟩ := sweepFaults_eq x
  rw [closeEvent_outside outside, conditionMask_sweepFaults, swept, ← paid]
  exact ⟨rfl, rfl, rfl⟩

/-- Settles O38: the entry into COLD asks for nothing, and what ends the event brings the demands to 0, carries a pending commit out and
sweeps the collector. -/
theorem clearLockoutReturnsToCold : Obligations.ClearLockoutReturnsToCold := by
  intro src dst tag s c write lockout noTrip
  let a := flushTransit (arrived s)
  let u := enterLine .cold a
  have taken : (arrived s).line.state = .lockout ∧ (arrived s).tripCondition = false := ⟨lockout, noTrip⟩
  have line : u.line = { s.line with state := .cold, purge := none, settle := none, cooldown := none } := enterLine_line .cold a
  have planner : u.planner = { s.planner with ceiling := 0, grantRow := none } := enterLine_planner .cold a
  have stack : u.stack = s.stack := enterLine_stack .cold a
  have only := onlyChanges_enterLine .cold a
  have store : u.store = s.store := only .store (by simp)
  have faults : u.faults = s.faults := only .faults (by simp)
  have outside : u.line.state.granted = false := by rw [line]; rfl
  have work : Work (arrived s) u := work_enterCold (arrived s)
  obtain ⟨t, carries, judged, changes, stored, params⟩ := line_carried (c := c) (u := u) rfl write (if_pos taken) rfl
    work.undisturbed.link work.undisturbed.loss outside
  have cold : t.line.state = .cold := by rw [changes .line (by simp)]; exact congrArg Line.state line
  have output : outputFollows u := work.outputFollows (by
    obtain ⟨_, _, taken, _⟩ := write
    exact atRest_output (atRest_arrived taken.rest))
  have closed : Closed t := judged.closed (closed_closeEvent output)
  obtain ⟨kept, enabled, pending⟩ := faults_closeEvent outside
  rw [← judged.faults, faults] at kept enabled pending
  rw [← judged.mask] at pending
  refine ⟨t, carries, cold, (changes .transit (by simp)).trans (enterLine_transit .cold a),
    params.trans (params_enterLine .cold a), ?_, drives_cold closed.drives cold, kept, enabled, pending, ?_,
    (changes .planner (by simp)).trans planner, (changes .stack (by simp)).trans stack, fun due plan empty => ?_, fun idle => ?_⟩
  · rw [changes .supervisor (by simp)]
    exact (congrArg Supervisor.permit (enterLine_supervisor .cold a)).trans (entered_permit _ _)
  · exact eq_of_beq (Bool.and_eq_true_iff.mp closed.faults).2
  · have safe : u.safePoint = true := by
      unfold State.safePoint
      rw [line, planner, stack, empty]
      simp [plan]
    rw [stored, storeAtEnd_committed (by rw [store]; exact due) safe, store]
    rfl
  · rw [stored, storeAtEnd_kept (.inl (by rw [store]; exact idle)), store]

/-! ### The entry into HEATUP and the sensor test (R81, R177) -/

/-- The entry into HEATUP before the sensor test. -/
def heatupBegun (s : State) : State := enterLine .heatup (heatupTargets s)

theorem sameReadings_heatupBegun (s : State) : SameReadings s (heatupBegun s) := by
  have readings := sameReadings_enterLine .heatup (heatupTargets s)
  exact ⟨readings.present, readings.zones, readings.params⟩

theorem heatupBegun_line (s : State) :
    (heatupBegun s).line = { s.line with state := .heatup, purge := none, settle := none, cooldown := none } :=
  enterLine_line .heatup (heatupTargets s)

theorem enterHeatup_tested (s : State) : enterHeatup s = sensorTested true (heatupBegun s) := by
  have closed : (heatupBegun s).line.state.permitClosed = true := by rw [heatupBegun_line]; rfl
  rw [enterHeatup_eq, sensorJudged]
  exact congrArg (fun b => sensorTested b (heatupBegun s)) closed

theorem enterHeatup_current {s : State} (h : s.sensorTestFails = false) : enterHeatup s = heatupBegun s := by
  rw [enterHeatup_tested, sensorTested, (sameReadings_heatupBegun s).sensorTestFails, h]
  rfl

theorem enterHeatup_stale {s : State} (h : s.sensorTestFails = true) : enterHeatup s = trip .sensorFail (heatupBegun s) := by
  rw [enterHeatup_tested, sensorTested, (sameReadings_heatupBegun s).sensorTestFails, h]
  rfl

theorem heatupBegun_away (s : State) : ¬ ((heatupBegun s).line.state = .cold ∨ (heatupBegun s).line.state = .lockout) := by
  rw [heatupBegun_line]
  nofun

/-- A trip outside COLD and LOCKOUT moves the line to LOCKOUT (R93). -/
theorem trip_away (e : FaultCode) {s : State} (away : ¬ (s.line.state = .cold ∨ s.line.state = .lockout)) :
    trip e s = enterLine .lockout (flushTransit (discardPlan (emptyStack (raiseFault e s)))) :=
  tripLine_else (s := raiseFault e s) away

theorem loss_enterLine (l : LineState) (s : State) :
    s.sat.insertLoss.toNat ≤ (enterLine l s).sat.insertLoss.toNat := by
  rw [enterLine_sat]
  exact (work_grantAtEntry l s).undisturbed.loss

/-- What the entry into HEATUP leaves, in HEATUP and, where the sensor test trips the line, in LOCKOUT alike. -/
structure HeatupEntered (s u : State) : Prop where
  only : OnlyChanges [.outlet, .sat, .channels, .line, .planner, .zones, .circuits, .transit, .stack, .supervisor, .faults] s u
  loss : s.sat.insertLoss.toNat ≤ u.sat.insertLoss.toNat
  outside : u.line.state.granted = false
  busy : u.safePoint = false
  grantRow : u.planner.grantRow = none
  ceiling : u.planner.ceiling = 0
  target : u.planner.target = 0
  zonesPresent : u.line.zonesPresent = s.line.zonesPresent
  stack : s.stack = [] → u.stack = []

theorem heatupEntered_begun (s : State) : HeatupEntered s (heatupBegun s) := by
  have line := heatupBegun_line s
  have planner : (heatupBegun s).planner = { (heatupTargets s).planner with ceiling := 0, grantRow := none } :=
    enterLine_planner .heatup (heatupTargets s)
  exact
    { only := ((onlyChanges_withPlanner s _).trans (onlyChanges_enterLine .heatup (heatupTargets s))).mono (by simp)
      loss := loss_enterLine .heatup (heatupTargets s)
      outside := by rw [line]; rfl
      busy := by unfold State.safePoint; rw [line]; rfl
      grantRow := by rw [planner]
      ceiling := by rw [planner]
      target := by rw [planner]; rfl
      zonesPresent := by rw [line]
      stack := fun empty => (enterLine_stack .heatup (heatupTargets s)).trans empty }

/-- A trip where the entry into HEATUP has begun. -/
theorem HeatupEntered.trip {s u : State} (h : HeatupEntered s u) (e : FaultCode)
    (away : ¬ (u.line.state = .cold ∨ u.line.state = .lockout)) : HeatupEntered s (trip e u) := by
  let v := flushTransit (discardPlan (emptyStack (raiseFault e u)))
  have entered : Machine.trip e u = enterLine .lockout v := trip_away e away
  have line : (enterLine .lockout v).line = { u.line with state := .lockout, purge := none, settle := none, cooldown := none } :=
    enterLine_line .lockout v
  have planner : (enterLine .lockout v).planner = { u.planner with plan := none, ceiling := 0, grantRow := none } :=
    enterLine_planner .lockout v
  rw [entered]
  exact
    { only := (((((h.only.trans (onlyChanges_withFaults u _)).trans (onlyChanges_withStack _ [])).trans
        (onlyChanges_withPlanner _ _)).trans (onlyChanges_withTransit _ [])).trans (onlyChanges_enterLine .lockout v)).mono (by simp)
      loss := h.loss.trans (loss_enterLine .lockout v)
      outside := by rw [line]; rfl
      busy := by unfold State.safePoint; rw [line]; rfl
      grantRow := by rw [planner]
      ceiling := by rw [planner]
      target := by rw [planner]; exact h.target
      zonesPresent := by rw [line]; exact h.zonesPresent
      stack := fun _ => enterLine_stack .lockout v }

theorem heatupEntered_enterHeatup (s : State) : HeatupEntered s (enterHeatup s) := by
  cases test : s.sensorTestFails
  · rw [enterHeatup_current test]
    exact heatupEntered_begun s
  · rw [enterHeatup_stale test]
    exact (heatupEntered_begun s).trip _ (heatupBegun_away s)

/-- Settles O37: the stack is emptied, HEATUP is entered, and the sensor test of the readings as they were decides. -/
theorem restartHeatsUpAgain : Obligations.RestartHeatsUpAgain := by
  intro src dst tag s c write brk inactive
  let a := emptyStack (arrived s)
  let u := enterHeatup a
  have entered : HeatupEntered a u := heatupEntered_enterHeatup a
  have taken : (arrived s).line.state = .brk ∧ breaksInactive (arrived s) = true := ⟨brk, breaksInactive_iff.mpr inactive⟩
  obtain ⟨t, carries, judged, changes, stored, params⟩ := line_carried (c := c) (u := u) rfl write (if_pos taken) rfl
    (entered.only .link (by simp)) entered.loss entered.outside
  have line : t.line = u.line := changes .line (by simp)
  have planner : t.planner = u.planner := changes .planner (by simp)
  refine ⟨t, carries, (changes .stack (by simp)).trans (entered.stack rfl), ?_, ?_, ?_,
    params.trans (congrArg Agent.params (entered.only .agent (by simp))), ?_, ?_, fun current => ?_, fun stale => ?_⟩
  · rw [planner]; exact entered.grantRow
  · rw [planner]; exact entered.ceiling
  · rw [planner]; exact entered.target
  · rw [stored, storeAtEnd_kept (.inr entered.busy)]
    exact entered.only .store (by simp)
  · rw [line]; exact entered.zonesPresent
  · rw [line]
    have begun : u = heatupBegun a := enterHeatup_current current
    rw [begun, heatupBegun_line]
  · have tripped : u = trip .sensorFail (heatupBegun a) := enterHeatup_stale stale
    refine ⟨?_, ?_⟩
    · rw [line, tripped, trip_away _ (heatupBegun_away a), enterLine_line]
    · rw [judged.faults]
      refine Raised.closed entered.outside ?_
      rw [tripped]
      exact raised_trip _ _

end Sys2Proof.Machine

/-!
SUPPORT. The purge test, what HEATUP gives the zones and circuits, and the presence set of a START; and the statements about the purge
timer and START.
-/

namespace Sys2Proof.Machine

-- One proof after the other: side by side with the text above, their threads need more memory than the check allows.
set_option Elab.async false

/-! ### The purge timer's expiry (R79, R81, R131) -/

theorem purgeTest_iff {s : State} :
    s.purgeTest = true ↔ ∀ z, s.present z = true → s.confirmedOf (.airflow z) = some .active := by
  unfold State.purgeTest
  rw [List.all_eq_true]
  refine ⟨fun h z present => ?_, fun h z _ => ?_⟩
  · simpa [present] using h z (mem_zones z)
  · cases present : s.present z
    · rfl
    · simp [h z present]

/-- The record of a zone that the entry into HEATUP gives targets `x` (R130, R131). -/
structure HeatupZone (p : Params) (x : ZoneTargets) (r q : ZoneRec) : Prop where
  trim : q.trim = 0
  ignition : q.ignition = .igniting
  timer : q.ignitionTimer = some (seconds p.ignitionTime)
  current : q.current = min 4000 (max 0 (r.air.reading.getD 0))
  target : q.target = x.air
  feedforward : q.feedforward = x.feedforward
  ramp : q.ramp = x.ramp
  burner : q.burner = min 1000 (max (p.minFire : Int) q.feedforward)

theorem heatupZone_entered (p : Params) (x : ZoneTargets) (r : ZoneRec) : HeatupZone p x r (r.entered p .heatup x) := by
  refine ⟨rfl, rfl, rfl, rfl, rfl, rfl, rfl, ?_⟩
  show min 1000 (max (p.minFire : Int) (x.feedforward + 0)) = min 1000 (max (p.minFire : Int) x.feedforward)
  rw [Int.add_zero]

/-- With a row 0 the in-force set is taken from it (R81). -/
theorem heatupTargets_row {s : State} {r : Row} {rs : List Row} (rows : s.store.active = r :: rs) :
    (heatupTargets s).planner.inForce = s.planner.inForce.fromRow r := by
  unfold heatupTargets
  rw [rows]
  rfl

/-- The zones that a row names take its values (R100). -/
theorem fromRow_zone {f : InForce} {r : Row} {z : Zone} {x : ZoneRow} (named : r.zones.get z = some x) :
    (f.fromRow r).zones.get z = { fan := x.fan, air := x.air, feedforward := x.feedforward, ramp := r.ramp } := by
  unfold InForce.fromRow
  rw [PerZone.get_map, named]

/-- Settles O39: the expiry's work stops the timer, or enters HEATUP with the sensor test of the readings as they are. -/
theorem purgeEndsInHeatup : Obligations.PurgeEndsInHeatup := by
  intro s r rs rest _ due rows test
  have done : exec .purgeTimerExpiry s = .next (finish (purgeWork s)) :=
    congrArg Host.Outcome.next (whenDue_due (by rw [due]; rfl))
  have enters : test → purgeWork s = enterHeatup s := fun h => if_pos (purgeTest_iff.mpr h)
  have entered := heatupEntered_enterHeatup s
  have ends := onlyChanges_finish entered.outside
  refine ⟨_, done, fun fails => ?_, fun passes stale => ?_, fun passes current => ?_⟩
  · let w := s.withLine { s.line with purge := none }
    have stops : purgeWork s = w := if_neg fun h => fails (purgeTest_iff.mp h)
    have wRest : w.atRest = true := atRest_withLine rest rfl rfl rfl
    rw [stops, finish_atRest wRest]
    exact ⟨onlyChanges_withLine s _, rfl⟩
  · have lockout := lockedOut_finish (s := raiseFault .sensorFail (heatupBegun s)) (heatupBegun_away s)
    have tripped : purgeWork s = tripLine (raiseFault .sensorFail (heatupBegun s)) :=
      (enters passes).trans (enterHeatup_stale stale)
    rw [tripped, lockout.line, lockout.supervisor]
    exact ⟨rfl, rfl⟩
  · have begun := enterHeatup_current current
    rw [enters passes]
    have line : (finish (enterHeatup s)).line =
        { s.line with state := .heatup, purge := none, settle := none, cooldown := none } := by
      rw [ends .line (by simp), begun, heatupBegun_line]
    have supervisor : (finish (enterHeatup s)).supervisor.permit = true := by
      rw [ends .supervisor (by simp), begun, heatupBegun, enterLine_supervisor]
      rfl
    have planner : (finish (enterHeatup s)).planner = (enterHeatup s).planner := ends .planner (by simp)
    have inForce : (enterHeatup s).planner.inForce = s.planner.inForce.fromRow r := by
      rw [begun, heatupBegun, enterLine_planner]
      exact heatupTargets_row rows
    refine ⟨by rw [line], by rw [line], by rw [line], supervisor, planner ▸ entered.target, planner ▸ inForce,
      planner ▸ entered.grantRow, planner ▸ entered.ceiling, fun z present => ?_, fun k present => ?_⟩
    · have zone : (finish (enterHeatup s)).zones.get z =
          (s.zones.get z).entered s.loopParams .heatup ((s.planner.inForce.fromRow r).zones.get z) := by
        rw [ends .zones (by simp), begun, heatupBegun, zone_enterLine, heatupTargets_row rows]
        exact if_pos present
      obtain ⟨trim, ignition, timer, first, target, feedforward, ramp, burner⟩ :=
        heatupZone_entered s.loopParams ((s.planner.inForce.fromRow r).zones.get z) (s.zones.get z)
      rw [zone]
      refine ⟨trim, ignition, timer, first, fun x named => ?_, burner⟩
      rw [fromRow_zone named] at target feedforward ramp ⊢
      exact ⟨target, feedforward, ramp⟩
    · rw [ends .circuits (by simp), begun, heatupBegun, circuit_enterLine, heatupTargets_row rows,
        if_pos (show (heatupTargets s).circuitPresent k = true from present)]
      exact ⟨rfl, rfl⟩

/-! ### START (R27, R77, R78) -/

/-- A confirmed state is read from no drive record. -/
theorem Steady.confirmedOf {s t : State} (h : Steady s t) (r : Role) : t.confirmedOf r = s.confirmedOf r := by
  have read : ∀ u : State, u.confirmedOf r =
      (findRole r 0 (u.channels.map Entry.undriven)).map fun p => (p.2.level.map LevelRec.confirmed).getD .unknown := fun u => by
    rw [findRole_undriven, Option.map_map]
    rfl
  rw [read, read, h.channels]

theorem onlyChanges_fixPresence (s : State) : OnlyChanges [.line, .zones, .circuits, .supervisor] s (fixPresence s) :=
  (((onlyChanges_withLine s _).trans (onlyChanges_withZones _ _)).trans (onlyChanges_withCircuits _ _)).trans
    (onlyChanges_withSupervisor _ _)

/-- The presence set of a START: the zones and circuits with every role mapped (R27). -/
theorem fixPresence_present (s : State) :
    (∀ z, (fixPresence s).present z = s.complete (zoneRoles z)) ∧
      ∀ c, (fixPresence s).circuitPresent c = s.complete (circuitRoles c) :=
  ⟨fun z => PerZone.get_map _ _ z, fun c => PerCircuit.get_map _ _ c⟩

/-- What the entry into PURGE leaves of the line: the purge timer runs where the purge test passes (R78). -/
theorem enterPurge_line (s : State) :
    (enterPurge s).line =
      { s.line with
        state := .purge
        purge := if s.purgeTest then some (seconds s.params.purgeTime) else none
        settle := none
        cooldown := none } := by
  let v := enterLine .purge s
  have line : v.line = { s.line with state := .purge, purge := none, settle := none, cooldown := none } := enterLine_line .purge s
  have test : v.purgeTest = s.purgeTest := by
    unfold State.purgeTest
    simp only [(sameReadings_enterLine .purge s).present, (steady_enterLine .purge s).confirmedOf, v]
  show (purgeJudged v).line = _
  unfold purgeJudged
  dsimp only
  rw [State.withLine_line, test, line, params_enterLine]
  rfl

/-- A START that passes every check (R27, R71, R77). -/
theorem startFault_none {s : State} {r : Row} {rs : List Row} (noTrip : s.tripCondition = false) (whole : MapWhole s)
    (exhaust : s.mapped .exhaust = true) (speed : s.mapped .speed = true) (position : s.mapped .position = true)
    (zone : ∃ z, s.complete (zoneRoles z) = true) (rows : s.store.active = r :: rs)
    (used : ∀ z, s.complete (zoneRoles z) = true → r.uses z = true) : startFault s = none := by
  have some : (Zone.all.any fun z => s.complete (zoneRoles z)) = true :=
    let ⟨z, all⟩ := zone
    List.any_eq_true.mpr ⟨z, mem_zones z, all⟩
  have map : mapFault s = none := by simp [mapFault_whole whole, exhaust, speed, position, some]
  have masked : (Zone.all.find? fun z => s.complete (zoneRoles z) && !r.uses z) = none :=
    List.find?_eq_none.mpr fun z _ => by
      cases all : s.complete (zoneRoles z)
      · simp
      · simp [used z all]
  simp [startFault, noTrip, map, startTableFault, rows, masked]

/-- Settles O35: the presence set is fixed, and PURGE, which is no safe point, is entered with the purge test made. -/
theorem startEntersPurge : Obligations.StartEntersPurge := by
  intro src dst tag s r rs c all6 all2 write state noTrip zones circuits exhaust speed position zone rows used
  let f := fixPresence (arrived s)
  let u := enterPurge f
  have complete : ∀ z, s.complete (zoneRoles z) = true ↔ all6 z := fun z => complete_iff
  have passes : startFault (arrived s) = none :=
    startFault_none (s := s) noTrip ⟨fun z => complete_of_some (zones z), fun k => complete_of_some (circuits k)⟩ exhaust speed
      position (zone.imp fun z => (complete z).mpr) rows fun z all => used z ((complete z).mp all)
  have body : startBody (arrived s) = linePlain .done u := by
    unfold startBody
    rw [if_pos (show (arrived s).line.state = .cold ∨ (arrived s).line.state = .cooldown from state), passes]
  obtain ⟨zonePresent, circuitPresent⟩ := fixPresence_present (arrived s)
  have line := enterPurge_line f
  have outside : u.line.state.granted = false := by rw [line]; rfl
  have busy : u.safePoint = false := by unfold State.safePoint; rw [line]; rfl
  have only : OnlyChanges [.line, .zones, .circuits, .supervisor, .planner, .outlet, .sat, .channels] (arrived s) u :=
    (((onlyChanges_fixPresence (arrived s)).trans (onlyChanges_enterLine .purge f)).trans (onlyChanges_withLine _ _)).mono (by simp)
  have work : Work (arrived s) u := (work_fixPresence (arrived s)).trans (work_enterPurge f)
  obtain ⟨t, carries, _, changes, stored, params⟩ := line_carried (c := c) (u := u) rfl write body rfl work.undisturbed.link
    work.undisturbed.loss outside
  have kept : t.store = u.store := stored.trans (storeAtEnd_kept (.inr busy))
  have tested : f.purgeTest = true ↔ ∀ z, all6 z → s.confirmedOf (.airflow z) = some .active := by
    rw [purgeTest_iff]
    refine forall_congr' fun z => ?_
    rw [zonePresent]
    exact imp_congr_left (complete z)
  have paramsKept : f.params = s.params := rfl
  have lineKept : t.line = u.line := changes .line (by simp)
  have presentKept : ∀ z, t.present z = f.present z := fun z => by unfold State.present; rw [lineKept, line]
  have circuitKept : ∀ k, t.circuitPresent k = f.circuitPresent k := fun k => by unfold State.circuitPresent; rw [lineKept, line]
  refine ⟨t, carries, (((onlyChanges_arrived s).trans only).trans (changes.except kept)).mono (by simp),
    params.trans work.undisturbed.params, ?_, fun z => ?_, fun k => ?_, ?_, ?_, ?_, ?_, ?_, fun active => ?_, fun ⟨z, all, still⟩ => ?_⟩
  · rw [lineKept, line]
  · rw [presentKept, zonePresent]
    exact complete z
  · rw [circuitKept, circuitPresent]
    exact complete_iff
  · rw [lineKept, line]
    rfl
  · rw [lineKept, line]
  · rw [lineKept, line]
  · rw [changes .supervisor (by simp)]
    exact (congrArg Supervisor.permit (enterLine_supervisor .purge f)).trans (entered_permit _ _)
  · exact (changes .planner (by simp)).trans (enterLine_planner .purge f)
  · rw [lineKept, line]
    exact (if_pos (tested.mpr active)).trans (by rw [paramsKept]; rfl)
  · rw [lineKept, line]
    exact if_neg fun h => still (tested.mp h z all)

end Sys2Proof.Machine

/-!
SUPPORT. The entry into READY at the settle timer's expiry: its grant, the pushes that may follow it, and a commit that falls due in
READY; and the statement about the settle timer.
-/

namespace Sys2Proof.Machine

-- One proof after the other: side by side with the text above, their threads need more memory than the check allows.
set_option Elab.async false

/-- The line record, the grant row and the permit are the same. -/
structure SameReady (s t : State) : Prop where
  line : t.line = s.line
  grantRow : t.planner.grantRow = s.planner.grantRow
  permit : t.supervisor.permit = s.supervisor.permit

theorem SameReady.refl (s : State) : SameReady s s := ⟨rfl, rfl, rfl⟩

theorem SameReady.trans {s t u : State} (h : SameReady s t) (k : SameReady t u) : SameReady s u :=
  ⟨k.line.trans h.line, k.grantRow.trans h.grantRow, k.permit.trans h.permit⟩

theorem SameReady.ite {s t u : State} {c : Prop} [Decidable c] (h : SameReady s t) (k : SameReady s u) :
    SameReady s (if c then t else u) := by split <;> assumption

theorem Calm.sameReady {s t : State} (h : Calm s t) : SameReady s t :=
  ⟨h.line, congrArg Planner.grantRow h.planner, congrArg Supervisor.permit h.supervisor⟩

theorem SameJudged.sameReady {s t : State} (h : SameJudged s t) : SameReady s t :=
  ⟨h.line, congrArg Planner.grantRow h.planner, congrArg Supervisor.permit h.supervisor⟩

theorem sameReady_push (c : Cause) (s : State) : SameReady s (push c s) :=
  have ⟨line, _, supervisor⟩ := push_rest c s
  ⟨line, (push_planner c s).1, congrArg Supervisor.permit supervisor⟩

theorem sameReady_lelWarning (s : State) : SameReady s (lelWarning s) :=
  have held : SameReady s (s.withSupervisor { s.supervisor with reliefHeld := true, clearTimer := none }) := ⟨rfl, rfl, rfl⟩
  (held.trans (calm_raiseFault _ _).sameReady).trans (sameReady_push _ _)

theorem sameReady_masterAtReady (s : State) : SameReady s (masterAtReady s) := (sameReady_push _ s).ite (.refl s)

theorem sameReady_boundCeiling (b : Int) (s : State) : SameReady s (boundCeiling b s) :=
  have lowered : SameReady s (s.withPlanner { s.planner with ceiling := b }) := ⟨rfl, rfl, rfl⟩
  (lowered.trans (calm_sendUnasked _ _).sameReady).ite (.refl s)

theorem sameReady_commitReady (r : Row) (s : State) : SameReady s (commitReady r s) := by
  let u := flushTransit (s.withPlanner { s.planner with inForce := s.planner.inForce.fromRow r })
  have flushed : SameReady s u := ⟨rfl, rfl, rfl⟩
  have loops : Calm u (forCircuits (fun c => setSetpoint c (r.chill.get c)) (forZones (zoneFromRow r) u)) :=
    (calm_forZones _ (calm_zoneFromRow r) u).trans (calm_forCircuits _ (fun c w => calm_setSetpoint c _ w) _)
  exact (flushed.trans loops.sameReady).trans (sameReady_boundCeiling _ _)

/-- A commit that falls due in READY moves neither the line nor the grant row (R68). -/
theorem sameReady_settleStore {s : State} (ready : s.line.state = .ready) : SameReady s (settleStore s) := by
  have stored : ∀ x, SameReady s (s.withStore x) := fun _ => ⟨rfl, rfl, rfl⟩
  refine SameReady.ite ?_ (.refl s)
  cases shadow : s.store.shadow with
  | nil =>
    have nothing : carryOut s = s.withStore { s.store with active := s.store.shadow, status := .done } := by
      unfold carryOut
      dsimp only
      rw [State.withStore_line, ready, State.withStore_store, shadow]
    rw [nothing]
    exact stored _
  | cons r rs =>
    rw [carryOut_ready ready shadow]
    exact (stored _).trans (sameReady_commitReady r _)

theorem sameReady_finish {s : State} (ready : s.line.state = .ready) : SameReady s (finish s) :=
  ((sameReady_settleStore ready).trans
    (((calm_driveStage _).trans (calm_payGrants _)).trans (calm_sweepFaults _)).sameReady).trans
    (sameJudged_arbitrate _).sameReady

/-! ### The entry into READY (R83) -/

/-- READY entered with its grant set, before the GRANT that says so. -/
def readyGranted (s : State) : State :=
  (enterLine .ready s).withPlanner { s.planner with ceiling := s.params.crawlSpeed, grantRow := some 0 }

/-- The warning of a present zone stands. -/
def State.warned (s : State) : Bool := Zone.all.any fun z => s.present z && (s.supervisor.flags.get z).warn

theorem readyFromHeatup_eq (s : State) :
    readyFromHeatup s =
      masterAtReady (if s.warned then lelWarning (sendUnasked .granted (readyGranted s))
        else sendUnasked .granted (readyGranted s)) := by
  let u := sendUnasked .granted (readyGranted s)
  have calm := calm_sendUnasked .granted (readyGranted s)
  have line : u.line = (enterLine .ready s).line := calm.line
  have supervisor : u.supervisor = s.supervisor.entered .ready := calm.supervisor.trans (enterLine_supervisor .ready s)
  have warned : u.warned = s.warned := by
    unfold State.warned State.present
    rw [line, supervisor, enterLine_line]
    rfl
  unfold readyFromHeatup
  dsimp only
  rw [params_enterLine, enterLine_planner, ← warned]
  rfl

/-- A MASTER_LOST push sends nothing (R155). -/
theorem outlet_push_masterLost (s : State) : (push .masterLost s).outlet = s.outlet := by
  unfold push
  repeat' split
  all_goals rfl

theorem masterAtReady_leaves (s : State) :
    (masterAtReady s).outlet = s.outlet ∧ s.sat.insertLoss.toNat ≤ (masterAtReady s).sat.insertLoss.toNat ∧
      (s.planner.plan = none → (masterAtReady s).planner = s.planner) := by
  refine ⟨?_, (work_masterAtReady s).undisturbed.loss, fun plan => ?_⟩ <;> unfold masterAtReady <;> split
  · exact outlet_push_masterLost s
  · rfl
  · rcases push_masterLost_planner s with same | discarded
    · exact same
    · rw [discarded, ← plan]
  · rfl

/-- Settles O40: READY is entered with its grant; what may follow in the event are pushes and a commit, which move neither. -/
theorem settleEndsInReady : Obligations.SettleEndsInReady := by
  intro s _ heatup due plan
  let g := readyGranted s
  let u := sendUnasked .granted g
  have done : exec .settleTimerExpiry s = .next (finish (readyFromHeatup s)) :=
    congrArg Host.Outcome.next (whenDue_due (by rw [due, heatup]; rfl))
  have line : g.line = { s.line with state := .ready, purge := none, settle := none, cooldown := none } := enterLine_line .ready s
  have permit : g.supervisor.permit = true :=
    (congrArg Supervisor.permit (enterLine_supervisor .ready s)).trans (entered_permit .ready _)
  have entered : SameReady g (readyFromHeatup s) := by
    rw [readyFromHeatup_eq]
    exact ((calm_sendUnasked .granted g).sameReady.trans ((sameReady_lelWarning u).ite (.refl u))).trans (sameReady_masterAtReady _)
  have kept : SameReady g (finish (readyFromHeatup s)) := entered.trans (sameReady_finish (by rw [entered.line, line]))
  refine ⟨_, done, by rw [kept.line, line], kept.grantRow, by rw [kept.line, line], kept.permit.trans permit, fun calm idle => ?_⟩
  have quiet : s.warned = false :=
    List.any_eq_false.mpr fun z _ => by
      cases present : s.present z
      · simp
      · simp [calm z present]
  have ends : readyFromHeatup s = masterAtReady u := by
    rw [readyFromHeatup_eq, quiet]
    rfl
  obtain ⟨outlet, loss, planner⟩ := masterAtReady_leaves u
  have store : (masterAtReady u).store = s.store := by
    rw [← ends]
    exact (steady_readyFromHeatup s).store
  have settled : storeSettled (masterAtReady u) = true := by simp [storeSettled, store, idle]
  have sent : u.planner = g.planner := (calm_sendUnasked .granted g).planner
  have waits : WaitsOrLost (g.grantFrame .granted g.planner.lastTag) s u :=
    waitsOrLost_sendUnasked .granted (loss_enterLine .ready s)
  have frame : g.grantFrame .granted g.planner.lastTag =
      .grant s.outlet.dest.address s.planner.lastTag s.params.crawlSpeed .granted := by
    have entering : g.outlet = s.outlet := enterLine_outlet .ready s
    unfold State.grantFrame
    rw [entering]
    rfl
  rw [frame] at waits
  have paid : grantsPaid (masterAtReady u) = true := by
    unfold grantsPaid
    rw [outlet]
    exact grantsPaid_sendUnasked .granted g
  rw [ends]
  refine ⟨?_, ?_⟩
  · have closes := (onlyChanges_closeEvent_settled settled).trans (outletAlone_arbitrate (closeEvent (masterAtReady u))).onlyChanges
    exact (closes .planner (by simp)).trans ((planner (sent ▸ plan)).trans sent)
  · have later : WaitsOrLost _ s (masterAtReady u) := waits.later (fun h => by rwa [outlet]) loss
    rw [finish, closeEvent, settleStore_of_settled settled]
    exact later.ended rfl paid

end Sys2Proof.Machine

/-!
SUPPORT. A plan whose head step stands as DONE fires it all the same: the statement about the ceiling and the grant row's band.
-/

namespace Sys2Proof.Machine

-- One proof after the other: side by side with the text above, their threads need more memory than the check allows.
set_option Elab.async false

/-! ### A head step that is DONE (R98, R106) -/

/-- A row that ends at 10.0 m/min, in use in zone 1. -/
def slowRow : Row :=
  { low := 0, high := 100, exhaust := 0, chill := ⟨50, 50⟩, ramp := 1, soak := 0, lead := 0, zones := ⟨some ⟨0, 0, 0⟩, none, none, none⟩ }

/-- A RUNNING plan with its one step, a GRANT above that row's band, DONE and head still. -/
def repeatingPlan : Plan :=
  { origin := .asked, ordering := .raise, request := some ⟨1000, 0⟩, target := 0, frozen := false
    steps := [{ kind := .grant 1000 0, trigger := .after 0, done := true }], head := 0, headTimer := 0, clock := none, readyLimit := 0 }

/-- The line in RUN with that table and that plan, whose head is due. -/
def repeating : State :=
  { State.reset with
    store := { active := [slowRow], shadow := [], status := .none }
    line := { State.reset.line with state := .run }
    planner := { Planner.init with grantRow := some 0, plan := some repeatingPlan }
    supervisor := { State.reset.supervisor with permit := true }
    pending := [.headTimerAfter] }

theorem lineSound_repeating : LineSound repeating where
  permit := rfl
  grant := rfl
  ceiling := nofun
  plan _ := rfl
  purge := nofun
  settle := nofun
  cooldown := nofun
  stack k := absurd rfl k

theorem storeSound_repeating : StoreSound repeating := ⟨.inr (by decide), nofun⟩

/-- What the invariant asks of GRANT steps it asks of WAITING ones. -/
theorem grantSound_repeating : GrantSound repeating where
  within g row := by
    cases row
    exact ⟨slowRow, rfl, by decide⟩
  ready := nofun
  table _ := nofun
  plan p t v j plan step waiting := by
    cases plan
    cases List.mem_singleton.mp step
    cases waiting

/-- The step sets the ceiling to the speed of the step that was DONE. -/
theorem step_repeating :
    ∃ t, step repeating = .next t ∧ t.planner.grantRow = some 0 ∧ t.store.active = [slowRow] ∧ t.planner.ceiling = 1000 :=
  ⟨_, rfl, by decide +kernel⟩

/-- Refutes O47: the invariant bounds the speeds of WAITING GRANT steps alone, and the head's firing reads no status, so a plan whose
head is DONE already sets a ceiling above the grant row's band. The order of a plan's steps, which rules such a plan out, is no
premise of the statement. -/
theorem not_ceilingStaysWithinTheGrantRow : ¬ Obligations.CeilingStaysWithinTheGrantRow := by
  intro h
  obtain ⟨t, stepped, row, table, ceiling⟩ := step_repeating
  obtain ⟨r, found, within⟩ :=
    (h repeating t lineSound_repeating storeSound_repeating grantSound_repeating stepped).within 0 row
  rw [table] at found
  cases found
  rw [ceiling] at within
  exact absurd within (by decide)

end Sys2Proof.Machine

/-!
SUPPORT. A millisecond of the part's clock: the expiries that fall due, that each joins the queue once, and the statement about the
millisecond.
-/

namespace Sys2Proof.Machine

-- One proof after the other: side by side with the text above, their threads need more memory than the check allows.
set_option Elab.async false

/-! ### The order of coincident expiries (log 3) -/

/-- The free order neither loses an expiry nor doubles one. -/
theorem arrange_perm (k n : Nat) (l : List Instr) : (arrange k n l).Perm l := by
  induction k generalizing n l with
  | zero => exact .refl l
  | succ k ih =>
    match l with
    | [] => exact .refl []
    | [i] => exact .refl [i]
    | i :: j :: l =>
      let all := i :: j :: l
      let place := Config.pickExpiry n % all.length
      have inside : place < all.length := Nat.mod_lt _ (Nat.succ_pos _)
      have picked : all.getD place i = all[place] := List.getD_eq_getElem _ _ inside
      show (all.getD place i :: arrange k (n + 1) (all.eraseIdx place)).Perm all
      rw [picked]
      exact ((ih _ _).cons _).trans (List.getElem_cons_eraseIdx_perm inside)

/-! ### What falls due -/

theorem timerDue_iff {x : Timer} : timerDue x = true ↔ x = some 0 := beq_iff_eq

theorem due250_iff {k : Tracker} :
    due250 k = true ↔ (k.state = .locked ∧ ∃ a, k.age = some a ∧ 250 ≤ a) ∨ (k.state = .acquiring ∧ k.age = some 250) := by
  unfold due250
  cases k.state <;> cases k.age <;> simp <;> rfl

theorem due1000_iff {k : Tracker} : due1000 k = true ↔ k.state = .stale ∧ ∃ a, k.age = some a ∧ 1000 ≤ a := by
  unfold due1000
  cases k.state <;> cases k.age <;> simp <;> rfl

theorem runningHead_iff {s : State} {p : Plan} {g : Trigger} : runningHead s = some (p, g) ↔ HeadIs p g s := by
  unfold runningHead HeadIs
  cases s.planner.plan with
  | none => simp
  | some q =>
    dsimp only
    constructor
    · intro h
      split at h
      · cases h
      · rename_i running
        obtain ⟨x, head, pair⟩ := Option.map_eq_some_iff.mp h
        cases pair
        exact ⟨rfl, Bool.not_eq_true _ ▸ running, x, head, rfl⟩
    · rintro ⟨same, running, x, head, rfl⟩
      cases same
      rw [running, head]
      rfl

theorem afterDue_iff {s : State} :
    afterDue s = true ↔ ∃ p d, HeadIs p (.after d) s ∧ 100 * d ≤ p.headTimer := by
  simp only [← runningHead_iff]
  unfold afterDue
  split
  · simp_all <;> rfl
  · simp_all

theorem soakDue_iff {s : State} :
    soakDue s = true ↔ ∃ p soak c, HeadIs p (.whenReady soak) s ∧ p.clock = some c ∧ 100 * soak ≤ c := by
  simp only [← runningHead_iff]
  unfold soakDue
  split
  · rename_i p soak head
    cases clock : p.clock <;> simp_all <;> rfl
  · simp_all

theorem slowedDue_iff {s : State} :
    slowedDue s = true ↔ ∃ p v d c, HeadIs p (.whenSlowed v d) s ∧ p.clock = some c ∧ 100 * d ≤ c := by
  simp only [← runningHead_iff]
  unfold slowedDue
  split
  · rename_i p v d head
    cases clock : p.clock <;> simp_all <;> rfl
  · simp_all

theorem stallDue_iff {s : State} :
    stallDue s = true ↔ ∃ p soak, HeadIs p (.whenReady soak) s ∧ p.readyLimit ≤ p.headTimer := by
  simp only [← runningHead_iff]
  unfold stallDue
  split
  · simp_all
  · simp_all

theorem ignitionDue_iff {z : Zone} {s : State} :
    ignitionDue z s = true ↔ (s.zones.get z).ignitionTimer = some 0 ∧ (s.zones.get z).ignition = .igniting := by
  unfold ignitionDue
  rw [Bool.and_eq_true, timerDue_iff, beq_iff_eq]

/-! ### The expiries that join the queue -/

theorem mem_expiryIf {b : Bool} {c i : Instr} : c ∈ expiryIf b i ↔ c = i ∧ b = true := by
  cases b <;> simp [expiryIf]

theorem mem_channelExpiries {ch : Nat} {e : Entry} {c : Instr} :
    c ∈ channelExpiries ch e ↔
      (c = .confirmTimerExpiry (BitVec.ofNat 8 ch) ∧ ∃ r, e.level = some r ∧ r.timer = some 0) ∨
        (c = .refreshTimerExpiry (BitVec.ofNat 8 ch) ∧ ∃ d, e.drive = some d ∧ d.refresh = 0) := by
  unfold channelExpiries
  rw [List.mem_append, mem_expiryIf, mem_expiryIf]
  refine or_congr (and_congr_right fun _ => ?_) (and_congr_right fun _ => ?_)
  · cases e.level <;> simp [timerDue_iff]
  · cases e.drive <;> simp

theorem mem_channelsExpiries {n : Nat} {l : List Entry} {c : Instr} :
    c ∈ channelsExpiries n l ↔ ∃ k e, l[k]? = some e ∧ c ∈ channelExpiries (n + k) e := by
  induction l generalizing n with
  | nil => simp [channelsExpiries]
  | cons x l ih =>
    rw [channelsExpiries, List.mem_append, ih]
    constructor
    · rintro (here | ⟨k, e, found, due⟩)
      · exact ⟨0, x, rfl, here⟩
      · exact ⟨k + 1, e, found, by rwa [← Nat.add_assoc, Nat.add_right_comm]⟩
    · rintro ⟨k, e, found, due⟩
      cases k with
      | zero => cases found; exact .inl due
      | succ k => exact .inr ⟨k, e, found, by rwa [← Nat.add_assoc, Nat.add_right_comm] at due⟩

/-- A channel octet names the channel of its number, where there are no more than 128. -/
theorem entry_octet {s : State} (map : s.channels.length = 128) {ch : Byte} {e : Entry} :
    (∃ k, s.channels[k]? = some e ∧ ch = BitVec.ofNat 8 k) ↔ s.entry ch.toNat = some e := by
  constructor
  · rintro ⟨k, found, rfl⟩
    have small : k < 256 := by
      have := (List.getElem?_eq_some_iff.mp found).1
      omega
    rwa [State.entry, BitVec.toNat_ofNat, Nat.mod_eq_of_lt small]
  · exact fun found => ⟨ch.toNat, found, (BitVec.ofNat_toNat 8 ch).symm ▸ rfl⟩

theorem mem_confirmExpiry {s : State} (map : s.channels.length = 128) {ch : Byte} :
    .confirmTimerExpiry ch ∈ channelsExpiries 0 s.channels ↔ fallsDue s (.confirmTimerExpiry ch) := by
  simp only [mem_channelsExpiries, mem_channelExpiries, Nat.zero_add, Instr.confirmTimerExpiry.injEq, reduceCtorEq, false_and,
    or_false, fallsDue, ← entry_octet map]
  exact ⟨fun ⟨k, e, found, named, r, level, due⟩ => ⟨e, r, ⟨k, found, named⟩, level, due⟩,
    fun ⟨e, r, ⟨k, found, named⟩, level, due⟩ => ⟨k, e, found, named, r, level, due⟩⟩

theorem mem_refreshExpiry {s : State} (map : s.channels.length = 128) {ch : Byte} :
    .refreshTimerExpiry ch ∈ channelsExpiries 0 s.channels ↔ fallsDue s (.refreshTimerExpiry ch) := by
  simp only [mem_channelsExpiries, mem_channelExpiries, Nat.zero_add, Instr.refreshTimerExpiry.injEq, reduceCtorEq, false_and,
    false_or, fallsDue, ← entry_octet map]
  exact ⟨fun ⟨k, e, found, named, d, drive, due⟩ => ⟨e, d, ⟨k, found, named⟩, drive, due⟩,
    fun ⟨e, d, ⟨k, found, named⟩, drive, due⟩ => ⟨k, e, found, named, d, drive, due⟩⟩

theorem mem_zoneExpiries {s : State} {c : Instr} :
    c ∈ Zone.all.flatMap (zoneExpiries s) ↔
      ∃ z, (c = .ignitionTimerExpiry z ∧ ignitionDue z s = true) ∨
        (c = .graceTimerExpiry z ∧ timerDue (s.supervisor.grace.get z) = true) := by
  simp only [List.mem_flatMap, zoneExpiries, List.mem_append, mem_expiryIf, mem_zones, true_and]

/-- Exactly the expiries whose timers stand at their end are due. -/
theorem mem_dueExpiries {s : State} (map : s.channels.length = 128) (c : Instr) : c ∈ dueExpiries s ↔ fallsDue s c := by
  have channel : c ∈ channelsExpiries 0 s.channels → ∃ ch, c = .confirmTimerExpiry ch ∨ c = .refreshTimerExpiry ch := by
    rw [mem_channelsExpiries]
    rintro ⟨k, e, _, due⟩
    exact ⟨_, (mem_channelExpiries.mp due).imp And.left And.left⟩
  simp only [dueExpiries, List.mem_append, mem_expiryIf, mem_zoneExpiries, timerDue_iff, due250_iff, due1000_iff, afterDue_iff,
    soakDue_iff, slowedDue_iff, stallDue_iff, ignitionDue_iff]
  cases c
  case confirmTimerExpiry ch => simp [mem_confirmExpiry map]
  case refreshTimerExpiry ch => simp [mem_refreshExpiry map]
  all_goals
    have outside := mt channel (by simp)
    simp only [outside]
    simp [fallsDue]

/-! ### Lists that ascend by a key -/

/-- The keys of a list ascend, from `a` on and below `b`. -/
structure Ascends {α : Type} (key : α → Nat) (a b : Nat) (l : List α) : Prop where
  pairs : l.Pairwise fun i j => key i < key j
  bounds : ∀ i ∈ l, a ≤ key i ∧ key i < b

section ascends

variable {α : Type} {key : α → Nat} {a b c d : Nat} {l m : List α}

theorem Ascends.nil : Ascends key a b [] := ⟨.nil, nofun⟩

theorem Ascends.single {i : α} (place : key i = a) : Ascends key a (a + 1) [i] := by
  subst place
  refine ⟨List.pairwise_singleton _ _, fun j hj => ?_⟩
  cases List.mem_singleton.mp hj
  exact ⟨le_rfl, Nat.lt_succ_self _⟩

theorem Ascends.nodup (h : Ascends key a b l) : l.Nodup :=
  h.pairs.imp fun lt same => (same ▸ lt).false

theorem Ascends.append (h : Ascends key a b l) (k : Ascends key c d m) (bc : b ≤ c := by decide) (ac : a ≤ c := by decide)
    (bd : b ≤ d := by decide) : Ascends key a d (l ++ m) where
  pairs := List.pairwise_append.mpr
    ⟨h.pairs, k.pairs, fun i hi j hj => (h.bounds i hi).2.trans_le (bc.trans (k.bounds j hj).1)⟩
  bounds i hi := by
    rcases List.mem_append.mp hi with hi | hi
    · exact ⟨(h.bounds i hi).1, (h.bounds i hi).2.trans_le bd⟩
    · exact ⟨ac.trans (k.bounds i hi).1, (k.bounds i hi).2⟩

end ascends

/-! ### Each expiry joins once -/

/-- The place of an expiry among those of one millisecond. -/
def expiryRank : Instr → Nat
  | .ringSilenceExpiry => 0
  | .confirmTimerExpiry ch => 1 + 2 * ch.toNat
  | .refreshTimerExpiry ch => 2 + 2 * ch.toNat
  | .ageTimer250 => 257
  | .ageTimer1000 => 258
  | .purgeTimerExpiry => 259
  | .settleTimerExpiry => 260
  | .cooldownTimerExpiry => 261
  | .controlPeriod => 262
  | .headTimerAfter => 263
  | .soakComplete => 264
  | .slowedDelayExpiry => 265
  | .readyTimeout => 266
  | .ignitionTimerExpiry z => 265 + 2 * zoneNumber z
  | .graceTimerExpiry z => 266 + 2 * zoneNumber z
  | .clearTimerExpiry => 275
  | .supervisionInterval => 276
  | _ => 0

theorem ascends_expiryIf (b : Bool) {i : Instr} {n : Nat} (place : expiryRank i = n) :
    Ascends expiryRank n (n + 1) (expiryIf b i) := by
  cases b
  · exact .nil
  · exact .single place

theorem ascends_channelsExpiries {n : Nat} {l : List Entry} (map : n + l.length ≤ 256) :
    Ascends expiryRank (1 + 2 * n) (1 + 2 * (n + l.length)) (channelsExpiries n l) := by
  induction l generalizing n with
  | nil => exact .nil
  | cons e l ih =>
    rw [List.length_cons] at map ⊢
    have octet : (BitVec.ofNat 8 n).toNat = n := by
      rw [BitVec.toNat_ofNat]
      exact Nat.mod_eq_of_lt (by omega)
    have here : Ascends expiryRank (1 + 2 * n) (1 + 2 * n + 1 + 1) (channelExpiries n e) :=
      (ascends_expiryIf _ (by rw [expiryRank, octet])).append (ascends_expiryIf _ (by rw [expiryRank, octet]; omega))
        le_rfl (by omega) (by omega)
    have rest := ih (n := n + 1) (by omega)
    have places : 1 + 2 * (n + 1 + l.length) = 1 + 2 * (n + (l.length + 1)) := by omega
    rw [places, show 1 + 2 * (n + 1) = 1 + 2 * n + 1 + 1 from rfl] at rest
    exact here.append rest le_rfl (by omega) (by omega)

theorem ascends_zoneExpiries (s : State) : Ascends expiryRank 267 275 (Zone.all.flatMap (zoneExpiries s)) := by
  have zone : ∀ z n, 265 + 2 * zoneNumber z = n → Ascends expiryRank n (n + 1 + 1) (zoneExpiries s z) := fun z n place =>
    (ascends_expiryIf (i := .ignitionTimerExpiry z) _ place).append
      (ascends_expiryIf (i := .graceTimerExpiry z) _ (by rw [expiryRank, ← place]; omega)) le_rfl (Nat.le_succ _) (Nat.le_succ _)
  simp only [Zone.all, List.flatMap_cons, List.flatMap_nil, List.append_nil]
  exact (zone .z1 267 rfl).append ((zone .z2 269 rfl).append ((zone .z3 271 rfl).append (zone .z4 273 rfl)))

/-- No expiry is due twice in one millisecond. -/
theorem nodup_dueExpiries {s : State} (map : s.channels.length = 128) : (dueExpiries s).Nodup := by
  have channels : Ascends expiryRank 1 257 (channelsExpiries 0 s.channels) := by
    have h := ascends_channelsExpiries (n := 0) (l := s.channels) (by omega)
    rwa [map] at h
  have one : ∀ {b : Bool} {i : Instr} (n : Nat), expiryRank i = n → Ascends expiryRank n (n + 1) (expiryIf b i) := fun _ =>
    ascends_expiryIf _
  have whole : Ascends expiryRank 0 277 (dueExpiries s) :=
    ((((((((((((((one 0 rfl).append channels).append (one 257 rfl)).append (one 258 rfl)).append (one 259 rfl)).append
      (one 260 rfl)).append (one 261 rfl)).append (one 262 rfl)).append (one 263 rfl)).append (one 264 rfl)).append
      (one 265 rfl)).append (one 266 rfl)).append (ascends_zoneExpiries s)).append (one 275 rfl)).append (one 276 rfl)
  exact whole.nodup

/-! ### The statement -/

/-- An expiry command whose timer still runs changes nothing (log 2). -/
theorem exec_notDue {c : Instr} {s : State} (h : runOut s c = false) : exec c s = .next s := by
  have idle : whenDue (runOut s c) (expiryWork c) s = s := by rw [h]; rfl
  cases c
  case ringSilenceExpiry | confirmTimerExpiry | refreshTimerExpiry | ageTimer250 | ageTimer1000 | purgeTimerExpiry
    | settleTimerExpiry | cooldownTimerExpiry | controlPeriod | headTimerAfter | soakComplete | slowedDelayExpiry
    | readyTimeout | ignitionTimerExpiry | clearTimerExpiry | graceTimerExpiry | supervisionInterval =>
    exact congrArg Host.Outcome.next idle
  all_goals cases h

/-- The clock puts what falls due behind what waits. -/
theorem pending_tick (s : State) :
    (tick s).pending =
      s.pending ++ arrange (dueExpiries (advanceTimers s)).length s.freeCount (dueExpiries (advanceTimers s)) := by
  unfold tick
  rfl

/-- What falls due is read off the timers, not off the queue. -/
theorem fallsDue_queue (s : State) (q : List Instr) (n : Nat) (c : Instr) :
    fallsDue { s with pending := q, freeCount := n } c ↔ fallsDue s c := by
  cases c <;> exact Iff.rfl

theorem fallsDue_tick (s : State) (c : Instr) : fallsDue (tick s) c ↔ fallsDue (advanceTimers s) c := by
  unfold tick
  exact fallsDue_queue _ _ _ c

/-- Settles O3: the clock's own operation, block by block, and the expiries it queues in a free order. -/
theorem emptyQueuePassesMillisecond : Obligations.EmptyQueuePassesMillisecond := by
  refine ⟨fun s idle => ?_, fun _ _ => exec_notDue⟩
  have stepped : step s = .next (tick s) := by rw [step, idle]
  have joined : (tick s).pending.Perm (dueExpiries (advanceTimers s)) := by
    rw [pending_tick, idle, List.nil_append]
    exact arrange_perm _ _ _
  intro less more aged
  refine ⟨tick s, stepped, fun b hb => ?_, ?_, ?_, ?_, ?_, ?_, fun z => ?_, fun k => ?_, ?_, fun z => ?_, joined, fun map => ?_⟩
  · cases b
    case outlet | sat | holds | store | transit | stack | faults | agent => rfl
    all_goals simp at hb
  · rfl
  · rfl
  · rfl
  · rfl
  · rfl
  · cases z <;> rfl
  · cases k <;> rfl
  · rfl
  · cases z <;> rfl
  · have channels : (advanceTimers s).channels.length = 128 := (List.length_map _).trans map
    exact ⟨joined.nodup_iff.mpr (nodup_dueExpiries channels),
      fun c => joined.mem_iff.trans ((mem_dueExpiries channels c).trans (fallsDue_tick s c).symm)⟩

end Sys2Proof.Machine

/-!
SUPPORT. The steps the three orderings build: which kinds they hold, in which places and with which triggers.
-/

namespace Sys2Proof.Machine

-- One proof after the other: side by side with the text above, their threads need more memory than the check allows.
set_option Elab.async false

/-! ### The kinds of each actuator -/

theorem mem_exhaustKinds {s : State} {r : Row} {k : StepKind} :
    k ∈ exhaustKinds s r ↔
      k = .setExhaust r.exhaust ∧ s.planner.inForce.exhaust ≠ r.exhaust ∧ ∀ c ∈ s.stack, c.cause ≠ .lelRelief := by
  unfold exhaustKinds
  split
  · rename_i relief
    simp only [List.any_eq_true, beq_iff_eq] at relief
    obtain ⟨c, stands, cause⟩ := relief
    simp only [List.not_mem_nil, false_iff]
    exact fun h => h.2.2 c stands cause
  · rename_i relief
    simp only [List.any_eq_true, beq_iff_eq, not_exists, not_and] at relief
    split
    · rename_i same
      simp [same]
    · rename_i differs
      simp [differs]
      exact fun _ => relief

theorem mem_fanKinds {s : State} {r : Row} {k : StepKind} :
    k ∈ fanKinds s r ↔
      ∃ z x, r.zones.get z = some x ∧ (s.present z = true ∧ (s.planner.inForce.zones.get z).fan ≠ x.fan) ∧
        .setFan z x.fan = k := by
  simp only [fanKinds, List.mem_filterMap, mem_zones, true_and]
  refine exists_congr fun z => ?_
  cases r.zones.get z with
  | none => simp
  | some x => simp

theorem zoneDiffers_iff {t : ZoneTargets} {x : ZoneRow} {ramp : Nat} :
    zoneDiffers t x ramp = true ↔ t.air ≠ x.air ∨ t.feedforward ≠ x.feedforward ∨ t.ramp ≠ ramp := by
  simp [zoneDiffers, or_assoc]

theorem mem_zoneKinds {s : State} {r : Row} {k : StepKind} :
    k ∈ zoneKinds s r ↔
      ∃ z x, r.zones.get z = some x ∧
        (s.present z = true ∧ zoneDiffers (s.planner.inForce.zones.get z) x r.ramp = true) ∧
          .setZone z x.air x.feedforward r.ramp = k := by
  simp only [zoneKinds, List.mem_filterMap, mem_zones, true_and]
  refine exists_congr fun z => ?_
  cases r.zones.get z with
  | none => simp
  | some x => simp

theorem mem_chillKinds {s : State} {j : Nat} {r : Row} {k : StepKind} :
    k ∈ chillKinds s j r ↔
      ∃ c, (s.circuitPresent c = true ∧ s.planner.inForce.chill.get c ≠ r.chill.get c) ∧
        .queueChill c (r.chill.get c) j = k := by
  simp only [chillKinds, List.mem_filterMap, mem_circuits, true_and]
  simp

/-! ### Their places -/

theorem ascends_exhaustKinds (s : State) (r : Row) (lower : Bool) :
    Ascends (stepPlace lower) (stepPlace lower (.setExhaust 0)) (stepPlace lower (.setExhaust 0) + 1) (exhaustKinds s r) := by
  rcases exhaustKinds_cases s r with none | one
  · rw [none]
    exact .nil
  · rw [one]
    exact .single rfl

/-- A step at most for each index, each in its index's place. -/
theorem ascends_filterMap {ι : Type} {number : ι → Nat} {place : StepKind → Nat} {l : List ι} {n m base : Nat}
    (indices : Ascends number n m l) {f : ι → Option StepKind} (kind : ∀ i k, f i = some k → place k = base + number i) :
    Ascends place (base + n) (base + m) (l.filterMap f) where
  pairs := indices.pairs.filterMap f fun i j lt k hk k' hk' => by
    rw [kind i k hk, kind j k' hk']
    exact Nat.add_lt_add_left lt base
  bounds k hk := by
    obtain ⟨i, listed, built⟩ := List.mem_filterMap.mp hk
    have within := indices.bounds i listed
    rw [kind i k built]
    omega

theorem ascends_zones : Ascends zoneNumber 1 5 Zone.all := ⟨zones_ascend, by decide⟩
theorem ascends_circuits : Ascends circuitNumber 1 3 Circuit.all := ⟨circuits_ascend, by decide⟩

theorem ascends_fanKinds (s : State) (r : Row) (lower : Bool) : Ascends (stepPlace lower) 11 15 (fanKinds s r) :=
  ascends_filterMap (base := 10) ascends_zones fun z k built => by
    split at built
    · split at built
      · cases built; rfl
      · cases built
    · cases built

theorem ascends_zoneKinds (s : State) (r : Row) (lower : Bool) :
    Ascends (stepPlace lower) ((if lower then 0 else 20) + 1) ((if lower then 0 else 20) + 5) (zoneKinds s r) :=
  ascends_filterMap ascends_zones fun z k built => by
    split at built
    · split at built
      · cases built; rfl
      · cases built
    · cases built

theorem ascends_chillKinds (s : State) (j : Nat) (r : Row) (lower : Bool) :
    Ascends (stepPlace lower) 41 43 (chillKinds s j r) :=
  ascends_filterMap (base := 40) ascends_circuits fun c k built => by
    split at built
    · cases built; rfl
    · cases built

/-! ### The triggers of a run of steps -/

theorem mem_stepsWith {a b : Trigger} {l : List StepKind} {t : PlanStep} (h : t ∈ stepsWith a b l) :
    (∃ rest, l = t.kind :: rest ∧ t.trigger = a) ∨ ∃ k rest, l = k :: rest ∧ t.kind ∈ rest ∧ t.trigger = b := by
  cases l with
  | nil => cases h
  | cons k l =>
    rcases List.mem_cons.mp h with rfl | later
    · exact .inl ⟨l, rfl, rfl⟩
    · obtain ⟨m, listed, rfl⟩ := List.mem_map.mp later
      exact .inr ⟨k, l, rfl, listed, rfl⟩

theorem kind_mem_of_stepsWith {a b : Trigger} {l : List StepKind} {t : PlanStep} (h : t ∈ stepsWith a b l) : t.kind ∈ l := by
  rw [← map_kind_stepsWith a b l]
  exact List.mem_map_of_mem h

theorem trigger_stepsWith {a : Trigger} {l : List StepKind} {t : PlanStep} (h : t ∈ stepsWith a a l) : t.trigger = a := by
  rcases mem_stepsWith h with ⟨_, _, first⟩ | ⟨_, _, _, _, later⟩
  · exact first
  · exact later

/-! ### The orderings -/

theorem holds_iff {l : List PlanStep} {k : StepKind} : Holds l k ↔ k ∈ l.map PlanStep.kind := List.mem_map.symm

section orderings

variable (s : State) (j : Nat) (r : Row) (v : Int)

theorem kinds_raiseSteps :
    (raiseSteps s j r v).map PlanStep.kind =
      exhaustKinds s r ++ fanKinds s r ++ zoneKinds s r ++ [.grant v j] ++ chillKinds s j r := by
  simp [raiseSteps, openingSteps, closingSteps, PlanStep.waiting]

theorem kinds_adjustSteps :
    (adjustSteps s j r).map PlanStep.kind = exhaustKinds s r ++ fanKinds s r ++ zoneKinds s r ++ chillKinds s j r := by
  simp [adjustSteps, openingSteps, closingSteps]

theorem kinds_lowerSteps (granting : Bool) :
    (lowerSteps s j r v granting).map PlanStep.kind =
      (if granting then [.grant v j] else []) ++ zoneKinds s r ++ fanKinds s r ++ exhaustKinds s r ++ chillKinds s j r := by
  cases granting <;> simp [lowerSteps, closingSteps, PlanStep.waiting]

theorem ascends_raiseSteps :
    Ascends (stepPlace false) 0 43 (exhaustKinds s r ++ fanKinds s r ++ zoneKinds s r ++ [.grant v j] ++ chillKinds s j r) :=
  ((((ascends_exhaustKinds s r false).append (ascends_fanKinds s r false)).append (ascends_zoneKinds s r false)).append
    (.single (a := 30) rfl)).append (ascends_chillKinds s j r false)

theorem ascends_adjustSteps :
    Ascends (stepPlace false) 0 43 (exhaustKinds s r ++ fanKinds s r ++ zoneKinds s r ++ chillKinds s j r) :=
  (((ascends_exhaustKinds s r false).append (ascends_fanKinds s r false)).append (ascends_zoneKinds s r false)).append
    (ascends_chillKinds s j r false)

theorem ascends_lowerSteps (granting : Bool) :
    Ascends (stepPlace true) 0 43
      ((if granting then [.grant v j] else []) ++ zoneKinds s r ++ fanKinds s r ++ exhaustKinds s r ++ chillKinds s j r) := by
  have grant : Ascends (stepPlace true) 0 1 (if granting then [StepKind.grant v j] else []) := by
    cases granting
    · exact .nil
    · exact .single rfl
  exact (((grant.append (ascends_zoneKinds s r true)).append (ascends_fanKinds s r true)).append
    (ascends_exhaustKinds s r true)).append (ascends_chillKinds s j r true)

end orderings

/-- The steps of an ordering are, beside a GRANT, those of the actuators that differ. -/
def HoldsActuators (s : State) (j : Nat) (r : Row) (l : List PlanStep) : Prop :=
  ∀ k, (∀ w i, k ≠ .grant w i) →
    (Holds l k ↔ k ∈ exhaustKinds s r ∨ k ∈ fanKinds s r ∨ k ∈ zoneKinds s r ∨ k ∈ chillKinds s j r)

section orderings

variable {s : State} {j : Nat} {r : Row} {v : Int}

theorem holdsActuators_raiseSteps : HoldsActuators s j r (raiseSteps s j r v) := by
  intro k other
  simp only [holds_iff, kinds_raiseSteps, List.mem_append, List.mem_singleton, other, or_false, or_assoc]

theorem holdsActuators_adjustSteps : HoldsActuators s j r (adjustSteps s j r) := by
  intro k other
  simp only [holds_iff, kinds_adjustSteps, List.mem_append, or_assoc]

theorem holdsActuators_lowerSteps (granting : Bool) : HoldsActuators s j r (lowerSteps s j r v granting) := by
  intro k other
  have grant : k ∉ if granting then [StepKind.grant v j] else [] := by
    cases granting <;> simp [other]
  simp only [holds_iff, kinds_lowerSteps, List.mem_append, grant, false_or]
  tauto

variable {l : List PlanStep} (h : HoldsActuators s j r l)
include h

theorem HoldsActuators.exhaust (e : Int) :
    Holds l (.setExhaust e) ↔
      e = r.exhaust ∧ s.planner.inForce.exhaust ≠ r.exhaust ∧ ∀ c ∈ s.stack, c.cause ≠ .lelRelief := by
  rw [h _ (by simp)]
  simp [mem_exhaustKinds, mem_fanKinds, mem_zoneKinds, mem_chillKinds]

theorem HoldsActuators.fan (z : Zone) (n : Int) :
    Holds l (.setFan z n) ↔
      s.present z = true ∧ ∃ x, r.zones.get z = some x ∧ n = x.fan ∧ (s.planner.inForce.zones.get z).fan ≠ x.fan := by
  rw [h _ (by simp)]
  simp only [mem_exhaustKinds, mem_fanKinds, mem_zoneKinds, mem_chillKinds, StepKind.setFan.injEq, reduceCtorEq, false_and,
    and_false, exists_false, false_or, or_false]
  constructor
  · rintro ⟨_, x, row, ⟨present, differs⟩, rfl, rfl⟩
    exact ⟨present, x, row, rfl, differs⟩
  · rintro ⟨present, x, row, rfl, differs⟩
    exact ⟨z, x, row, ⟨present, differs⟩, rfl, rfl⟩

theorem HoldsActuators.zone (z : Zone) (a ff rp : Int) :
    Holds l (.setZone z a ff rp) ↔
      s.present z = true ∧ ∃ x, r.zones.get z = some x ∧ a = x.air ∧ ff = x.feedforward ∧ rp = r.ramp ∧
        ((s.planner.inForce.zones.get z).air ≠ x.air ∨ (s.planner.inForce.zones.get z).feedforward ≠ x.feedforward ∨
          (s.planner.inForce.zones.get z).ramp ≠ r.ramp) := by
  rw [h _ (by simp)]
  simp only [mem_exhaustKinds, mem_fanKinds, mem_zoneKinds, mem_chillKinds, StepKind.setZone.injEq, reduceCtorEq, false_and,
    and_false, exists_false, false_or, or_false, ← zoneDiffers_iff]
  constructor
  · rintro ⟨_, x, row, ⟨present, differs⟩, rfl, rfl, rfl, rfl⟩
    exact ⟨present, x, row, rfl, rfl, rfl, differs⟩
  · rintro ⟨present, x, row, rfl, rfl, rfl, differs⟩
    exact ⟨z, x, row, ⟨present, differs⟩, rfl, rfl, rfl, rfl⟩

theorem HoldsActuators.chill (k : Circuit) (sp : Int) (i : Nat) :
    Holds l (.queueChill k sp i) ↔
      s.circuitPresent k = true ∧ sp = r.chill.get k ∧ i = j ∧ s.planner.inForce.chill.get k ≠ r.chill.get k := by
  rw [h _ (by simp)]
  simp only [mem_exhaustKinds, mem_fanKinds, mem_zoneKinds, mem_chillKinds, StepKind.queueChill.injEq, reduceCtorEq, false_and,
    and_false, exists_false, false_or]
  constructor
  · rintro ⟨_, ⟨present, differs⟩, rfl, rfl, rfl⟩
    exact ⟨present, rfl, rfl, differs⟩
  · rintro ⟨present, rfl, rfl, differs⟩
    exact ⟨k, ⟨present, differs⟩, rfl, rfl, rfl⟩

/-- The zone steps of an ordering are the row's. -/
theorem HoldsActuators.holds_zone (z : Zone) (a ff rp : Int) :
    Holds l (.setZone z a ff rp) ↔ .setZone z a ff rp ∈ zoneKinds s r := by
  rw [h _ (by simp)]
  simp [mem_exhaustKinds, mem_fanKinds, mem_chillKinds]

end orderings

/-! ### The triggers -/

/-- No zone of a lower index has a step. -/
def FirstZone (s : State) (r : Row) (z : Zone) : Prop :=
  ∀ y a ff rp, zoneNumber y < zoneNumber z → .setZone y a ff rp ∉ zoneKinds s r

/-- The trigger of a run of zone steps: the first has its own. -/
theorem trigger_zoneSteps {s : State} {r : Row} {a b : Trigger} {t : PlanStep} (h : t ∈ stepsWith a b (zoneKinds s r)) :
    ∃ z air ff rp, t.kind = .setZone z air ff rp ∧ (FirstZone s r z → t.trigger = a) ∧ (¬ FirstZone s r z → t.trigger = b) := by
  obtain ⟨z, x, _, _, kind⟩ := mem_zoneKinds.mp (kind_mem_of_stepsWith h)
  have ascend := (ascends_zoneKinds s r true).pairs
  refine ⟨z, _, _, _, kind.symm, ?_⟩
  rcases mem_stepsWith h with ⟨rest, run, trigger⟩ | ⟨k, rest, run, later, trigger⟩
  · refine ⟨fun _ => trigger, fun notFirst => absurd (fun y air ff rp lower listed => ?_) notFirst⟩
    rw [run, List.pairwise_cons] at ascend
    rw [run] at listed
    rcases List.mem_cons.mp listed with same | behind
    · rw [← kind] at same
      cases same
      exact lower.false
    · have place := ascend.1 _ behind
      rw [← kind] at place
      simp [stepPlace] at place
      omega
  · refine ⟨fun first => ?_, fun _ => trigger⟩
    rw [run, List.pairwise_cons] at ascend
    have place := ascend.1 _ later
    have listed : k ∈ zoneKinds s r := run ▸ List.mem_cons_self
    obtain ⟨y, w, _, _, rfl⟩ := mem_zoneKinds.mp listed
    rw [← kind] at place
    refine absurd listed (first y _ _ _ ?_)
    simpa [stepPlace] using place

/-- A step that opens a RAISE or an ADJUST plan is an exhaust or a fan step, which fires at once, or a zone step. -/
theorem mem_openingSteps {s : State} {r : Row} {t : PlanStep} (h : t ∈ openingSteps s r) :
    (t.trigger = .after 0 ∧ ((∃ e, t.kind = .setExhaust e) ∨ ∃ z n, t.kind = .setFan z n)) ∨
      t ∈ stepsWith (.after (tenSeconds s.params.airBeforeHeat)) (.after 0) (zoneKinds s r) := by
  refine (List.mem_append.mp h).imp_left fun air => ⟨trigger_stepsWith air, ?_⟩
  refine (List.mem_append.mp (kind_mem_of_stepsWith air)).imp (fun exhaust => ?_) fun fan => ?_
  · exact ⟨_, (mem_exhaustKinds.mp exhaust).1⟩
  · obtain ⟨z, x, _, _, kind⟩ := mem_fanKinds.mp fan
    exact ⟨z, _, kind.symm⟩

/-- A closing step is a chill step, which fires at once. -/
theorem mem_closingSteps {s : State} {j : Nat} {r : Row} {t : PlanStep} (h : t ∈ closingSteps s j r) :
    t.trigger = .after 0 ∧ ∃ k sp i, t.kind = .queueChill k sp i := by
  obtain ⟨k, _, kind⟩ := mem_chillKinds.mp (kind_mem_of_stepsWith h)
  exact ⟨trigger_stepsWith h, k, _, _, kind.symm⟩

/-- A step of a RAISE or an ADJUST plan opens it, closes it, or is its GRANT. -/
def OpensOrCloses (s : State) (j : Nat) (r : Row) (v : Int) (t : PlanStep) : Prop :=
  t ∈ openingSteps s r ∨ t ∈ closingSteps s j r ∨ t = .waiting (.grant v j) (.whenReady (tenSeconds r.soak))

theorem opensOrCloses_raiseSteps {s : State} {j : Nat} {r : Row} {v : Int} {t : PlanStep} (h : t ∈ raiseSteps s j r v) :
    OpensOrCloses s j r v t := by
  simp only [raiseSteps, List.mem_append, List.mem_singleton] at h
  rcases h with (opens | grant) | closes
  · exact .inl opens
  · exact .inr (.inr grant)
  · exact .inr (.inl closes)

theorem opensOrCloses_adjustSteps {s : State} {j : Nat} {r : Row} (v : Int) {t : PlanStep} (h : t ∈ adjustSteps s j r) :
    OpensOrCloses s j r v t :=
  (List.mem_append.mp h).imp_right .inl

section opens

variable {s : State} {j : Nat} {r : Row} {v : Int} {t : PlanStep} (h : OpensOrCloses s j r v t)
include h

theorem OpensOrCloses.air (kind : (∃ e, t.kind = .setExhaust e) ∨ ∃ z n, t.kind = .setFan z n) : t.trigger = .after 0 := by
  rcases h with opens | closes | rfl
  · rcases mem_openingSteps opens with air | zone
    · exact air.1
    · obtain ⟨z, _, _, _, other, _⟩ := trigger_zoneSteps zone
      simp [other] at kind
  · exact (mem_closingSteps closes).1
  · simp [PlanStep.waiting] at kind

theorem OpensOrCloses.zone {z : Zone} {a ff rp : Int} (kind : t.kind = .setZone z a ff rp) :
    (FirstZone s r z → t.trigger = .after (10 * s.params.airBeforeHeat)) ∧ (¬ FirstZone s r z → t.trigger = .after 0) := by
  rcases h with opens | closes | rfl
  · rcases mem_openingSteps opens with ⟨_, air⟩ | zone
    · simp [kind] at air
    · obtain ⟨y, _, _, _, here, triggers⟩ := trigger_zoneSteps zone
      cases kind.symm.trans here
      exact triggers
  · obtain ⟨_, _, _, _, chill⟩ := mem_closingSteps closes
    cases kind.symm.trans chill
  · cases kind

theorem OpensOrCloses.grant {w : Int} {i : Nat} (kind : t.kind = .grant w i) : t.trigger = .whenReady (10 * r.soak) := by
  rcases h with opens | closes | rfl
  · rcases mem_openingSteps opens with ⟨_, air⟩ | zone
    · simp [kind] at air
    · obtain ⟨y, _, _, _, here, _⟩ := trigger_zoneSteps zone
      cases kind.symm.trans here
  · obtain ⟨_, _, _, _, chill⟩ := mem_closingSteps closes
    cases kind.symm.trans chill
  · rfl

theorem OpensOrCloses.chill {k : Circuit} {sp : Int} {i : Nat} (kind : t.kind = .queueChill k sp i) : t.trigger = .after 0 := by
  rcases h with opens | closes | rfl
  · rcases mem_openingSteps opens with ⟨_, air⟩ | zone
    · simp [kind] at air
    · obtain ⟨y, _, _, _, here, _⟩ := trigger_zoneSteps zone
      cases kind.symm.trans here
  · exact (mem_closingSteps closes).1
  · cases kind

end opens

/-- The trigger that a LOWER plan gives a kind of step (R110). -/
def lowerTrigger (s : State) (r : Row) (v : Int) : StepKind → Trigger
  | .setZone .. => .whenSlowed (slowedSpeed s.planner.ceiling v r.lead) 0
  | .setFan .. => .whenSlowed r.high 0
  | .setExhaust _ => .whenSlowed r.high (tenSeconds s.params.exhaustLag)
  | .grant .. | .queueChill .. => .after 0

theorem trigger_lowerSteps {s : State} {j : Nat} {r : Row} {v : Int} {granting : Bool} {t : PlanStep}
    (h : t ∈ lowerSteps s j r v granting) : t.trigger = lowerTrigger s r v t.kind := by
  simp only [lowerSteps, List.mem_append] at h
  rcases h with (((grant | zone) | fan) | exhaust) | closes
  · cases granting
    · cases grant
    · cases List.mem_singleton.mp grant
      rfl
  · obtain ⟨z, x, _, _, kind⟩ := mem_zoneKinds.mp (kind_mem_of_stepsWith zone)
    rw [← kind]
    exact trigger_stepsWith zone
  · obtain ⟨z, x, _, _, kind⟩ := mem_fanKinds.mp (kind_mem_of_stepsWith fan)
    rw [← kind]
    exact trigger_stepsWith fan
  · rw [(mem_exhaustKinds.mp (kind_mem_of_stepsWith exhaust)).1]
    rcases mem_stepsWith exhaust with ⟨_, _, trigger⟩ | ⟨k, rest, run, later, _⟩
    · exact trigger
    · rcases exhaustKinds_cases s r with none | one
      · cases none.symm.trans run
      · cases one.symm.trans run
        cases later
  · obtain ⟨trigger, _, _, _, kind⟩ := mem_closingSteps closes
    rw [kind]
    exact trigger

/-! ### The statement -/

theorem pairwise_steps {place : StepKind → Nat} {l : List PlanStep} {a b : Nat} (h : Ascends place a b (l.map PlanStep.kind)) :
    l.Pairwise fun x y => place x.kind < place y.kind :=
  (List.pairwise_map (R := fun i j => place i < place j)).mp h.pairs

/-- The GRANT steps of an ordering, seen past its actuators. -/
theorem grant_notMem_actuators (s : State) (j : Nat) (r : Row) (w : Int) (i : Nat) :
    .grant w i ∉ exhaustKinds s r ∧ .grant w i ∉ fanKinds s r ∧ .grant w i ∉ zoneKinds s r ∧ .grant w i ∉ chillKinds s j r := by
  simp [mem_exhaustKinds, mem_fanKinds, mem_zoneKinds, mem_chillKinds]

/-- The zone that a statement about a plan's steps calls the first is the first of the row's zones with a step. -/
theorem HoldsActuators.firstZone {s : State} {j : Nat} {r : Row} {l : List PlanStep} (h : HoldsActuators s j r l) (z : Zone) :
    (∀ y a ff rp, zoneNumber y < zoneNumber z → ¬ Holds l (.setZone y a ff rp)) ↔ FirstZone s r z := by
  simp only [h.holds_zone, FirstZone]

/-- Settles O45: the three orderings are the same runs of kinds in different places. -/
theorem orderingsPlaceTheirSteps : Obligations.OrderingsPlaceTheirSteps := by
  intro s j r v granting f raise adjust lower firstZone
  have noGrant := grant_notMem_actuators s j r
  have opens : ∀ l ∈ [raise, adjust], HoldsActuators s j r l ∧ ∀ t ∈ l, OpensOrCloses s j r v t := by
    intro l listed
    simp only [List.mem_cons, List.not_mem_nil, or_false] at listed
    rcases listed with rfl | rfl
    · exact ⟨holdsActuators_raiseSteps, fun _ => opensOrCloses_raiseSteps⟩
    · exact ⟨holdsActuators_adjustSteps, fun _ => opensOrCloses_adjustSteps v⟩
  refine ⟨fun l listed => ?_, fun w i => ?_, fun w i => ?_, fun w i => ?_, fun l listed => ⟨?_, fun t ht => ?_⟩, ?_,
    fun t ht => ?_⟩
  · have actuators : HoldsActuators s j r l ∧ ∀ t ∈ l, t.done = false ∧
        ∀ k sp i, t.kind = .queueChill k sp i → t.trigger = .after 0 := by
      simp only [List.mem_cons, List.not_mem_nil, or_false] at listed
      rcases listed with rfl | rfl | rfl
      · exact ⟨holdsActuators_raiseSteps, fun t ht => ⟨(stepsOf_raiseSteps s j r v).waiting t ht,
          fun _ _ _ => (opensOrCloses_raiseSteps ht).chill⟩⟩
      · exact ⟨holdsActuators_adjustSteps, fun t ht => ⟨(stepsOf_adjustSteps s j r).waiting t ht,
          fun _ _ _ => (opensOrCloses_adjustSteps v ht).chill⟩⟩
      · refine ⟨holdsActuators_lowerSteps granting, fun t ht => ⟨(stepsOf_lowerSteps s j r v granting).waiting t ht,
          fun _ _ _ kind => ?_⟩⟩
        rw [trigger_lowerSteps ht, kind]
        rfl
    obtain ⟨holds, steps⟩ := actuators
    exact ⟨holds.exhaust, holds.fan, holds.zone, holds.chill, steps⟩
  · simp [raise, holds_iff, kinds_raiseSteps, noGrant]
  · simp [adjust, holds_iff, kinds_adjustSteps, noGrant]
  · cases granting <;> simp [lower, holds_iff, kinds_lowerSteps, noGrant]
  · simp only [List.mem_cons, List.not_mem_nil, or_false] at listed
    rcases listed with rfl | rfl
    · exact pairwise_steps (kinds_raiseSteps s j r v ▸ ascends_raiseSteps s j r v)
    · exact pairwise_steps (kinds_adjustSteps s j r ▸ ascends_adjustSteps s j r)
  · obtain ⟨holds, placed⟩ := opens l listed
    have step := placed t ht
    refine ⟨step.air, fun z a ff rp kind => ?_, fun _ _ => step.grant⟩
    have first : firstZone l z ↔ FirstZone s r z := holds.firstZone z
    rw [first]
    exact step.zone kind
  · exact pairwise_steps (kinds_lowerSteps s j r v granting ▸ ascends_lowerSteps s j r v granting)
  · rw [trigger_lowerSteps ht]
    refine ⟨fun _ _ kind => ?_, fun _ _ _ _ kind => ?_, fun _ _ kind => ?_, fun _ kind => ?_⟩ <;> rw [kind] <;> rfl

end Sys2Proof.Machine

/-!
SUPPORT. An ASK at a part at rest: the state its answer is given in, and the answers without a new plan.
-/

namespace Sys2Proof.Machine

-- One proof after the other: side by side with the text above, their threads need more memory than the check allows.
set_option Elab.async false

/-! ### The state an ASK is answered in (R8, R13, R99) -/

/-- An ASK's value is a speed in range (R8). -/
abbrev SpeedInRange (value : Half) : Prop := 0 ≤ value.toInt ∧ value.toInt ≤ 1200

/-- The state an ASK's answer is given in, with the plan the answer leaves: the frame counted, its sender the GRANT destination,
the last tag its own. -/
def asked (src : Addr) (tag : Byte) (value : Half) (p : Option Plan) (s : State) : State :=
  { arrived s with
    outlet := { s.outlet with dest := .ask src }
    sat := if SpeedInRange value then s.sat else { s.sat with kindMismatch := satInc s.sat.kindMismatch }
    planner := { s.planner with lastTag := tag, plan := p } }

theorem takeAsk_arrived (src : Addr) (tag : Byte) (value : Half) (s : State) :
    takeAsk src tag value (arrived s) =
      answerAsk (if SpeedInRange value then some value.toInt else none) tag (asked src tag value s.planner.plan s) := by
  unfold takeAsk asked
  by_cases range : SpeedInRange value
  · simp only [if_pos range]
    rfl
  · simp only [if_neg range]
    rfl

/-- A part at rest has nothing left to do but the answer: what the ends of an event judge is read from none of what changed. -/
theorem atRest_asked {src : Addr} {tag : Byte} {value : Half} {p : Option Plan} {s : State} (h : s.atRest = true)
    (kept : p.isNone = s.planner.plan.isNone) : (asked src tag value p s).atRest = true := by
  obtain ⟨drives, store, faults, port, grants⟩ := atRest_iff.mp h
  have condition : ∀ e, faultCondition (asked src tag value p s) e = faultCondition s e := fun e => by cases e <;> rfl
  have mask : (asked src tag value p s).conditionMask = s.conditionMask := faultMask_congr condition
  have safe : (asked src tag value p s).safePoint = s.safePoint := by
    show (_ && p.isNone && _) = (_ && s.planner.plan.isNone && _)
    rw [kept]
    rfl
  have source : ∀ r, demandSource (asked src tag value p s) r = demandSource s r := fun r => by cases r <;> rfl
  refine atRest_iff.mpr ⟨?_, ?_, ?_, port, grants⟩
  · refine Eq.trans ?_ drives
    unfold drivesFollow
    simp only [source]
    rfl
  · unfold storeSettled at store ⊢
    rw [safe]
    exact store
  · unfold faultsSettled at faults ⊢
    rw [mask]
    exact faults

theorem dest_insertFrame (f : OwnFrame) (s : State) : (insertFrame f s).outlet.dest = s.outlet.dest := by
  unfold insertFrame
  split <;> rfl

theorem kindMismatch_insertFrame (f : OwnFrame) (s : State) : (insertFrame f s).sat.kindMismatch = s.sat.kindMismatch := by
  unfold insertFrame
  split <;> rfl

/-! ### An answer (R13, R99, R114) -/

/-- An ASK is answered with a status, the plan left being `p`, and nothing else of the planner changes but the last tag. -/
def AskAnswered (src dst tag : Byte) (value : Half) (aux : Byte) (st : GrantStatus) (p : Option Plan) (s : State) : Prop :=
  ∃ t, exec (.ask src dst tag value aux) s = .next t ∧ OnlyChanges [.link, .outlet, .sat, .planner] s t ∧
    t.link = (arrived s).link ∧ t.outlet.dest = .ask (addrOf src) ∧
    t.planner = { s.planner with lastTag := tag, plan := p } ∧
    SentOrLost (.grant (addrOf src) tag s.planner.ceiling st) s t ∧
    (SpeedInRange value → t.sat.kindMismatch = s.sat.kindMismatch) ∧
    (¬ SpeedInRange value →
      t.sat.kindMismatch = if s.sat.kindMismatch = 255 then 255 else s.sat.kindMismatch + 1)

theorem exec_ask {src dst tag aux : Byte} {value : Half} {s : State} (h : Reaches src dst s) :
    exec (.ask src dst tag value aux) s =
      .next (finish (answerAsk (if SpeedInRange value then some value.toInt else none) tag
        (asked (addrOf src) tag value s.planner.plan s))) := by
  rw [← takeAsk_arrived]
  exact congrArg Host.Outcome.next (receive_ask h)

/-- A GRANT sent at rest ends the answer: the event's end finds nothing else to do. -/
theorem askAnswered_of_sent {src dst tag aux : Byte} {value : Half} {st : GrantStatus} {p : Option Plan} {s : State}
    (reaches : Reaches src dst s) (rest : s.atRest = true) (kept : p.isNone = s.planner.plan.isNone)
    (sent : answerAsk (if SpeedInRange value then some value.toInt else none) tag
      (asked (addrOf src) tag value s.planner.plan s) = sendGrant st tag (asked (addrOf src) tag value p s)) :
    AskAnswered src dst tag value aux st p s := by
  let u := asked (addrOf src) tag value p s
  let f : OwnFrame := .grant (addrOf src) tag s.planner.ceiling st
  have settled : u.atRest = true := atRest_asked rest kept
  obtain ⟨_, _, _, port, paid⟩ := atRest_iff.mp settled
  have grant : sendGrant st tag u = insertFrame f u := by
    unfold sendGrant
    rw [payGrants_of_paid paid]
    rfl
  have done : exec (.ask src dst tag value aux) s = .next (arbitrate (insertFrame f u)) := by
    rw [exec_ask reaches, sent, grant]
    exact congrArg (Host.Outcome.next <| arbitrate ·) ((sameJudged_insertFrame f u).closeEvent settled)
  have changed : OnlyChanges [.outlet, .sat] u (arbitrate (insertFrame f u)) :=
    onlyChanges_arbitrate_insertFrame nofun port
  have arriving : OnlyChanges [.link, .outlet, .sat, .planner] s u := fun b hb => by
    cases b
    case link | outlet | sat | planner => simp at hb
    all_goals rfl
  have alone := outletAlone_arbitrate (insertFrame f u)
  have mismatch : (arbitrate (insertFrame f u)).sat.kindMismatch = u.sat.kindMismatch := by
    rw [alone.sat, kindMismatch_insertFrame]
  refine ⟨_, done, (arriving.trans changed).mono (by simp), changed .link (by simp), ?_, changed .planner (by simp),
    sentOrLost_arbitrate ?_ rfl rfl, fun range => ?_, fun range => ?_⟩
  · rw [alone.dest, dest_insertFrame]
    rfl
  · show s.sat.insertLoss.toNat ≤ (if _ then _ else _ : SatCounts).insertLoss.toNat
    split <;> exact le_rfl
  · rw [mismatch]
    exact congrArg SatCounts.kindMismatch (if_pos range)
  · rw [mismatch, ← satInc_eq]
    exact congrArg SatCounts.kindMismatch (if_neg range)

/-! ### The cases of R114 -/

theorem grantWaits_iff {p : Plan} : p.grantWaits = true ↔ GrantWaits p := by
  simp only [Plan.grantWaits, List.any_eq_true, Bool.and_eq_true, Bool.not_eq_true']
  refine exists_congr fun t => and_congr_right fun _ => and_congr_right fun _ => ?_
  cases t.kind <;> simp

/-- Case 5 of R114 applies to a RAISE toward the row whose GRANT step waits. -/
theorem retags_iff {j : Nat} {v : Int} {s : State} {p : Plan} (found : s.planner.plan = some p) :
    retags j v s = true ↔ p.ordering = .raise ∧ p.target = j ∧ GrantWaits p ∧ s.planner.ceiling < v := by
  unfold retags
  rw [found]
  simp [grantWaits_iff, and_assoc]

section cases

variable {v : Option Int} {tag : Byte} {s : State}

theorem answerAsk_refused (h : s.line.state.granted = false) : answerAsk v tag s = sendGrant .refused tag s := by
  unfold answerAsk
  rw [h]
  rfl

theorem answerAsk_held (h : s.line.state.granted = true) (stack : s.stack ≠ []) : answerAsk v tag s = sendGrant .held tag s := by
  unfold answerAsk
  simp [h, stack]

theorem answerAsk_dry (h : s.line.state.granted = true) (stack : s.stack = [])
    (none : ∀ w, v = some w → rowForRequest s.store.active w = none) : answerAsk v tag s = sendGrant .refused tag s := by
  unfold answerAsk
  cases v with
  | none => simp [h, stack]
  | some w => simp [h, stack, none w rfl]

variable {w : Int} {j : Nat}

theorem answerAsk_granted (ready : s.line.state = .ready) (stack : s.stack = []) (row : rowForRequest s.store.active w = some j)
    (low : w ≤ s.planner.ceiling) : answerAsk (some w) tag s = sendGrant .granted tag s := by
  unfold answerAsk
  simp [LineState.granted, ready, stack, row, low]

theorem answerAsk_retagged (h : s.line.state.granted = true) (stack : s.stack = [])
    (row : rowForRequest s.store.active w = some j) (high : s.planner.ceiling < w) (same : retags j w s = true) :
    answerAsk (some w) tag s = sendGrant .pending tag (s.withPlan (s.planner.plan.map (Plan.retagged w tag))) := by
  unfold answerAsk
  simp [h, stack, row, high.not_ge, same]

end cases

/-- Settles O43, by the cases 1 to 5 of R114. -/
theorem asksAnsweredWithoutANewPlan : Obligations.AsksAnsweredWithoutANewPlan := by
  intro src dst tag value aux s reaches rest v c inRange row regrant answers
  have answered : ∀ {st p}, AskAnswered src dst tag value aux st p s → answers st p := fun h => h
  have asking : ∀ {st}, (_ = sendGrant st tag (asked (addrOf src) tag value s.planner.plan s)) → answers st s.planner.plan :=
    fun sent => answered (askAnswered_of_sent reaches rest rfl sent)
  refine ⟨fun ready run => asking (answerAsk_refused ?_), fun granted stack => asking (answerAsk_held granted stack),
    fun granted stack dry => asking (answerAsk_dry granted stack fun w value => ?_),
    fun ready stack range row low => ?_, fun p granted stack range found raise toward waits high => ?_⟩
  · show s.line.state.granted = false
    cases state : s.line.state
    case ready => exact absurd state ready
    case run => exact absurd state run
    all_goals rfl
  · split at value
    · cases value
      exact dry.resolve_left (not_not_intro ‹_›)
    · cases value
  · obtain ⟨j, found⟩ := Option.ne_none_iff_exists'.mp row
    refine asking ?_
    rw [if_pos range]
    exact answerAsk_granted ready stack found low
  · refine answered (askAnswered_of_sent reaches rest (by rw [found]; rfl) ?_)
    rw [if_pos range]
    have same : retags p.target v (asked (addrOf src) tag value s.planner.plan s) = true :=
      (retags_iff found).mpr ⟨raise, rfl, waits, high⟩
    refine (answerAsk_retagged (s := asked (addrOf src) tag value s.planner.plan s) granted stack toward high same).trans ?_
    show sendGrant .pending tag (asked (addrOf src) tag value (s.planner.plan.map (Plan.retagged v tag)) s) = _
    rw [found]
    rfl

end Sys2Proof.Machine

/-!
SUPPORT. What a step's firing leaves, block by block, and the tests of a plan's head up to a GRANT step that the band holds back.
-/

namespace Sys2Proof.Machine

-- One proof after the other: side by side with the text above, their threads need more memory than the check allows.
set_option Elab.async false

/-! ### What a step's effect leaves (R102, R113) -/

/-- The planner a GRANT step leaves (R113). -/
def Planner.granted (k : Planner) (req : Option Request) (active : List Row) (v : Int) (j : Nat) : Planner :=
  if req.isSome then { k with ceiling := v, grantRow := some j }
  else
    { k with
      ceiling := min k.ceiling (((active[j]?).map Row.high).getD v)
      grantRow := some (min (k.grantRow.getD j) j) }

/-- The planner with the in-force targets of one zone changed. -/
def Planner.withZone (k : Planner) (z : Zone) (f : ZoneTargets → ZoneTargets) : Planner :=
  { k with inForce := { k.inForce with zones := k.inForce.zones.set z (f (k.inForce.zones.get z)) } }

/-- The planner a step of a kind leaves (R102). -/
def Planner.fired (k : Planner) (req : Option Request) (active : List Row) : StepKind → Planner
  | .setExhaust v => { k with inForce := { k.inForce with exhaust := v } }
  | .setFan z v => k.withZone z fun t => { t with fan := v }
  | .setZone z a ff rp => k.withZone z fun t => { t with air := a, feedforward := ff, ramp := rp }
  | .queueChill c sp _ => { k with inForce := { k.inForce with chill := k.inForce.chill.set c sp } }
  | .grant v j => k.granted req active v j

theorem fireGrant_planner (req : Option Request) (v : Int) (j : Nat) (s : State) :
    (fireGrant req v j s).planner = s.planner.granted req s.store.active v j := by
  cases req with
  | some q => exact (calm_sendGrant _ _ _).planner
  | none =>
    refine (sendUnasked_planner _ _).trans ?_
    show ({ s.planner with ceiling := _, grantRow := _ } : Planner) = _
    cases found : s.store.active[j]? <;> simp [Planner.granted, found]

theorem onlyChanges_retargetZone (z : Zone) (a f r : Int) (s : State) : OnlyChanges [.zones] s (retargetZone z a f r s) := by
  unfold retargetZone
  split
  · exact onlyChanges_withZones s _
  · exact (onlyChanges_refl s).mono (by simp)

theorem onlyChanges_forceHead (s : State) : OnlyChanges [.transit, .circuits, .sat, .faults] s (forceHead s) := by
  unfold forceHead
  split
  · exact (onlyChanges_refl s).mono (by simp)
  · exact (((onlyChanges_withTransit s _).trans (onlyChanges_mature _ _)).trans (onlyChanges_withSat _ _)).trans
      (onlyChanges_withFaults _ _)

theorem onlyChanges_appendTransit (c : Circuit) (v : Int) (j : Nat) (s : State) :
    OnlyChanges [.transit, .circuits, .sat, .faults] s (appendTransit c v j s) := by
  unfold appendTransit
  dsimp only
  split
  · exact (onlyChanges_withTransit s _).mono (by simp)
  · exact ((onlyChanges_forceHead s).trans (onlyChanges_withTransit _ _)).mono (by simp)

theorem onlyChanges_sendGrant (st : GrantStatus) (tag : Byte) (s : State) : OnlyChanges [.outlet, .sat] s (sendGrant st tag s) :=
  ((onlyChanges_payGrants s).trans (onlyChanges_insertFrame _ _)).mono (by simp)

theorem onlyChanges_fireGrant (req : Option Request) (v : Int) (j : Nat) (s : State) :
    OnlyChanges [.planner, .outlet, .sat] s (fireGrant req v j s) := by
  cases req <;> exact (onlyChanges_withPlanner s _).trans (onlyChanges_sendGrant _ _ _)

/-- The blocks that a step's firing can change. -/
abbrev firingBlocks : List Block := [.planner, .zones, .transit, .circuits, .outlet, .sat, .faults, .channels]

theorem onlyChanges_stepEffect (req : Option Request) (k : StepKind) (s : State) :
    OnlyChanges firingBlocks s (stepEffect req k s) := by
  cases k with
  | setExhaust v => exact (onlyChanges_withPlanner s _).mono (by simp)
  | setFan z v => exact (onlyChanges_withPlanner s _).mono (by simp)
  | setZone z a f r => exact ((onlyChanges_withPlanner s _).trans (onlyChanges_retargetZone _ _ _ _ _)).mono (by simp)
  | queueChill c v j => exact ((onlyChanges_withPlanner s _).trans (onlyChanges_appendTransit _ _ _ _)).mono (by simp)
  | grant v j => exact (onlyChanges_fireGrant req v j s).mono (by simp)

theorem stepEffect_planner (req : Option Request) (k : StepKind) (s : State) :
    (stepEffect req k s).planner = s.planner.fired req s.store.active k := by
  cases k with
  | setExhaust v => rfl
  | setFan z v => rfl
  | setZone z a f r => exact onlyChanges_retargetZone z a f r _ .planner (by simp)
  | queueChill c v j => exact onlyChanges_appendTransit c v j _ .planner (by simp)
  | grant v j => exact fireGrant_planner req v j s

/-- The plan as its head's firing leaves it (R106, R107). -/
abbrev firedPlan (p : Plan) (s : State) : Plan := p.advanced (seconds s.params.readyTimeout)

theorem fireHead_planner (p : Plan) (k : StepKind) (s : State) :
    (fireHead p k s).planner = ({ s.planner with plan := some (firedPlan p s) } : Planner).fired p.request s.store.active k :=
  stepEffect_planner p.request k (s.withPlan _)

theorem onlyChanges_fireHead (p : Plan) (k : StepKind) (s : State) : OnlyChanges firingBlocks s (fireHead p k s) :=
  (((onlyChanges_withPlanner s _).trans (onlyChanges_stepEffect _ _ _)).trans (onlyChanges_withChannels _ _)).mono (by simp)

/-- A step leaves the plan, the target row and the last tag (R102). -/
theorem fired_keeps (k : Planner) (req : Option Request) (active : List Row) (x : StepKind) :
    (k.fired req active x).plan = k.plan ∧ (k.fired req active x).target = k.target ∧
      (k.fired req active x).lastTag = k.lastTag := by
  cases x
  case grant v j => by_cases asked : req.isSome = true <;> simp [Planner.fired, Planner.granted, asked]
  all_goals exact ⟨rfl, rfl, rfl⟩

theorem fireHead_plan (p : Plan) (k : StepKind) (s : State) : (fireHead p k s).planner.plan = some (firedPlan p s) :=
  (congrArg Planner.plan (fireHead_planner p k s)).trans (fired_keeps _ _ _ _).1

/-- A step other than a GRANT leaves the line, the grant and the sending side (R102). -/
theorem sameGrant_fireHead {k : StepKind} (h : ∀ v j, k ≠ .grant v j) (p : Plan) (s : State) : SameGrant s (fireHead p k s) :=
  have stored : SameGrant s (s.withPlan (some (firedPlan p s))) := ⟨rfl, rfl, rfl, rfl, rfl, rfl⟩
  have fired : Unsent (s.withPlan (some (firedPlan p s))) (fireHead p k s) :=
    (unsent_stepEffect h p.request _).trans unsent_of_same
  stored.trans fired.toSameGrant

/-! ### A head tested (R106) -/

/-- What one test of a plan's head comes to. -/
inductive HeadTest (n : Nat) (p : Plan) (s : State) : State → Prop
  | completes (left : p.steps[p.head]? = none) : HeadTest n p s (completePlan p s)
  | stands (x : PlanStep) (head : p.steps[p.head]? = some x) (frozen : p.frozen = true) : HeadTest n p s s
  | fires (x : PlanStep) (head : p.steps[p.head]? = some x) (running : p.frozen = false)
      (holds : (testTrigger s p x.trigger).2 = true) : HeadTest n p s (testHead n (fireHead p x.kind s))
  | waits (x : PlanStep) (head : p.steps[p.head]? = some x) (running : p.frozen = false)
      (fails : (testTrigger s p x.trigger).2 = false) :
      HeadTest n p s (s.withPlan (some { p with clock := (testTrigger s p x.trigger).1 }))

theorem headTest {n : Nat} {p : Plan} {s : State} (plan : s.planner.plan = some p) : HeadTest n p s (testHead (n + 1) s) := by
  unfold testHead
  rw [plan]
  dsimp only
  split
  · exact .completes ‹_›
  · rename_i x head
    split
    · exact .stands x head ‹_›
    · rename_i frozen
      have running : p.frozen = false := Bool.not_eq_true _ ▸ frozen
      split
      · exact .fires x head running ‹_›
      · rename_i fails
        exact .waits x head running (Bool.not_eq_true _ ▸ fails)

/-! ### A GRANT step the band holds back (R104) -/

/-- A step is a GRANT step. -/
def PlanStep.grants (x : PlanStep) : Prop := ∃ v j, x.kind = .grant v j

/-- From a plan's head on every GRANT step waits some time for the band, with the trigger clock stopped; and the plan's completion
enters no READY. -/
structure Plan.Barred (p : Plan) : Prop where
  clock : p.clock = none
  barred : ∀ i x, p.head ≤ i → p.steps[i]? = some x → x.grants → ∃ soak, x.trigger = .whenReady soak ∧ 1 ≤ soak
  stays : p.target ≠ 0 ∨ p.ordering = .raise

/-- What the tests of a barred plan's head leave: the line, the grant, the stack and what is sent; a plan that still stands is the
same but for its steps' status, and it stands while a GRANT step is left in it. -/
structure Tested (p : Plan) (s t : State) : Prop extends SameGrant s t where
  stack : t.stack = s.stack
  lastTag : t.planner.lastTag = s.planner.lastTag
  plan : ∀ q, t.planner.plan = some q → p.Alike q ∧ q.frozen = p.frozen
  waiting : ∀ i x, p.head ≤ i → p.steps[i]? = some x → x.grants → ∃ q, t.planner.plan = some q ∧ q.steps[i]? = some x

theorem completePlan_stays {p : Plan} (h : p.target ≠ 0 ∨ p.ordering = .raise) (s : State) :
    completePlan p s = s.withPlan none := by
  unfold completePlan
  refine if_neg fun ⟨_, zero, other⟩ => ?_
  rcases h with away | raise
  · exact away zero
  · exact other raise

/-- A barred head fires no GRANT. -/
theorem Plan.Barred.fires {p : Plan} {s : State} {x : PlanStep} (h : p.Barred) (head : p.steps[p.head]? = some x)
    (holds : (testTrigger s p x.trigger).2 = true) : ¬ x.grants := by
  intro grants
  obtain ⟨soak, trigger, long⟩ := h.barred p.head x le_rfl head grants
  simp only [trigger, testTrigger, h.clock] at holds
  split at holds
  · have : tenthsMs soak ≤ 0 := of_decide_eq_true holds
    have : tenthsMs soak = 100 * soak := rfl
    omega
  · cases holds

/-- Behind the head a firing changes no step. -/
theorem steps_advanced {p : Plan} {n i : Nat} (behind : p.head < i) : (p.advanced n).steps[i]? = p.steps[i]? := by
  rw [getElem?_advanced]
  simp [behind.ne]

theorem Plan.Barred.advanced {p : Plan} (h : p.Barred) (n : Nat) : (p.advanced n).Barred where
  clock := rfl
  barred i x behind found := h.barred i x (Nat.le_of_succ_le behind) (steps_advanced behind ▸ found)
  stays := h.stays

theorem tested_self {p : Plan} {s : State} (plan : s.planner.plan = some p) : Tested p s s where
  toSameGrant := .refl s
  stack := rfl
  lastTag := rfl
  plan q hq := by
    cases plan.symm.trans hq
    exact ⟨.refl p, rfl⟩
  waiting _ _ _ found _ := ⟨p, plan, found⟩

theorem tested_testHead (n : Nat) {p : Plan} {s : State} (plan : s.planner.plan = some p) (barred : p.Barred) :
    Tested p s (testHead n s) := by
  induction n generalizing p s with
  | zero => exact tested_self plan
  | succ n ih =>
    have test := headTest (n := n) plan
    generalize testHead (n + 1) s = t at test ⊢
    cases test with
    | completes left =>
      rw [completePlan_stays barred.stays]
      refine ⟨⟨rfl, rfl, rfl, rfl, rfl, rfl⟩, rfl, rfl, nofun, fun i x ahead found _ => ?_⟩
      have := List.getElem?_eq_none_iff.mp left
      have := (List.getElem?_eq_some_iff.mp found).1
      omega
    | stands => exact tested_self plan
    | waits =>
      refine ⟨⟨rfl, rfl, rfl, rfl, rfl, rfl⟩, rfl, rfl, fun q hq => ?_, fun _ _ _ found _ => ⟨_, rfl, found⟩⟩
      cases hq
      exact ⟨⟨rfl, rfl, rfl, rfl, rfl⟩, rfl⟩
    | fires x head running holds =>
      have other := barred.fires head holds
      have plain : ∀ v j, x.kind ≠ .grant v j := fun v j kind => other ⟨v, j, kind⟩
      have fired := sameGrant_fireHead plain p s
      have planner := fireHead_planner p x.kind s
      have rest := ih (fireHead_plan p x.kind s) (barred.advanced _)
      refine ⟨fired.trans rest.toSameGrant, rest.stack.trans (onlyChanges_fireHead p x.kind s .stack (by simp)),
        rest.lastTag.trans (planner ▸ (fired_keeps _ _ _ _).2.2), fun q hq => ?_, fun i y ahead found grants => ?_⟩
      · obtain ⟨alike, frozen⟩ := rest.plan q hq
        exact ⟨(alike_advanced _ p).trans alike, frozen⟩
      · rcases Nat.eq_or_lt_of_le ahead with rfl | behind
        · cases head.symm.trans found
          exact absurd grants other
        · exact rest.waiting i y behind ((steps_advanced behind).trans found) grants

/-! ### The entry into RUN with a plan (R84) -/

/-- The plan may have been frozen by a push; what is sent, and the rest of the planner, are the same. -/
structure MayFreeze (s t : State) : Prop where
  planner : ∃ b, t.planner = { s.planner with plan := s.planner.plan.map fun p => { p with frozen := p.frozen || b } }
  outlet : t.outlet = s.outlet
  loss : t.sat.insertLoss = s.sat.insertLoss

theorem mayFreeze_of_same {s t : State} (planner : t.planner = s.planner) (outlet : t.outlet = s.outlet)
    (loss : t.sat.insertLoss = s.sat.insertLoss) : MayFreeze s t where
  planner := ⟨false, by simp [planner]⟩
  outlet := outlet
  loss := loss

theorem MayFreeze.trans {s t u : State} (h : MayFreeze s t) (k : MayFreeze t u) : MayFreeze s u where
  planner := by
    obtain ⟨b, first⟩ := h.planner
    obtain ⟨c, second⟩ := k.planner
    exact ⟨b || c, by rw [second, first]; simp [Function.comp_def, Bool.or_assoc]⟩
  outlet := k.outlet.trans h.outlet
  loss := k.loss.trans h.loss

theorem MayFreeze.ite {s t u : State} {c : Prop} [Decidable c] (h : MayFreeze s t) (k : MayFreeze s u) :
    MayFreeze s (if c then t else u) := by split <;> assumption

theorem mayFreeze_overlay {c : Cause} (h : c = .splice ∨ c = .speedLost) (s : State) : MayFreeze s (overlay c s) where
  planner := ⟨true, by rcases h with rfl | rfl <;> simp [overlay, freezePlan, State.withPlan]⟩
  outlet := by rcases h with rfl | rfl <;> rfl
  loss := by rcases h with rfl | rfl <;> rfl

/-- A SPLICE or SPEED_LOST push freezes the plan and sends nothing (R154). -/
theorem mayFreeze_push {c : Cause} (h : c = .splice ∨ c = .speedLost) (s : State) : MayFreeze s (push c s) := by
  have same : MayFreeze s s := mayFreeze_of_same rfl rfl rfl
  have stacked : ∀ (u : State) (l : List Context), MayFreeze u (u.withStack l) := fun _ _ => mayFreeze_of_same rfl rfl rfl
  have saved : ∀ u, MayFreeze u (saveContext c u) := fun u => (mayFreeze_overlay h u).trans (stacked _ _)
  have overflown : MayFreeze s (overflowStack s) := mayFreeze_of_same rfl rfl rfl
  unfold push
  split
  · exact same
  split
  · exact same
  split
  · exact ((mayFreeze_overlay h s).trans (stacked _ _)).ite same
  · exact (saved s).ite (overflown.trans (saved _))

/-- RUN is entered with the plan as it is, but that a push may freeze it (R51, R84, R154). -/
theorem mayFreeze_enterRun (s : State) : MayFreeze s (enterRun s) := by
  have entered : MayFreeze s (enterLine .run s) :=
    mayFreeze_of_same (enterLine_planner .run s) (enterLine_outlet .run s) (congrArg SatCounts.insertLoss (enterLine_sat .run s))
  have lost : ∀ u, MayFreeze u (speedLost u) := fun u =>
    MayFreeze.trans (t := raiseFault .speedLost u) (mayFreeze_of_same rfl rfl rfl) (mayFreeze_push (.inr rfl) _)
  have same : ∀ u, MayFreeze u u := fun u => mayFreeze_of_same rfl rfl rfl
  exact (entered.trans ((lost _).ite (same _))).trans ((mayFreeze_push (.inl rfl) _).ite (same _))

theorem line_enterRun (s : State) : (enterRun s).line.state = .run := by
  have entered : (enterLine .run s).line.state = .run := congrArg Line.state (enterLine_line .run s)
  have pushed : ∀ c u, (push c u).line = u.line := fun c u => (push_rest c u).1
  have lost : ∀ u, (speedLost u).line = u.line := fun u => pushed _ _
  unfold enterRun
  dsimp only
  split <;> split <;> simp only [pushed, lost, entered]

/-- What a barred plan put in existence leaves: the line in RUN, the grant and what is sent; a plan that stands is the one put
there, and it stands while it has a GRANT step. -/
structure Installed (p : Plan) (s t : State) : Prop where
  run : t.line.state = .run
  ceiling : t.planner.ceiling = s.planner.ceiling
  grantRow : t.planner.grantRow = s.planner.grantRow
  target : t.planner.target = p.target
  lastTag : t.planner.lastTag = s.planner.lastTag
  outlet : t.outlet = s.outlet
  loss : t.sat.insertLoss = s.sat.insertLoss
  plan : ∀ q, t.planner.plan = some q → p.Alike q
  waiting : ∀ x ∈ p.steps, x.grants → ∃ q, t.planner.plan = some q ∧ x ∈ q.steps

theorem installed_installPlan {p : Plan} {s : State} (granted : s.line.state.granted = true) (barred : p.Barred)
    (fresh : p.head = 0) : Installed p s (installPlan p s) := by
  let stored := s.withPlanner { s.planner with plan := some p, target := p.target }
  let u := if s.line.state = .ready then enterRun stored else stored
  have run : u.line.state = .run := by
    by_cases ready : s.line.state = .ready
    · simp only [u, if_pos ready]
      exact line_enterRun stored
    · simp only [u, if_neg ready]
      show s.line.state = .run
      cases state : s.line.state
      case ready => exact absurd state ready
      case run => rfl
      all_goals rw [state] at granted; cases granted
  have entered : MayFreeze stored u := (mayFreeze_enterRun stored).ite (mayFreeze_of_same rfl rfl rfl)
  obtain ⟨b, planner⟩ := entered.planner
  let q : Plan := { p with frozen := p.frozen || b }
  have plan : u.planner.plan = some q := congrArg Planner.plan planner
  have installs : installPlan p s = testHead (q.steps.length + 1) u := by
    show runPlan u = _
    unfold runPlan
    rw [plan]
  have tested : Tested q u (installPlan p s) := by
    rw [installs]
    exact tested_testHead _ plan ⟨barred.clock, barred.barred, barred.stays⟩
  refine ⟨by rw [tested.line, run], by rw [tested.ceiling, planner]; rfl, by rw [tested.grantRow, planner]; rfl,
    by rw [tested.target, planner]; rfl, by rw [tested.lastTag, planner]; rfl, tested.outlet.trans entered.outlet,
    tested.loss.trans entered.loss, fun r hr => ?_, fun x hx grants => ?_⟩
  · have frozen : p.Alike q := ⟨rfl, rfl, rfl, rfl, rfl⟩
    exact frozen.trans (tested.plan r hr).1
  · obtain ⟨i, found⟩ := List.mem_iff_getElem?.mp hx
    have ahead : q.head ≤ i := fresh.le.trans i.zero_le
    obtain ⟨r, stands, kept⟩ := tested.waiting i x ahead found grants
    exact ⟨r, stands, List.mem_of_getElem? kept⟩

/-! ### The end of an event with no commit to carry out (R66) -/

theorem storeSettled_of_idle {s : State} (idle : s.store.status ≠ .pending) : storeSettled s = true := by
  simp [storeSettled, idle]

theorem dest_insertAll (l : List OwnFrame) (s : State) : (insertAll l s).outlet.dest = s.outlet.dest := by
  induction l generalizing s with
  | nil => rfl
  | cons f l ih => exact (ih _).trans (dest_insertFrame f s)

theorem dest_payGrants (s : State) : (payGrants s).outlet.dest = s.outlet.dest := dest_insertAll _ _

theorem dest_sendGrant (st : GrantStatus) (tag : Byte) (s : State) : (sendGrant st tag s).outlet.dest = s.outlet.dest :=
  (dest_insertFrame _ _).trans (dest_payGrants s)

section idle

variable {s : State} (idle : s.store.status ≠ .pending)
include idle

theorem onlyChanges_finish_idle : OnlyChanges [.channels, .outlet, .sat, .faults, .agent] s (finish s) :=
  ((onlyChanges_closeEvent_settled (storeSettled_of_idle idle)).trans (outletAlone_arbitrate _).onlyChanges).mono (by simp)

theorem dest_finish : (finish s).outlet.dest = s.outlet.dest := by
  have swept : (closeEvent s).outlet = (payGrants (driveStage s)).outlet := by
    rw [closeEvent, settleStore_of_settled (storeSettled_of_idle idle)]
    exact onlyChanges_sweepFaults _ .outlet (by simp)
  calc (finish s).outlet.dest = (closeEvent s).outlet.dest := (outletAlone_arbitrate _).dest
    _ = (payGrants (driveStage s)).outlet.dest := by rw [swept]
    _ = (driveStage s).outlet.dest := dest_payGrants _
    _ = s.outlet.dest := dest_insertAll _ _

theorem WaitsOrLost.finish_idle {f : OwnFrame} {o : State} (h : WaitsOrLost f o s) (key : f.key = some .grant)
    (paid : grantsPaid s = true) : SentOrLost f o (finish s) := by
  rw [finish, closeEvent, settleStore_of_settled (storeSettled_of_idle idle)]
  exact h.ended key paid

end idle

theorem grantsPaid_sendGrant (st : GrantStatus) (tag : Byte) (s : State) : grantsPaid (sendGrant st tag s) = true :=
  (sameJudged_insertFrame _ _).grants_paid.trans (payGrants_same s).grants_paid

theorem waitsOrLost_sendGrant {s u : State} (st : GrantStatus) (tag : Byte)
    (loss : s.sat.insertLoss.toNat ≤ u.sat.insertLoss.toNat) : WaitsOrLost (u.grantFrame st tag) s (sendGrant st tag u) :=
  waitsOrLost_insertFrame (loss.trans (work_payGrants u).undisturbed.loss)

theorem WaitsOrLost.since {f : OwnFrame} {o s t : State} (h : WaitsOrLost f s t)
    (loss : o.sat.insertLoss = s.sat.insertLoss) : WaitsOrLost f o t := by
  unfold WaitsOrLost
  rw [loss]
  exact h

/-! ### The plan an ASK builds (R109, R110, R115) -/

/-- The steps of a RAISE and a LOWER plan read the stack, the in-force set, the ceiling, the presence and the parameters. -/
theorem raiseSteps_congr {s u : State} (stack : u.stack = s.stack) (inForce : u.planner.inForce = s.planner.inForce)
    (line : u.line = s.line) (params : u.params = s.params) (j : Nat) (r : Row) (v : Int) :
    raiseSteps u j r v = raiseSteps s j r v := by
  have zones : ∀ z, u.present z = s.present z := fun z => by unfold State.present; rw [line]
  have circuits : ∀ c, u.circuitPresent c = s.circuitPresent c := fun c => by unfold State.circuitPresent; rw [line]
  simp only [raiseSteps, openingSteps, closingSteps, exhaustKinds, fanKinds, zoneKinds, chillKinds, stack, inForce, params,
    zones, circuits]

theorem lowerSteps_congr {s u : State} (stack : u.stack = s.stack) (inForce : u.planner.inForce = s.planner.inForce)
    (ceiling : u.planner.ceiling = s.planner.ceiling) (line : u.line = s.line) (params : u.params = s.params) (j : Nat) (r : Row)
    (v : Int) (granting : Bool) : lowerSteps u j r v granting = lowerSteps s j r v granting := by
  have zones : ∀ z, u.present z = s.present z := fun z => by unfold State.present; rw [line]
  have circuits : ∀ c, u.circuitPresent c = s.circuitPresent c := fun c => by unfold State.circuitPresent; rw [line]
  simp only [lowerSteps, closingSteps, exhaustKinds, fanKinds, zoneKinds, chillKinds, stack, inForce, ceiling, params, zones,
    circuits]

theorem lowerSteps_granting (s : State) (j : Nat) (r : Row) (v : Int) :
    lowerSteps s j r v true = .waiting (.grant v j) (.after 0) :: lowerSteps s j r v false := by
  simp [lowerSteps]

theorem grants_notMem_lowerSteps {s : State} {j : Nat} {r : Row} {v : Int} {x : PlanStep} (h : x ∈ lowerSteps s j r v false) :
    ¬ x.grants := by
  rintro ⟨w, i, kind⟩
  have listed := List.mem_map_of_mem (f := PlanStep.kind) h
  rw [kinds_lowerSteps, kind] at listed
  simp [grant_notMem_actuators s j r w i] at listed

/-- A LOWER plan without a GRANT step, toward a row above row 0. -/
theorem barred_lower {s u : State} {o : Origin} {ord : Ordering3} {req : Option Request} {j : Nat} {r : Row} {v : Int}
    (away : j ≠ 0) : (Plan.built u o ord req j (lowerSteps s j r v false)).Barred where
  clock := rfl
  barred _ _ _ found grants := absurd grants (grants_notMem_lowerSteps (List.mem_of_getElem? found))
  stays := .inl away

/-- A LOWER plan toward a row above row 0 whose GRANT step has fired. -/
theorem barred_lower_granted {s u : State} {o : Origin} {ord : Ordering3} {req : Option Request} {j n : Nat} {r : Row} {v : Int}
    (away : j ≠ 0) : ((Plan.built u o ord req j (lowerSteps s j r v true)).advanced n).Barred where
  clock := rfl
  barred i x behind found grants := by
    have found := (steps_advanced behind).symm.trans found
    obtain ⟨k, rfl⟩ := Nat.exists_eq_succ_of_ne_zero (Nat.ne_of_gt behind)
    have step : (lowerSteps s j r v true)[k + 1]? = some x := found
    rw [lowerSteps_granting, List.getElem?_cons_succ] at step
    exact absurd grants (grants_notMem_lowerSteps (List.mem_of_getElem? step))
  stays := .inl away

/-- A RAISE plan with a soak time. -/
theorem barred_raise {s u : State} {o : Origin} {req : Option Request} {j : Nat} {r : Row} {v : Int} (soak : 1 ≤ r.soak) :
    (Plan.built u o .raise req j (raiseSteps s j r v)).Barred where
  clock := rfl
  barred _ _ _ found := fun ⟨_, _, kind⟩ =>
    ⟨10 * r.soak, (opensOrCloses_raiseSteps (List.mem_of_getElem? found)).grant kind, by omega⟩
  stays := .inr rfl

/-! ### The statement -/

/-- Case 6 of R114 applies where none before it does. -/
theorem answerAsk_builds {v : Int} {tag : Byte} {s : State} {j : Nat} {r : Row} (granted : s.line.state.granted = true)
    (stack : s.stack = []) (row : rowForRequest s.store.active v = some j) (found : s.store.active[j]? = some r)
    (asks : s.line.state = .ready → s.planner.ceiling < v) (new : retags j v s = false) :
    answerAsk (some v) tag s = buildAsked v tag j r s := by
  have above : ¬ (s.line.state = .ready ∧ v ≤ s.planner.ceiling) := fun ⟨ready, low⟩ => (asks ready).not_ge low
  unfold answerAsk
  simp only [granted, stack, row, found, new, if_neg above]
  rfl

/-- What an ASK that reaches the part at rest comes to when case 6 applies. -/
theorem exec_ask_builds {src dst tag aux : Byte} {value : Half} {s : State} {j : Nat} {r : Row} (reaches : Reaches src dst s)
    (stack : s.stack = []) (high : value.toInt ≤ 1200) (granted : s.line.state.granted = true)
    (row : rowForRequest s.store.active value.toInt = some j) (found : s.store.active[j]? = some r)
    (asks : s.line.state = .ready → s.planner.ceiling < value.toInt) (new : retags j value.toInt s = false) :
    exec (.ask src dst tag value aux) s =
      .next (finish (buildAsked value.toInt tag j r (asked (addrOf src) tag value s.planner.plan s))) := by
  have low : 0 ≤ value.toInt := by
    unfold rowForRequest at row
    split at row
    · cases row
    · omega
  rw [exec_ask reaches, if_pos ⟨low, high⟩]
  exact congrArg (Host.Outcome.next <| finish ·)
    (answerAsk_builds (s := asked (addrOf src) tag value s.planner.plan s) granted stack row found asks new)

theorem loss_asked (src : Addr) (tag : Byte) (value : Half) (p : Option Plan) (s : State) :
    (asked src tag value p s).sat.insertLoss = s.sat.insertLoss := by
  show (if _ then _ else _ : SatCounts).insertLoss = _
  split <;> rfl

/-- A RAISE plan built by an ASK above the ceiling: a PENDING, and the grant waits for the plan's GRANT step (R115). -/
theorem buildAsked_raise {v : Int} {tag : Byte} {j : Nat} {r : Row} {s : State} (granted : s.line.state.granted = true)
    (above : s.planner.ceiling < v) (soak : 1 ≤ r.soak) :
    let w := buildAsked v tag j r s
    let f : OwnFrame := .grant s.outlet.dest.address tag s.planner.ceiling .pending
    w.line.state = .run ∧ w.planner.ceiling = s.planner.ceiling ∧ w.planner.grantRow = s.planner.grantRow ∧
      w.planner.target = j ∧ w.planner.lastTag = s.planner.lastTag ∧ w.outlet.dest = s.outlet.dest ∧ w.store = s.store ∧
      WaitsOrLost f s w ∧ grantsPaid w = true ∧
      ∃ p, w.planner.plan = some p ∧ p.origin = .asked ∧ p.ordering = .raise ∧ p.request = some ⟨v, tag⟩ ∧ p.target = j ∧
        GrantWaits p ∧ p.steps.map PlanStep.shape = (raiseSteps s j r v).map PlanStep.shape := by
  intro w f
  let u := discardPlan s
  let e := sendGrant .pending tag u
  let p := Plan.built u .asked .raise (some ⟨v, tag⟩) j (raiseSteps u j r v)
  have built : w = installPlan p e := if_pos above
  have sent := onlyChanges_sendGrant .pending tag u
  have line : e.line = s.line := sent .line (by simp)
  have planner : e.planner = u.planner := sent .planner (by simp)
  have installed : Installed p e w := by
    rw [built]
    exact installed_installPlan (by rw [line]; exact granted) (barred_raise soak) rfl
  have store : w.store = s.store := by
    rw [built, (steady_installPlan p e).store]
    exact sent .store (by simp)
  have waits : WaitsOrLost f s w := WaitsOrLost.later (t := e) (waitsOrLost_sendGrant .pending tag le_rfl)
    (fun waits => by rwa [installed.outlet]) (by rw [installed.loss])
  have paid : grantsPaid w = true := by
    unfold grantsPaid
    rw [installed.outlet]
    exact grantsPaid_sendGrant .pending tag u
  have steps : p.steps = raiseSteps s j r v := raiseSteps_congr rfl rfl rfl rfl j r v
  let g : PlanStep := .waiting (.grant v j) (.whenReady (tenSeconds r.soak))
  have grant : g ∈ p.steps := by simp [steps, raiseSteps, g]
  obtain ⟨q, plan, kept⟩ := installed.waiting g grant ⟨v, j, rfl⟩
  have alike := installed.plan q plan
  exact ⟨installed.run, by rw [installed.ceiling, planner]; rfl, by rw [installed.grantRow, planner]; rfl, installed.target,
    by rw [installed.lastTag, planner]; rfl, (congrArg Outlet.dest installed.outlet).trans (dest_sendGrant _ _ _), store, waits,
    paid, q, plan, alike.origin, alike.ordering, alike.request, alike.target,
    ⟨g, kept, rfl, v, j, rfl⟩, steps ▸ alike.shapes⟩

/-- The LOWER plan an ASK builds. -/
abbrev lowerAsked (s : State) (v : Int) (tag : Byte) (j : Nat) (r : Row) (granting : Bool) : Plan :=
  .built s .asked .lower (some ⟨v, tag⟩) j (lowerSteps s j r v granting)

/-- A LOWER plan in RUN once the ceiling has followed and the GRANTED is sent, before its head is tested for an actuator. -/
structure LowerBegun (s : State) (v : Int) (tag : Byte) (j : Nat) (r : Row) (p : Plan) (e : State) : Prop where
  line : e.line = s.line
  stack : e.stack = s.stack
  store : e.store = s.store
  planner : e.planner =
    { s.planner with
      ceiling := v, grantRow := if v < s.planner.ceiling then some j else s.planner.grantRow, target := j, plan := some p }
  dest : e.outlet.dest = s.outlet.dest
  waits : WaitsOrLost (.grant s.outlet.dest.address tag v .granted) s e
  paid : grantsPaid e = true
  alike : (lowerAsked s v tag j r (decide (v < s.planner.ceiling))).Alike p
  running : p.frozen = false
  barred : p.Barred

section lower

variable {v : Int} {tag : Byte} {j : Nat} {r : Row} {s : State} (run : s.line.state = .run) (away : j ≠ 0)
include run away

/-- At the ceiling the plan has no GRANT step and the GRANTED is sent before it (R115). -/
theorem lowerBegun_level (level : v = s.planner.ceiling) :
    ∃ n p e, buildAsked v tag j r s = testHead n e ∧ LowerBegun s v tag j r p e := by
  let u := discardPlan s
  let e := sendGrant .granted tag u
  let p := lowerAsked u v tag j r false
  have sent := onlyChanges_sendGrant .granted tag u
  have line : e.line = s.line := sent .line (by simp)
  have equal : decide (v < s.planner.ceiling) = false := decide_eq_false level.not_lt
  have built : buildAsked v tag j r s = installPlan p e := by
    unfold buildAsked
    dsimp only
    rw [if_neg (by exact level.not_gt), show (discardPlan s).planner.ceiling = s.planner.ceiling from rfl, equal]
    rfl
  refine ⟨_, p, e.withPlanner { e.planner with plan := some p, target := p.target },
    built.trans (installPlan_run (by rw [line]; exact run)), line, sent .stack (by simp), sent .store (by simp), ?_,
    dest_sendGrant _ _ _, ?_, grantsPaid_sendGrant .granted tag u, ?_, rfl, barred_lower away⟩
  · show ({ e.planner with plan := some p, target := j } : Planner) = _
    rw [show e.planner = u.planner from sent .planner (by simp), if_neg level.not_lt, level]
    rfl
  · rw [level]
    exact waitsOrLost_sendGrant (u := u) .granted tag le_rfl
  · rw [equal]
    exact ⟨rfl, rfl, rfl, rfl, congrArg (List.map PlanStep.shape) (lowerSteps_congr rfl rfl rfl rfl rfl j r v false)⟩

/-- Below the ceiling the plan's first step is a GRANT step that fires at once (R110, R113). -/
theorem lowerBegun_below (below : v < s.planner.ceiling) :
    ∃ n p e, buildAsked v tag j r s = testHead n e ∧ LowerBegun s v tag j r p e := by
  let u := discardPlan s
  let p := lowerAsked u v tag j r true
  let x := u.withPlanner { u.planner with plan := some p, target := j }
  let fired := x.withPlan (some (firedPlan p x))
  let lowered := fired.withPlanner { fired.planner with ceiling := v, grantRow := some j }
  let e := fireHead p (.grant v j) x
  have less : decide (v < s.planner.ceiling) = true := decide_eq_true below
  have built : buildAsked v tag j r s = installPlan p u := by
    unfold buildAsked
    dsimp only
    rw [if_neg (by exact below.not_gt), show (discardPlan s).planner.ceiling = s.planner.ceiling from rfl, less]
    rfl
  have steps : p.steps = .waiting (.grant v j) (.after 0) :: lowerSteps u j r v false := lowerSteps_granting u j r v
  have first : p.steps[p.head]? = some (.waiting (.grant v j) (.after 0)) := by
    rw [steps]
    rfl
  have tested : testHead (p.steps.length + 1) x = testHead p.steps.length e := by
    have test := headTest (n := p.steps.length) (p := p) (s := x) rfl
    generalize testHead (p.steps.length + 1) x = t at test ⊢
    cases test with
    | completes left => cases left.symm.trans first
    | stands _ _ frozen => cases frozen
    | fires y head =>
      cases head.symm.trans first
      rfl
    | waits y head _ fails =>
      cases head.symm.trans first
      simp [testTrigger, tenthsMs, PlanStep.waiting] at fails
  have sent : e = followDrives (sendGrant .granted tag lowered) := rfl
  have granted := onlyChanges_sendGrant .granted tag lowered
  refine ⟨_, firedPlan p x, e, (built.trans (installPlan_run run)).trans tested, granted .line (by simp),
    granted .stack (by simp), granted .store (by simp), ?_, dest_sendGrant _ _ _, ?_, grantsPaid_sendGrant .granted tag lowered, ?_, rfl,
    barred_lower_granted away⟩
  · refine (granted .planner (by simp)).trans ?_
    rw [if_pos below]
    rfl
  · exact waitsOrLost_sendGrant (u := lowered) .granted tag le_rfl
  · rw [less]
    have same : (lowerAsked s v tag j r true).Alike p :=
      ⟨rfl, rfl, rfl, rfl, congrArg (List.map PlanStep.shape) (lowerSteps_congr rfl rfl rfl rfl rfl j r v true)⟩
    exact same.trans (alike_advanced _ p)

end lower

/-- Settles O44: a LOWER plan's GRANT leads it and fires at once, a RAISE plan's waits for the band. -/
theorem asksBuildPlans : Obligations.AsksBuildPlans := by
  intro src dst tag value aux s j r reaches rest stack idle v c shape high row found
  let a := asked (addrOf src) tag value s.planner.plan s
  have unlost : s.sat.insertLoss = a.sat.insertLoss := (loss_asked _ _ _ _ s).symm
  refine ⟨fun run low away => ?_, fun granted above soak new => ?_⟩
  · have asks : s.line.state = .ready → c < v := fun ready => by rw [run] at ready; cases ready
    have new : retags j v s = false := by
      cases plan : s.planner.plan with
      | none => simp [retags, plan]
      | some p => exact Bool.eq_false_iff.mpr fun same => ((retags_iff plan).mp same).2.2.2.not_ge low
    have done := exec_ask_builds (tag := tag) (dst := dst) (aux := aux) reaches stack high (by rw [run]; rfl) row found asks new
    have begun : ∃ n p e, buildAsked v tag j r a = testHead n e ∧ LowerBegun a v tag j r p e := by
      rcases lt_or_eq_of_le low with below | level
      · exact lowerBegun_below (s := a) run away below
      · exact lowerBegun_level (s := a) run away level
    obtain ⟨n, p, e, built, begun⟩ := begun
    let w := testHead n e
    have tested : Tested p e w := tested_testHead n (by rw [begun.planner]) begun.barred
    have store : w.store = s.store := (steady_testHead n e).store.trans begun.store
    have kept := onlyChanges_finish_idle (s := w) (by rw [store]; exact idle)
    have planner : (finish w).planner = w.planner := kept .planner (by simp)
    have line : (finish w).line = w.line := kept .line (by simp)
    have waits : WaitsOrLost (.grant (addrOf src) tag v .granted) a w :=
      begun.waits.later (fun waits => by rwa [tested.outlet]) (by rw [tested.loss])
    have paid : grantsPaid w = true := by
      unfold grantsPaid
      rw [tested.outlet]
      exact begun.paid
    have sent := (waits.since unlost).finish_idle (by rw [store]; exact idle) rfl paid
    refine ⟨finish w, by rw [done]; exact congrArg (Host.Outcome.next <| finish ·) built,
      by rw [line, tested.line, begun.line]; exact run,
      by rw [planner, tested.ceiling, begun.planner], by rw [planner, tested.grantRow, begun.planner]; rfl,
      by rw [planner, tested.target, begun.planner], (kept .stack (by simp)).trans (tested.stack.trans (begun.stack.trans stack)),
      by rw [planner, tested.lastTag, begun.planner]; rfl, ?_, sent, fun q hq => ?_⟩
    · rw [dest_finish (by rw [store]; exact idle), tested.outlet]
      exact begun.dest
    · obtain ⟨alike, frozen⟩ := tested.plan q (planner ▸ hq)
      have same := begun.alike.trans alike
      refine ⟨same.origin, same.ordering, same.request, same.target, frozen.trans begun.running, same.shapes.trans ?_⟩
      exact congrArg (List.map PlanStep.shape) (lowerSteps_congr rfl rfl rfl rfl rfl j r v _)
  · have new : retags j v s = false := by
      cases plan : s.planner.plan with
      | none => simp [retags, plan]
      | some p =>
        refine Bool.eq_false_iff.mpr fun same => ?_
        obtain ⟨raise, toward, waits, _⟩ := (retags_iff plan).mp same
        exact new p plan ⟨raise, toward, waits⟩
    have done := exec_ask_builds (tag := tag) (dst := dst) (aux := aux) reaches stack high granted row found (fun _ => above) new
    obtain ⟨run, ceiling, grantRow, target, lastTag, dest, store, waits, paid, p, plan, origin, ordering, request, toward,
      grantWaits, shapes⟩ := buildAsked_raise (s := a) (tag := tag) (j := j) granted above soak
    let w := buildAsked v tag j r a
    have kept := onlyChanges_finish_idle (s := w) (by rw [store]; exact idle)
    have planner : (finish w).planner = w.planner := kept .planner (by simp)
    have line : (finish w).line = w.line := kept .line (by simp)
    have sent := (waits.since unlost).finish_idle (by rw [store]; exact idle) rfl paid
    refine ⟨finish w, p, done, by rw [line]; exact run, by rw [planner]; exact ceiling, by rw [planner]; exact grantRow,
      by rw [planner]; exact target, by rw [planner]; exact lastTag, ?_, sent, by rw [planner]; exact plan, origin,
      ordering, request, toward, grantWaits, shapes.trans ?_⟩
    · rw [dest_finish (by rw [store]; exact idle)]
      exact dest
    · exact congrArg (List.map PlanStep.shape) (raiseSteps_congr rfl rfl rfl rfl j r v)

end Sys2Proof.Machine

/-!
SUPPORT. A plan's head at its expiry: where the head stands afterwards, what a last step leaves of the planner, its zone and the
transit line, and a plan that stalls.
-/

namespace Sys2Proof.Machine

-- One proof after the other: side by side with the text above, their threads need more memory than the check allows.
set_option Elab.async false

/-! ### The head moves on (R106) -/

/-- A plan moved on: its head has passed steps that are DONE, and the steps before it stand. -/
structure Plan.Onward (p q : Plan) : Prop where
  head : p.head ≤ q.head
  length : q.steps.length = p.steps.length
  before : ∀ i, i < p.head → q.steps[i]? = p.steps[i]?
  passed : ∀ i, p.head ≤ i → i < q.head → ∃ x, q.steps[i]? = some x ∧ x.done = true

theorem onward_of_same {p q : Plan} (steps : q.steps = p.steps := by rfl) (head : q.head = p.head := by rfl) : p.Onward q where
  head := head.ge
  length := congrArg List.length steps
  before _ _ := by rw [steps]
  passed _ low high := absurd high (by omega)

theorem Plan.Onward.trans {p q r : Plan} (h : p.Onward q) (k : q.Onward r) : p.Onward r where
  head := h.head.trans k.head
  length := k.length.trans h.length
  before i low := (k.before i (low.trans_le h.head)).trans (h.before i low)
  passed i low high := by
    rcases Nat.lt_or_ge i q.head with inside | behind
    · rw [k.before i inside]
      exact h.passed i low inside
    · exact k.passed i behind high

/-- A step that fires is passed. -/
theorem onward_advanced {p : Plan} {x : PlanStep} (head : p.steps[p.head]? = some x) (n : Nat) : p.Onward (p.advanced n) where
  head := Nat.le_succ _
  length := List.length_modify ..
  before i low := by
    rw [getElem?_advanced]
    simp [low.ne']
  passed i low high := by
    cases Nat.le_antisymm (Nat.le_of_lt_succ high) low
    exact ⟨{ x with done := true }, by simp [getElem?_advanced, head], rfl⟩

/-- A plan that completes is gone, and the entry into READY installs none (R85). -/
theorem plan_completePlan (p : Plan) (s : State) : (completePlan p s).planner.plan = none := by
  have away : (s.withPlan none).planner.plan = none := rfl
  have master : ∀ u : State, u.planner.plan = none → (masterAtReady u).planner.plan = none := fun u plan => by
    unfold masterAtReady
    split
    · refine Option.not_isSome_iff_eq_none.mp fun stands => ?_
      have before := (push_planner .masterLost u).2 stands
      rw [plan] at before
      cases before
    · exact plan
  unfold completePlan
  dsimp only
  split
  · refine master _ ?_
    rw [sendUnasked_planner]
    show (enterLine .ready (s.withPlan none)).planner.plan = none
    rw [enterLine_planner]
    rfl
  · exact away

/-- The tests of a plan's head end the plan or move it on. -/
theorem onward_testHead (n : Nat) {p : Plan} {s : State} (plan : s.planner.plan = some p) :
    (testHead n s).planner.plan = none ∨ ∃ q, (testHead n s).planner.plan = some q ∧ p.Onward q := by
  induction n generalizing p s with
  | zero => exact .inr ⟨p, plan, onward_of_same⟩
  | succ n ih =>
    have test := headTest (n := n) plan
    generalize testHead (n + 1) s = t at test ⊢
    cases test with
    | completes => exact .inl (plan_completePlan p s)
    | stands => exact .inr ⟨p, plan, onward_of_same⟩
    | waits => exact .inr ⟨_, rfl, onward_of_same⟩
    | fires x head =>
      exact (ih (fireHead_plan p x.kind s)).imp_right fun ⟨q, stands, onward⟩ =>
        ⟨q, stands, (onward_advanced head _).trans onward⟩

/-! ### The last step (R102, R106) -/

/-- With its last step fired a plan toward a row above row 0 is gone, and nothing else has followed. -/
theorem testHead_last {n : Nat} {p : Plan} {s : State} (last : p.head + 1 = p.steps.length) (away : p.target ≠ 0)
    (k : StepKind) : testHead (n + 1) (fireHead p k s) = (fireHead p k s).withPlan none := by
  have left : (firedPlan p s).steps[(firedPlan p s).head]? = none := by
    rw [getElem?_advanced, List.getElem?_eq_none (by exact last.ge)]
    rfl
  have test := headTest (n := n) (fireHead_plan p k s)
  generalize testHead (n + 1) (fireHead p k s) = t at test ⊢
  cases test with
  | completes => exact completePlan_away away _
  | stands _ head | fires _ head | waits _ head => cases left.symm.trans head

/-- A step's effect on the planner does not read the plan. -/
theorem fired_plan (k : Planner) (a : Option Plan) (req : Option Request) (active : List Row) (x : StepKind) :
    { (({ k with plan := a } : Planner).fired req active x) with plan := none } =
      ({ k with plan := none } : Planner).fired req active x := by
  cases x
  case grant v j => by_cases asked : req.isSome = true <;> simp [Planner.fired, Planner.granted, asked]
  all_goals rfl

theorem zones_fireHead_setZone {p : Plan} {z : Zone} {a ff rp : Int} {s : State} (present : s.present z = true) :
    (fireHead p (.setZone z a ff rp) s).zones.get z = (s.zones.get z).retargeted s.loopParams s.line.state a ff rp := by
  let u := setTargets z (fun t => { t with air := a, feedforward := ff, ramp := rp }) (s.withPlan (some (firedPlan p s)))
  have retargets : retargetZone z a ff rp u = u.withZone z ((u.zones.get z).retargeted u.loopParams u.line.state a ff rp) :=
    if_pos present
  show (retargetZone z a ff rp u).zones.get z = _
  rw [retargets]
  exact (PerZone.get_set _ _ _ _).trans (if_pos rfl)

/-- The burner demand of a zone in a line whose loops control (R130). -/
theorem burnerDemand_controlled {q : Params} {l : LineState} (r : ZoneRec) (h : l.controlled = true) :
    burnerDemand q l r =
      if r.ignition = .igniting ∨ r.ignition = .proven then min 1000 (max (q.minFire : Int) (r.feedforward + r.trim)) else 0 := by
  unfold burnerDemand
  cases l
  case heatup | ready | run => cases r.ignition <;> simp [clampInt]
  all_goals cases h

/-- A zone's new targets in a line whose loops control (R132). -/
theorem retargeted_controlled {q : Params} {l : LineState} {a ff rp : Int} (r : ZoneRec) (h : l.controlled = true) :
    let y := r.retargeted q l a ff rp
    y.target = a ∧ y.feedforward = ff ∧ y.ramp = rp ∧ y.trim = r.trim ∧ y.current = r.current ∧
      y.burner =
        if r.ignition = .igniting ∨ r.ignition = .proven then min 1000 (max (q.minFire : Int) (ff + r.trim)) else 0 :=
  ⟨rfl, rfl, rfl, rfl, rfl, burnerDemand_controlled _ h⟩

/-! ### The transit line (R142, R144) -/

/-- The entry a QUEUE_CHILL step appends. -/
abbrev queued (s : State) (c : Circuit) (sp : Int) (i : Nat) : TransitEntry :=
  { remaining := s.params.pathLength, circuit := c, setpoint := sp, row := i }

theorem appendTransit_room {c : Circuit} {sp : Int} {i : Nat} {s : State} (room : s.transit.length < 8) :
    appendTransit c sp i s = s.withTransit (s.transit ++ [queued s c sp i]) := by
  unfold appendTransit
  dsimp only
  rw [if_pos (by exact room)]

theorem appendTransit_full {c : Circuit} {sp : Int} {i : Nat} {s : State} (full : 8 ≤ s.transit.length) :
    appendTransit c sp i s =
      (forceHead s).withTransit ((forceHead s).transit ++ [queued (forceHead s) c sp i]) := by
  unfold appendTransit
  dsimp only
  rw [if_neg (by exact full.not_gt)]

/-- A full line's head matures early, counted and raised (R142, R144). -/
theorem forceHead_leaves {e : TransitEntry} {rest : List TransitEntry} {s : State} (line : s.transit = e :: rest) :
    (forceHead s).transit = rest ∧
      (forceHead s).circuits =
        (if s.circuitPresent e.circuit then
          s.circuits.set e.circuit (landed s.params (s.circuits.get e.circuit) e.setpoint) else s.circuits) ∧
      (forceHead s).sat.transitForced = satInc s.sat.transitForced ∧ Raised .transitForced (forceHead s).faults := by
  let u := s.withTransit rest
  have matures : (mature e u).circuits =
      if s.circuitPresent e.circuit then
        s.circuits.set e.circuit (landed s.params (s.circuits.get e.circuit) e.setpoint) else s.circuits := by
    unfold mature
    cases present : s.circuitPresent e.circuit with
    | true =>
      rw [setSetpoint_present (s := u) present]
      rfl
    | false =>
      rw [setSetpoint_absent (s := u) present]
      rfl
  have kept := onlyChanges_mature e u
  unfold forceHead
  rw [line]
  exact ⟨kept .transit (by simp), matures, congrArg (fun n => satInc (SatCounts.transitForced n)) (kept .sat (by simp)),
    raised_raiseFault _ _⟩

/-- The state in which a QUEUE_CHILL step that fires appends its entry. -/
abbrev queueState (p : Plan) (c : Circuit) (sp : Int) (s : State) : State :=
  let u := s.withPlan (some (firedPlan p s))
  u.withPlanner { u.planner with inForce := { u.planner.inForce with chill := u.planner.inForce.chill.set c sp } }

theorem fireHead_queueChill (p : Plan) (c : Circuit) (sp : Int) (i : Nat) (s : State) :
    fireHead p (.queueChill c sp i) s = followDrives (appendTransit c sp i (queueState p c sp s)) := rfl

/-- A QUEUE_CHILL step fired onto a transit line with room. -/
theorem fireHead_queueChill_room {p : Plan} {c : Circuit} {sp : Int} {i : Nat} {s : State} (room : s.transit.length < 8) :
    let x := fireHead p (.queueChill c sp i) s
    x.transit = s.transit ++ [queued s c sp i] ∧ x.circuits = s.circuits ∧ x.sat.transitForced = s.sat.transitForced := by
  rw [fireHead_queueChill, appendTransit_room (s := queueState p c sp s) room]
  exact ⟨rfl, rfl, rfl⟩

/-- A QUEUE_CHILL step fired onto a full transit line. -/
theorem fireHead_queueChill_full {p : Plan} {c : Circuit} {sp : Int} {i : Nat} {s : State} {e : TransitEntry}
    {rest : List TransitEntry} (line : s.transit = e :: rest) (full : 8 ≤ s.transit.length) :
    let x := fireHead p (.queueChill c sp i) s
    x.transit = rest ++ [queued s c sp i] ∧
      x.circuits =
        (if s.circuitPresent e.circuit then
          s.circuits.set e.circuit (landed s.params (s.circuits.get e.circuit) e.setpoint) else s.circuits) ∧
      x.sat.transitForced = satInc s.sat.transitForced ∧ Raised .transitForced x.faults := by
  let u := queueState p c sp s
  obtain ⟨left, matured, counted, raised⟩ := forceHead_leaves (s := u) line
  have params : (forceHead u).params = s.params := congrArg Agent.params (onlyChanges_forceHead u .agent (by simp))
  rw [fireHead_queueChill, appendTransit_full (s := u) full]
  refine ⟨?_, matured, counted, raised⟩
  show (forceHead u).transit ++ [queued (forceHead u) c sp i] = _
  rw [left, queued, params]

/-! ### The end of the event -/

/-- The counts but INSERT_LOSS. -/
def SatCounts.others (n : SatCounts) : SatCounts := { n with insertLoss := 0 }

theorem others_insertFrame (f : OwnFrame) (s : State) : (insertFrame f s).sat.others = s.sat.others := by
  unfold insertFrame
  split <;> rfl

theorem others_insertAll (l : List OwnFrame) (s : State) : (insertAll l s).sat.others = s.sat.others := by
  induction l generalizing s with
  | nil => rfl
  | cons f l ih => exact (ih _).trans (others_insertFrame f s)

section idle

variable {s : State} (idle : s.store.status ≠ .pending)
include idle

/-- The end of an event counts nothing but INSERT_LOSS. -/
theorem others_finish : (finish s).sat.others = s.sat.others := by
  have swept : (closeEvent s).sat = (payGrants (driveStage s)).sat := by
    rw [closeEvent, settleStore_of_settled (storeSettled_of_idle idle)]
    exact onlyChanges_sweepFaults _ .sat (by simp)
  calc (finish s).sat.others = (closeEvent s).sat.others := congrArg SatCounts.others (outletAlone_arbitrate _).sat
    _ = (payGrants (driveStage s)).sat.others := by rw [swept]
    _ = (driveStage s).sat.others := others_insertAll _ _
    _ = s.sat.others := others_insertAll _ _

theorem transitForced_finish : (finish s).sat.transitForced = s.sat.transitForced :=
  show (finish s).sat.others.transitForced = s.sat.others.transitForced from congrArg _ (others_finish idle)

/-- An entry raised in an event is pending at its end. -/
theorem Raised.finish_idle {e : FaultCode} (raised : Raised e s.faults) : (finish s).faults.pending &&& e.bit ≠ 0 := by
  have paid : (payGrants (driveStage s)).faults = s.faults := (payGrants_same _).faults.trans (driveStage_same s).faults
  rw [finish, (outletAlone_arbitrate _).judged.faults, closeEvent, settleStore_of_settled (storeSettled_of_idle idle)]
  exact pending_sweepFaults_untaken (paid ▸ raised.untaken) (paid ▸ raised.pending)

end idle

/-- What the event of a plan's last step leaves, for a plan toward a row above row 0: the step's effect, and no plan. -/
structure LastFired (p : Plan) (k : StepKind) (s t : State) : Prop where
  planner : t.planner = ({ s.planner with plan := none } : Planner).fired p.request s.store.active k
  zones : t.zones = (fireHead p k s).zones
  transit : t.transit = (fireHead p k s).transit
  circuits : t.circuits = (fireHead p k s).circuits
  transitForced : t.sat.transitForced = (fireHead p k s).sat.transitForced
  raised : ∀ e, Raised e (fireHead p k s).faults → t.faults.pending &&& e.bit ≠ 0

theorem lastFired {n : Nat} {p : Plan} {k : StepKind} {s : State} (last : p.head + 1 = p.steps.length) (away : p.target ≠ 0)
    (idle : s.store.status ≠ .pending) : LastFired p k s (finish (testHead (n + 1) (fireHead p k s))) := by
  let w := (fireHead p k s).withPlan none
  have calm : w.store.status ≠ .pending := by
    rw [show w.store = s.store from onlyChanges_fireHead p k s .store (by simp)]
    exact idle
  have kept := onlyChanges_finish_idle calm
  rw [testHead_last last away]
  refine ⟨?_, kept .zones (by simp), kept .transit (by simp), kept .circuits (by simp), transitForced_finish calm,
    fun e raised => Raised.finish_idle calm raised⟩
  rw [show (finish w).planner = w.planner from kept .planner (by simp)]
  show ({ (fireHead p k s).planner with plan := none } : Planner) = _
  rw [fireHead_planner, fired_plan]

/-- The expiries at which a plan's head fires run its firing (R103 to R105). -/
theorem exec_fires {c : Instr} {s : State} {p : Plan} {h : PlanStep}
    (expiry : c ∈ [Instr.headTimerAfter, .soakComplete, .slowedDelayExpiry]) (due : runOut s c = true)
    (plan : s.planner.plan = some p) (head : p.steps[p.head]? = some h) :
    exec c s = .next (finish (testHead (p.steps.length + 1) (fireHead p h.kind s))) := by
  have fires : fireWork s = testHead (p.steps.length + 1) (fireHead p h.kind s) := by
    unfold fireWork
    rw [plan]
    show fireDue p s = _
    unfold fireDue
    rw [head]
  rw [← fires]
  simp only [List.mem_cons, List.not_mem_nil, or_false] at expiry
  rcases expiry with rfl | rfl | rfl <;> exact congrArg Host.Outcome.next (whenDue_due due)

/-- A plan that stalls is gone, with HEAT_SHORTFALL and a GRANT REFUSED to its request (R107). -/
theorem stallPlan_leaves (p : Plan) (s : State) :
    let w := stallPlan p s
    w.planner = { s.planner with plan := none } ∧ w.line = s.line ∧ w.store = s.store ∧ Raised .heatShortfall w.faults ∧
      ∀ q, p.request = some q →
        WaitsOrLost (.grant s.outlet.dest.address q.tag s.planner.ceiling .refused) s w ∧ grantsPaid w = true := by
  intro w
  let u := raiseFault .heatShortfall (s.withPlan none)
  have raised : Raised .heatShortfall u.faults := raised_raiseFault _ _
  cases request : p.request with
  | none =>
    have stalled : w = u := by
      show stallPlan p s = u
      unfold stallPlan
      rw [request]
    rw [stalled]
    exact ⟨rfl, rfl, rfl, raised, nofun⟩
  | some q =>
    have stalled : w = sendGrant .refused q.tag u := by
      show stallPlan p s = _
      unfold stallPlan
      rw [request]
    have kept := onlyChanges_sendGrant .refused q.tag u
    have faults : (sendGrant .refused q.tag u).faults = u.faults := kept .faults (by simp)
    rw [stalled, faults]
    refine ⟨kept .planner (by simp), kept .line (by simp), kept .store (by simp), raised, fun r same => ?_⟩
    cases same
    exact ⟨waitsOrLost_sendGrant (u := u) .refused q.tag le_rfl, grantsPaid_sendGrant .refused q.tag u⟩

/-- Settles O46: the firing moves the head on, a last step is its effect alone, and a stall ends the plan. -/
theorem headsFireAndStall : Obligations.HeadsFireAndStall := by
  intro s p rest plan idle k ended withZone fired
  refine ⟨fun c h expiry due head => ?_, fun due => ?_⟩
  · have done := exec_fires expiry due plan head
    let x := fireHead p h.kind s
    let w := testHead (p.steps.length + 1) x
    have store : w.store = s.store :=
      (steady_testHead _ x).store.trans (onlyChanges_fireHead p h.kind s .store (by simp))
    have calm : w.store.status ≠ .pending := by
      rw [store]
      exact idle
    have kept := onlyChanges_finish_idle calm
    refine ⟨finish w, done, ?_, fun last away => ?_⟩
    · rw [show (finish w).planner = w.planner from kept .planner (by simp)]
      refine (onward_testHead _ (fireHead_plan p h.kind s)).imp_right fun ⟨q, stands, onward⟩ => ?_
      have moved := (onward_advanced head (seconds s.params.readyTimeout)).trans onward
      exact ⟨q, stands, onward.head, moved.length, moved.passed⟩
    · have effect : LastFired p h.kind s (finish w) := lastFired last away idle
      refine ⟨?_, fun z a ff rp kind present controlled => ?_, fun c sp i kind => ?_⟩
      · rw [effect.planner]
        cases h.kind <;> rfl
      · rw [kind] at effect
        rw [effect.zones, zones_fireHead_setZone present]
        exact retargeted_controlled (s.zones.get z) controlled
      · rw [kind] at effect
        rw [effect.transit, effect.circuits, effect.transitForced]
        refine ⟨fireHead_queueChill_room, fun e rest line full => ?_⟩
        obtain ⟨transit, circuits, counted, raised⟩ :=
          fireHead_queueChill_full (p := p) (c := c) (sp := sp) (i := i) line full
        exact ⟨transit, circuits, by rw [counted, satInc_eq], effect.raised _ raised⟩
  · obtain ⟨planner, line, store, raised, sent⟩ := stallPlan_leaves p s
    let w := stallPlan p s
    have calm : w.store.status ≠ .pending := by
      rw [show w.store = s.store from store]
      exact idle
    have kept := onlyChanges_finish_idle calm
    have stalls : stallWork s = w := by
      unfold stallWork
      rw [plan]
    have done : exec .readyTimeout s = .next (finish w) := by
      rw [← stalls]
      exact congrArg Host.Outcome.next (whenDue_due due)
    refine ⟨finish w, done, (kept .planner (by simp)).trans planner, (kept .line (by simp)).trans line,
      raised.finish_idle calm, fun q request => ?_⟩
    obtain ⟨waits, paid⟩ := sent q request
    exact waits.finish_idle calm rfl paid

end Sys2Proof.Machine

/-!
SUPPORT. What the work of an event that does not enter HEATUP leaves alone of the loops, the counts, the entries raised and the
zones' flags: one lemma per shared operation that a reading or a control period can reach.
-/

namespace Sys2Proof.Machine

-- One proof after the other: side by side with the text above, their threads need more memory than the check allows.
set_option Elab.async false

/-! ### What the loops, the counts and the entries keep -/

/-- No entry into HEATUP and no control period lies between two states: the ramps and the trims stand, the valves too but in LOCKOUT,
and absent zones keep their records; LOCKOUT is not left, and a closed permit opens for it alone; what is raised stays so; and outside
READY and RUN no LEL_WARN is raised. -/
structure KeepsLoops (s t : State) : Prop where
  kindMismatch : t.sat.kindMismatch = s.sat.kindMismatch
  control : t.line.control = s.line.control
  minFire : t.line.priorMinFire = s.line.priorMinFire
  zonesPresent : t.line.zonesPresent = s.line.zonesPresent
  circuitsPresent : t.line.circuitsPresent = s.line.circuitsPresent
  absent : ∀ z, s.present z = false → t.zones.get z = s.zones.get z
  ramp : ∀ z, (t.zones.get z).current = (s.zones.get z).current ∧ (t.zones.get z).trim = (s.zones.get z).trim
  valve : t.line.state = .lockout ∨ ∀ c, (t.circuits.get c).valve = (s.circuits.get c).valve
  locked : s.line.state = .lockout → t.line.state = .lockout
  permit : s.line.state.permitClosed = true → t.line.state.permitClosed = true ∨ t.line.state = .lockout
  raised : ∀ e, Raised e s.faults → Raised e t.faults
  unwarned : s.line.state.granted = false → s.faults.pending &&& FaultCode.lelWarn.bit = 0 →
    t.line.state.granted = false ∧ t.faults.pending &&& FaultCode.lelWarn.bit = 0

/-- The zones' flags stand as well. -/
structure KeepsFlags (s t : State) : Prop extends KeepsLoops s t where
  flags : t.supervisor.flags = s.supervisor.flags

theorem KeepsLoops.refl (s : State) : KeepsLoops s s where
  kindMismatch := rfl
  control := rfl
  minFire := rfl
  zonesPresent := rfl
  circuitsPresent := rfl
  absent _ _ := rfl
  ramp _ := ⟨rfl, rfl⟩
  valve := .inr fun _ => rfl
  locked := id
  permit := .inl
  raised _ := id
  unwarned outside silent := ⟨outside, silent⟩

theorem KeepsLoops.trans {s t u : State} (h : KeepsLoops s t) (k : KeepsLoops t u) : KeepsLoops s u where
  kindMismatch := k.kindMismatch.trans h.kindMismatch
  control := k.control.trans h.control
  minFire := k.minFire.trans h.minFire
  zonesPresent := k.zonesPresent.trans h.zonesPresent
  circuitsPresent := k.circuitsPresent.trans h.circuitsPresent
  absent z away := (k.absent z ((congrArg (·.get z) h.zonesPresent).trans away)).trans (h.absent z away)
  ramp z := ⟨(k.ramp z).1.trans (h.ramp z).1, (k.ramp z).2.trans (h.ramp z).2⟩
  valve := k.valve.elim .inl fun later => h.valve.elim (fun lockout => .inl (k.locked lockout)) fun first =>
    .inr fun c => (later c).trans (first c)
  locked lockout := k.locked (h.locked lockout)
  permit closed := (h.permit closed).elim k.permit fun lockout => .inr (k.locked lockout)
  raised e up := k.raised e (h.raised e up)
  unwarned outside silent := have ⟨outside', silent'⟩ := h.unwarned outside silent; k.unwarned outside' silent'

theorem KeepsLoops.ite {s t u : State} {c : Prop} [Decidable c] (h : KeepsLoops s t) (k : KeepsLoops s u) :
    KeepsLoops s (if c then t else u) := by split <;> assumption

theorem KeepsFlags.refl (s : State) : KeepsFlags s s := ⟨.refl s, rfl⟩

theorem KeepsFlags.trans {s t u : State} (h : KeepsFlags s t) (k : KeepsFlags t u) : KeepsFlags s u :=
  ⟨h.toKeepsLoops.trans k.toKeepsLoops, k.flags.trans h.flags⟩

theorem KeepsFlags.ite {s t u : State} {c : Prop} [Decidable c] (h : KeepsFlags s t) (k : KeepsFlags s u) :
    KeepsFlags s (if c then t else u) := by split <;> assumption

/-! ### Updates -/

/-- Blocks that none of it is read from may change, and of the others the timers, INSERT_LOSS and the watches. -/
theorem keepsFlags_of_same {s t : State} (line : t.line = s.line := by rfl) (zones : t.zones = s.zones := by rfl)
    (circuits : t.circuits = s.circuits := by rfl) (faults : t.faults = s.faults := by rfl)
    (flags : t.supervisor.flags = s.supervisor.flags := by rfl)
    (kindMismatch : t.sat.kindMismatch = s.sat.kindMismatch := by rfl) : KeepsFlags s t where
  kindMismatch := kindMismatch
  control := by rw [line]
  minFire := by rw [line]
  zonesPresent := by rw [line]
  circuitsPresent := by rw [line]
  absent z _ := by rw [zones]
  ramp z := by rw [zones]; exact ⟨rfl, rfl⟩
  valve := by rw [circuits]; exact .inr fun _ => rfl
  locked lockout := by rwa [line]
  permit closed := by rw [line]; exact .inl closed
  raised e up := by rwa [faults]
  unwarned outside silent := by rw [line, faults]; exact ⟨outside, silent⟩
  flags := flags

theorem keepsFlags_withSettle (s : State) (x : Timer) : KeepsFlags s (s.withLine { s.line with settle := x }) :=
  { KeepsFlags.refl s with }

theorem keepsFlags_withFaults {s : State} {x : Faults} (raised : ∀ e, Raised e s.faults → Raised e x)
    (unwarned : s.line.state.granted = false → s.faults.pending &&& FaultCode.lelWarn.bit = 0 →
      x.pending &&& FaultCode.lelWarn.bit = 0) : KeepsFlags s (s.withFaults x) :=
  { KeepsFlags.refl s with raised := raised, unwarned := fun outside silent => ⟨outside, unwarned outside silent⟩ }

theorem keepsFlags_withZone {s : State} {z : Zone} {r : ZoneRec} (present : s.present z = true)
    (current : r.current = (s.zones.get z).current) (trim : r.trim = (s.zones.get z).trim) : KeepsFlags s (s.withZone z r) :=
  { KeepsFlags.refl s with
    absent := fun y away => by
      refine (PerZone.get_set ..).trans (if_neg ?_)
      rintro rfl
      simp [present] at away
    ramp := fun y => by
      show ((s.zones.set z r).get y).current = _ ∧ ((s.zones.set z r).get y).trim = _
      rw [PerZone.get_set]
      split
      · rename_i own
        exact own ▸ ⟨current, trim⟩
      · exact ⟨rfl, rfl⟩ }

theorem keepsFlags_withCircuit {s : State} {c : Circuit} {r : CircuitRec} (valve : r.valve = (s.circuits.get c).valve) :
    KeepsFlags s (s.withCircuit c r) :=
  { KeepsFlags.refl s with
    valve := .inr fun k => by
      show ((s.circuits.set c r).get k).valve = _
      rw [PerCircuit.get_set]
      split
      · rename_i own
        exact own ▸ valve
      · rfl }

theorem keepsFlags_forZones (f : Zone → State → State) (hf : ∀ z s, KeepsFlags s (f z s)) (s : State) :
    KeepsFlags s (forZones f s) := ((hf _ _).trans (hf _ _)).trans ((hf _ _).trans (hf _ _))

theorem keepsFlags_forCircuits (f : Circuit → State → State) (hf : ∀ c s, KeepsFlags s (f c s)) (s : State) :
    KeepsFlags s (forCircuits f s) := (hf _ _).trans (hf _ _)

/-! ### Faults and frames -/

/-- The raise of an entry leaves the others raised (R183). -/
theorem Raised.raiseFault {f : FaultCode} {s : State} (h : Raised f s.faults) (e : FaultCode) :
    Raised f (raiseFault e s).faults where
  pending := pending_raiseFault e h.pending
  untaken := by
    show (s.faults.taken &&& ~~~ e.bit) &&& f.bit = 0
    rw [BitVec.and_assoc, BitVec.and_comm (~~~ e.bit), ← BitVec.and_assoc, h.untaken]
    exact BitVec.zero_and

/-- An entry that is raised outlives the sweep (R183). -/
theorem Raised.swept {e : FaultCode} {s : State} (h : Raised e s.faults) : Raised e (sweepFaults s).faults where
  pending := pending_sweepFaults_untaken h.untaken h.pending
  untaken := by
    obtain ⟨out, swept⟩ := sweepFaults_eq s
    rw [swept]
    exact h.untaken

/-- No other entry's raise makes LEL_WARN pending. -/
theorem unwarned_raiseFault {e : FaultCode} {s : State} (other : e ≠ .lelWarn)
    (h : s.faults.pending &&& FaultCode.lelWarn.bit = 0) : (raiseFault e s).faults.pending &&& FaultCode.lelWarn.bit = 0 := by
  have apart : e.bit &&& FaultCode.lelWarn.bit = 0 := by
    cases e
    case lelWarn => exact absurd rfl other
    all_goals decide
  show (s.faults.pending ||| e.bit) &&& FaultCode.lelWarn.bit = 0
  rw [BitVec.and_comm, BitVec.and_or_distrib_left, BitVec.and_comm, h, BitVec.and_comm, apart]
  exact BitVec.or_self

theorem keepsFlags_raiseFault {e : FaultCode} {s : State} (h : e ≠ .lelWarn ∨ s.line.state.granted = true) :
    KeepsFlags s (raiseFault e s) :=
  keepsFlags_withFaults (fun _ up => up.raiseFault e) fun outside silent =>
    h.elim (fun other => unwarned_raiseFault other silent) fun granted => absurd (granted.symm.trans outside) nofun

theorem keepsFlags_sweepFaults (s : State) : KeepsFlags s (sweepFaults s) := by
  have up : ∀ e, Raised e s.faults → Raised e (sweepFaults s).faults := fun e h => h.swept
  obtain ⟨out, swept⟩ := sweepFaults_eq s
  rw [swept] at up ⊢
  refine keepsFlags_withFaults up fun _ silent => ?_
  show (s.faults.pending &&& _) &&& FaultCode.lelWarn.bit = 0
  rw [BitVec.and_assoc, BitVec.and_comm (_ ||| _), ← BitVec.and_assoc, silent]
  exact BitVec.zero_and

theorem keepsFlags_insertFrame (f : OwnFrame) (s : State) : KeepsFlags s (insertFrame f s) := by
  unfold insertFrame
  split <;> exact keepsFlags_of_same

theorem keepsFlags_insertAll (l : List OwnFrame) (s : State) : KeepsFlags s (insertAll l s) := by
  induction l generalizing s with
  | nil => exact .refl s
  | cons f l ih => exact (keepsFlags_insertFrame f s).trans (ih _)

theorem keepsFlags_payGrants (s : State) : KeepsFlags s (payGrants s) :=
  have unowed : KeepsFlags s (s.withOutlet { s.outlet with owed := [] }) := keepsFlags_of_same
  unowed.trans (keepsFlags_insertAll _ _)

theorem keepsFlags_sendGrant (st : GrantStatus) (tag : Byte) (s : State) : KeepsFlags s (sendGrant st tag s) :=
  (keepsFlags_payGrants s).trans (keepsFlags_insertFrame _ _)

theorem keepsFlags_sendUnasked (st : GrantStatus) (s : State) : KeepsFlags s (sendUnasked st s) := keepsFlags_sendGrant _ _ s

theorem keepsFlags_withPlanner (s : State) (x : Planner) : KeepsFlags s (s.withPlanner x) := keepsFlags_of_same

theorem keepsFlags_withPlan (s : State) (p : Option Plan) : KeepsFlags s (s.withPlan p) := keepsFlags_of_same

theorem keepsFlags_withStack (s : State) (l : List Context) : KeepsFlags s (s.withStack l) := keepsFlags_of_same

theorem keepsFlags_followDrives (s : State) : KeepsFlags s (followDrives s) := keepsFlags_of_same

theorem keepsFlags_driveStage (s : State) : KeepsFlags s (driveStage s) :=
  have paid : KeepsFlags s ((followDrives s).withChannels ((followDrives s).channels.map Entry.paid)) := keepsFlags_of_same
  paid.trans (keepsFlags_insertAll _ _)

/-! ### Zones, circuits, the transit line -/

theorem keepsFlags_retargetZone (z : Zone) (a f r : Int) (s : State) : KeepsFlags s (retargetZone z a f r s) := by
  unfold retargetZone
  split
  · rename_i present
    exact keepsFlags_withZone present rfl rfl
  · exact .refl s

theorem keepsFlags_setSetpoint (c : Circuit) (v : Int) (s : State) : KeepsFlags s (setSetpoint c v s) :=
  KeepsFlags.ite (keepsFlags_withCircuit rfl) (.refl s)

theorem keepsFlags_forceHead (s : State) : KeepsFlags s (forceHead s) := by
  unfold forceHead
  split
  · exact .refl s
  · rename_i e rest _
    have matured : KeepsFlags s (mature e (s.withTransit rest)) :=
      (keepsFlags_of_same : KeepsFlags s (s.withTransit rest)).trans (keepsFlags_setSetpoint _ _ _)
    have counted : ∀ u : State, KeepsFlags u (u.withSat { u.sat with transitForced := satInc u.sat.transitForced }) :=
      fun _ => keepsFlags_of_same
    exact (matured.trans (counted _)).trans (keepsFlags_raiseFault (.inl nofun))

theorem keepsFlags_appendTransit (c : Circuit) (v : Int) (j : Nat) (s : State) : KeepsFlags s (appendTransit c v j s) :=
  (KeepsFlags.ite (.refl s) (keepsFlags_forceHead s)).trans keepsFlags_of_same

/-! ### The context stack -/

theorem keepsFlags_overlay (c : Cause) (s : State) : KeepsFlags s (overlay c s) := by
  cases c <;> exact keepsFlags_of_same

theorem keepsFlags_saveContext (c : Cause) (s : State) : KeepsFlags s (saveContext c s) :=
  (keepsFlags_overlay c s).trans (keepsFlags_withStack _ _)

theorem keepsFlags_overflowStack (s : State) : KeepsFlags s (overflowStack s) :=
  have counted : KeepsFlags s ((s.withStack (mapLast (baseContext s) s.stack.dropLast)).withSat
      { s.sat with stackLoss := satInc s.sat.stackLoss }) := keepsFlags_of_same
  counted.trans (keepsFlags_raiseFault (.inl nofun))

theorem keepsFlags_push (c : Cause) (s : State) : KeepsFlags s (push c s) := by
  unfold push
  refine KeepsFlags.ite (.refl s) (KeepsFlags.ite (.refl s) ?_)
  split
  · exact KeepsFlags.ite ((keepsFlags_overlay c s).trans (keepsFlags_withStack _ _)) (.refl s)
  · exact KeepsFlags.ite (keepsFlags_saveContext c s) ((keepsFlags_overflowStack s).trans (keepsFlags_saveContext c _))

/-! ### State entries -/

theorem keepsFlags_grantAtEntry (l : LineState) (s : State) : KeepsFlags s (grantAtEntry l s) := by
  have withdrawn : KeepsFlags s (withdrawGrant s) := keepsFlags_of_same
  exact KeepsFlags.ite (.refl s) (KeepsFlags.ite (withdrawn.trans (keepsFlags_sendUnasked _ _)) withdrawn)

/-- Entries other than HEATUP's leave a zone's ramp and trim as they stand (R127, R128). -/
theorem entered_ramp {p : Params} {l : LineState} {t : ZoneTargets} {r : ZoneRec} (h : l ≠ .heatup) :
    (r.entered p l t).current = r.current ∧ (r.entered p l t).trim = r.trim := by
  unfold ZoneRec.entered
  rw [if_neg h]
  exact ⟨rfl, rfl⟩

/-- Entries into READY and RUN leave a valve as it stands (R141). -/
theorem entered_valve {p : Params} {l : LineState} {v : Int} {r : CircuitRec} (h : l.granted = true) :
    (r.entered p l v).valve = r.valve := by
  cases l
  case ready | run => rfl
  all_goals cases h

theorem permitClosed_of_granted {l : LineState} (h : l.granted = true) : l.permitClosed = true := by
  cases l
  case ready | run => rfl
  all_goals cases h

/-- LOCKOUT is entered from any state, READY and RUN from each other. -/
theorem keepsFlags_enterLine {l : LineState} {s : State} (h : l = .lockout ∨ l.granted = true ∧ s.line.state.granted = true) :
    KeepsFlags s (enterLine l s) where
  kindMismatch := by rw [enterLine_sat]; exact (keepsFlags_grantAtEntry l s).kindMismatch
  control := by rw [enterLine_line]
  minFire := by rw [enterLine_line]
  zonesPresent := by rw [enterLine_line]
  circuitsPresent := by rw [enterLine_line]
  absent z away := by rw [zone_enterLine, if_neg (by simp [away])]
  ramp z := by
    rw [zone_enterLine]
    split
    · exact entered_ramp (by rintro rfl; rcases h with h | ⟨h, _⟩ <;> cases h)
    · exact ⟨rfl, rfl⟩
  valve := h.imp (fun lockout => by rw [enterLine_line]; exact lockout) fun ⟨granted, _⟩ c => by
    rw [circuit_enterLine]
    split
    · exact entered_valve granted
    · rfl
  locked lockout := by
    rw [enterLine_line]
    exact h.elim id fun ⟨_, granted⟩ => by rw [lockout] at granted; cases granted
  permit _ := by
    rw [enterLine_line]
    exact h.elim .inr fun ⟨granted, _⟩ => .inl (permitClosed_of_granted granted)
  raised e up := by rwa [onlyChanges_enterLine l s .faults (by simp)]
  unwarned outside silent := by
    rw [onlyChanges_enterLine l s .faults (by simp), enterLine_line]
    refine ⟨h.elim (fun lockout => by rw [lockout]; rfl) fun ⟨_, granted⟩ => ?_, silent⟩
    exact absurd (granted.symm.trans outside) nofun
  flags := by rw [enterLine_supervisor]; cases l <;> rfl

theorem keepsFlags_tripLine (s : State) : KeepsFlags s (tripLine s) :=
  have emptied : KeepsFlags s (flushTransit (discardPlan (emptyStack s))) := keepsFlags_of_same
  KeepsFlags.ite (.refl s) (emptied.trans (keepsFlags_enterLine (.inl rfl)))

theorem keepsFlags_trip {e : FaultCode} (other : e ≠ .lelWarn) (s : State) : KeepsFlags s (trip e s) :=
  (keepsFlags_raiseFault (.inl other)).trans (keepsFlags_tripLine _)

theorem keepsFlags_sensorTested (b : Bool) (s : State) : KeepsFlags s (sensorTested b s) :=
  KeepsFlags.ite (keepsFlags_trip (e := .sensorFail) nofun s) (.refl s)

theorem keepsFlags_speedLost (s : State) : KeepsFlags s (speedLost s) :=
  (keepsFlags_raiseFault (e := .speedLost) (.inl nofun)).trans (keepsFlags_push _ _)

theorem keepsFlags_readyFromRun {s : State} (granted : s.line.state.granted = true) : KeepsFlags s (readyFromRun s) :=
  ((keepsFlags_enterLine (.inr ⟨rfl, granted⟩)).trans (keepsFlags_withPlanner _ _)).trans
    ((keepsFlags_sendUnasked _ _).trans (KeepsFlags.ite (keepsFlags_push _ _) (.refl _)))

theorem keepsFlags_enterRun {s : State} (granted : s.line.state.granted = true) : KeepsFlags s (enterRun s) :=
  (keepsFlags_enterLine (l := .run) (.inr ⟨rfl, granted⟩)).trans
    ((KeepsFlags.ite (keepsFlags_speedLost _) (.refl _)).trans (KeepsFlags.ite (keepsFlags_push _ _) (.refl _)))

/-! ### Plans -/

theorem keepsFlags_stepEffect (q : Option Request) (k : StepKind) (s : State) : KeepsFlags s (stepEffect q k s) := by
  cases k
  case setExhaust | setFan => exact keepsFlags_withPlanner s _
  case setZone => exact (keepsFlags_withPlanner s _).trans (keepsFlags_retargetZone _ _ _ _ _)
  case queueChill => exact (keepsFlags_withPlanner s _).trans (keepsFlags_appendTransit _ _ _ _)
  case grant =>
    cases q
    · exact (keepsFlags_withPlanner s _).trans (keepsFlags_sendUnasked _ _)
    · exact (keepsFlags_withPlanner s _).trans (keepsFlags_sendGrant _ _ _)

theorem keepsFlags_fireHead (p : Plan) (k : StepKind) (s : State) : KeepsFlags s (fireHead p k s) :=
  ((keepsFlags_withPlan s _).trans (keepsFlags_stepEffect _ _ _)).trans (keepsFlags_followDrives _)

theorem keepsFlags_completePlan (p : Plan) (s : State) : KeepsFlags s (completePlan p s) := by
  refine (keepsFlags_withPlan s none).trans ?_
  unfold completePlan
  dsimp only
  split
  · rename_i run
    exact keepsFlags_readyFromRun (granted_of_run run.1)
  · exact .refl _

theorem keepsFlags_testHead (n : Nat) (s : State) : KeepsFlags s (testHead n s) := by
  induction n generalizing s with
  | zero => exact .refl s
  | succ n ih =>
    cases plan : s.planner.plan with
    | none =>
      have idle : testHead (n + 1) s = s := by unfold testHead; rw [plan]
      rw [idle]
      exact .refl s
    | some p =>
      have test := headTest (n := n) plan
      generalize testHead (n + 1) s = t at test ⊢
      cases test with
      | completes => exact keepsFlags_completePlan _ s
      | stands => exact .refl s
      | waits => exact keepsFlags_withPlan s _
      | fires => exact (keepsFlags_fireHead _ _ s).trans (ih _)

theorem keepsFlags_runPlan (s : State) : KeepsFlags s (runPlan s) := by
  unfold runPlan
  split
  · exact .refl s
  · exact keepsFlags_testHead _ s

theorem keepsFlags_installPlan (p : Plan) (s : State) : KeepsFlags s (installPlan p s) := by
  refine ((keepsFlags_withPlanner s { s.planner with plan := some p, target := p.target }).trans ?_).trans (keepsFlags_runPlan _)
  split
  · rename_i ready
    exact keepsFlags_enterRun (granted_of_ready ready)
  · exact .refl _

theorem keepsFlags_bandReportToPlan (s : State) : KeepsFlags s (bandReportToPlan s) := by
  unfold bandReportToPlan
  split
  · exact .refl s
  split
  · exact keepsFlags_runPlan s
  · exact .refl s

/-! ### Clearance and restore -/

theorem keepsFlags_resumeAdjust (j : Nat) (r : Row) (s : State) : KeepsFlags s (resumeAdjust j r s) :=
  KeepsFlags.ite (.refl s) (keepsFlags_installPlan _ s)

theorem keepsFlags_resumePlan (q : Option Request) (j : Nat) (r : Row) (s : State) : KeepsFlags s (resumePlan q j r s) := by
  cases q
  · exact keepsFlags_resumeAdjust j r s
  · exact KeepsFlags.ite (keepsFlags_installPlan _ s) (keepsFlags_resumeAdjust j r s)

theorem keepsFlags_restoreRest (b : Context) (g : Nat) (s : State) : KeepsFlags s (restoreRest b g s) := by
  have aimed : KeepsFlags s (setTarget (restoreTarget b g) s) := keepsFlags_of_same
  unfold restoreRest
  split
  · exact KeepsFlags.ite ((keepsFlags_withPlan s _).trans (keepsFlags_runPlan _)) (keepsFlags_withPlan s _)
  · unfold restoreDryer
    dsimp only
    split
    · exact aimed.trans (keepsFlags_resumePlan _ _ _ _)
    · exact aimed

theorem keepsFlags_restore (b : Context) (s : State) : KeepsFlags s (restore b s) := by
  have granted : ∀ g c, KeepsFlags s (setGrant g c s) := fun g c =>
    KeepsFlags.ite (keepsFlags_withPlanner s _) ((keepsFlags_withPlanner s _).trans (keepsFlags_sendUnasked _ _))
  unfold restore
  split
  · exact .refl s
  · exact (granted _ _).trans (keepsFlags_restoreRest _ _ _)

theorem keepsFlags_popStack (s : State) : KeepsFlags s (popStack s) := by
  unfold popStack
  split
  · exact (keepsFlags_withStack s _).trans (keepsFlags_restore _ _)
  · exact keepsFlags_withStack s _

theorem keepsFlags_clearCause (c : Cause) (s : State) : KeepsFlags s (clearCause c s) :=
  KeepsFlags.ite ((keepsFlags_withStack s _).trans (keepsFlags_popStack _)) (.refl s)

/-! ### The relief watch (R170, R171) -/

theorem keepsFlags_setClearTimer (t : Timer) (s : State) : KeepsFlags s (setClearTimer t s) := keepsFlags_of_same

theorem keepsFlags_clearJudged (s : State) : KeepsFlags s (clearJudged s) := by
  have unwatched : KeepsFlags s (s.withSupervisor { s.supervisor with reliefHeld := false, clearTimer := none }) :=
    keepsFlags_of_same
  exact KeepsFlags.ite (.refl s) (KeepsFlags.ite (keepsFlags_setClearTimer _ s) (KeepsFlags.ite (.refl s)
    (KeepsFlags.ite (unwatched.trans (keepsFlags_clearCause _ _)) (keepsFlags_setClearTimer _ s))))

theorem keepsFlags_lelWarning {s : State} (granted : s.line.state.granted = true) : KeepsFlags s (lelWarning s) :=
  have held : KeepsFlags s (s.withSupervisor { s.supervisor with reliefHeld := true, clearTimer := none }) := keepsFlags_of_same
  (held.trans (keepsFlags_raiseFault (.inr granted))).trans (keepsFlags_push _ _)

/-! ### The end of an event -/

theorem keepsFlags_boundCeiling (b : Int) (s : State) : KeepsFlags s (boundCeiling b s) :=
  KeepsFlags.ite ((keepsFlags_withPlanner s _).trans (keepsFlags_sendUnasked _ _)) (.refl s)

theorem keepsFlags_commitReady (r : Row) (s : State) : KeepsFlags s (commitReady r s) := by
  have flushed : KeepsFlags s (flushTransit (s.withPlanner { s.planner with inForce := s.planner.inForce.fromRow r })) :=
    keepsFlags_of_same
  have zone : ∀ z u, KeepsFlags u (zoneFromRow r z u) := fun z u => by
    unfold zoneFromRow
    split
    · exact keepsFlags_retargetZone _ _ _ _ u
    · exact .refl u
  exact (flushed.trans ((keepsFlags_forZones _ zone _).trans
    (keepsFlags_forCircuits _ (fun c u => keepsFlags_setSetpoint c _ u) _))).trans (keepsFlags_boundCeiling _ _)

theorem keepsFlags_commitRun (s : State) : KeepsFlags s (commitRun s) := by
  have bound : ∀ u, KeepsFlags u (boundByGrantRow u) := fun u => by
    unfold boundByGrantRow
    split
    · exact keepsFlags_boundCeiling _ u
    · exact .refl u
  unfold commitRun
  split
  · exact .refl s
  · rename_i j _
    have lowered : KeepsFlags s (boundByGrantRow (lowerGrantRow j s)) := (keepsFlags_withPlanner s _).trans (bound _)
    dsimp only
    split
    · exact lowered
    · exact lowered.trans (keepsFlags_installPlan _ _)

theorem keepsFlags_settleStore (s : State) : KeepsFlags s (settleStore s) := by
  have stored : KeepsFlags s (s.withStore s.store.committed) := keepsFlags_of_same
  refine KeepsFlags.ite (stored.trans ?_) (.refl s)
  unfold carryOut
  dsimp only
  split
  · split
    · exact keepsFlags_commitReady _ _
    · exact .refl _
  · exact keepsFlags_commitRun _
  all_goals exact .refl _

theorem keepsFlags_finish (s : State) : KeepsFlags s (finish s) := by
  have arbitrated : ∀ u, KeepsFlags u (arbitrate u) := fun u =>
    have alone := outletAlone_arbitrate u
    have judged := alone.judged
    keepsFlags_of_same judged.line judged.zones judged.circuits judged.faults (congrArg Supervisor.flags judged.supervisor)
      (congrArg SatCounts.kindMismatch alone.sat)
  exact (((keepsFlags_settleStore s).trans (keepsFlags_driveStage _)).trans
    ((keepsFlags_payGrants _).trans (keepsFlags_sweepFaults _))).trans (arbitrated _)

end Sys2Proof.Machine

/-!
SUPPORT. A READING on a zone's air or LEL channel and on a circuit's web channel: how it reaches its channel and what its record keeps
of it; how the zone's flags are judged, what their crossings do, and what the relief's push leaves.
-/

namespace Sys2Proof.Machine

-- One proof after the other: side by side with the text above, their threads need more memory than the check allows.
set_option Elab.async false

/-! ### Trips -/

/-- A trip locks the line out in every state but COLD (R93). -/
theorem trip_locks (e : FaultCode) {s : State} (warm : s.line.state ≠ .cold) : (trip e s).line.state = .lockout := by
  by_cases locked : s.line.state = .lockout
  · rw [trip_idle e (.inr locked)]
    exact locked
  · rw [trip, tripLine_else (s := raiseFault e s) (not_or.mpr ⟨warm, locked⟩), enterLine_line]

/-- In COLD a trip leaves the line record (R93). -/
theorem line_trip_cold (e : FaultCode) {s : State} (cold : s.line.state = .cold) : (trip e s).line = s.line := by
  rw [trip_idle e (.inl cold)]
  rfl

/-! ### The flags judged (R169) -/

/-- A zone's warn flag as its reading gives it. -/
abbrev warnSet (z : Zone) (s : State) : State :=
  setFlags z { s.supervisor.flags.get z with warn := warnHolds s.params (s.zones.get z) } s

/-- A zone's trip flag as its reading gives it. -/
abbrev tripSet (z : Zone) (s : State) : State :=
  setFlags z { s.supervisor.flags.get z with trip := tripHolds s.params (s.zones.get z) } s

/-- A zone's hot flag as its reading gives it. -/
abbrev hotSet (z : Zone) (s : State) : State :=
  setFlags z { s.supervisor.flags.get z with hot := hotHolds s.params (s.zones.get z) } s

/-- The warn flag crosses in READY or RUN (R170). -/
abbrev warnCrosses (z : Zone) (s : State) : Prop :=
  s.line.state.granted = true ∧ (s.supervisor.flags.get z).warn = false ∧ warnHolds s.params (s.zones.get z) = true

/-- The trip flag crosses (R172). -/
abbrev tripCrosses (z : Zone) (s : State) : Prop :=
  (s.supervisor.flags.get z).trip = false ∧ tripHolds s.params (s.zones.get z) = true

/-- The hot flag crosses (R176). -/
abbrev hotCrosses (z : Zone) (s : State) : Prop :=
  (s.supervisor.flags.get z).hot = false ∧ hotHolds s.params (s.zones.get z) = true

theorem judgeWarn_eq (z : Zone) (s : State) :
    judgeWarn z s = if warnCrosses z s then lelWarning (warnSet z s) else warnSet z s := by
  unfold judgeWarn warnCrosses
  refine if_congr ?_ rfl rfl
  simp [and_comm, setFlags]

theorem judgeTrip_eq (z : Zone) (s : State) :
    judgeTrip z s = if tripCrosses z s then trip .lelTrip (tripSet z s) else tripSet z s := by
  unfold judgeTrip tripCrosses
  simp [and_comm]

theorem judgeHot_eq (z : Zone) (s : State) :
    judgeHot z s = if hotCrosses z s then trip .overTemp (hotSet z s) else hotSet z s := by
  unfold judgeHot hotCrosses
  simp [and_comm]

theorem keepsFlags_judgeWarn (z : Zone) (s : State) : KeepsFlags (warnSet z s) (judgeWarn z s) := by
  rw [judgeWarn_eq]
  split
  · rename_i crosses
    exact keepsFlags_lelWarning crosses.1
  · exact .refl _

theorem keepsFlags_judgeTrip (z : Zone) (s : State) : KeepsFlags (tripSet z s) (judgeTrip z s) := by
  rw [judgeTrip_eq]
  exact KeepsFlags.ite (keepsFlags_trip (e := .lelTrip) nofun _) (.refl _)

theorem keepsFlags_judgeHot (z : Zone) (s : State) : KeepsFlags (hotSet z s) (judgeHot z s) := by
  rw [judgeHot_eq]
  exact KeepsFlags.ite (keepsFlags_trip (e := .overTemp) nofun _) (.refl _)

theorem keepsLoops_setFlags (z : Zone) (f : ZoneFlags) (s : State) : KeepsLoops s (setFlags z f s) := { KeepsLoops.refl s with }

theorem keepsLoops_judgeWarn (z : Zone) (s : State) : KeepsLoops s (judgeWarn z s) :=
  (keepsLoops_setFlags z _ s).trans (keepsFlags_judgeWarn z s).toKeepsLoops

theorem keepsLoops_judgeTrip (z : Zone) (s : State) : KeepsLoops s (judgeTrip z s) :=
  (keepsLoops_setFlags z _ s).trans (keepsFlags_judgeTrip z s).toKeepsLoops

theorem keepsLoops_judgeHot (z : Zone) (s : State) : KeepsLoops s (judgeHot z s) :=
  (keepsLoops_setFlags z _ s).trans (keepsFlags_judgeHot z s).toKeepsLoops

theorem judgeZone_present {z : Zone} {s : State} (present : s.present z = true) :
    judgeZone z s = judgeHot z (judgeTrip z (judgeWarn z s)) := if_pos present

theorem keepsLoops_judgeZone (z : Zone) (s : State) : KeepsLoops s (judgeZone z s) :=
  KeepsLoops.ite (((keepsLoops_judgeWarn z s).trans (keepsLoops_judgeTrip z _)).trans (keepsLoops_judgeHot z _)) (.refl s)

/-- The comparisons read a zone's readings and the parameters alone. -/
theorem Undisturbed.judgements {s t : State} (h : Undisturbed s t) (z : Zone) :
    tripHolds t.params (t.zones.get z) = tripHolds s.params (s.zones.get z) ∧
      hotHolds t.params (t.zones.get z) = hotHolds s.params (s.zones.get z) := by
  obtain ⟨air, lel⟩ := h.zones z
  unfold tripHolds hotHolds
  rw [h.params, air, lel]
  exact ⟨rfl, rfl⟩

theorem flags_judgeWarn (z : Zone) (s : State) : (judgeWarn z s).supervisor.flags.get z =
    { s.supervisor.flags.get z with warn := warnHolds s.params (s.zones.get z) } := by
  rw [(keepsFlags_judgeWarn z s).flags]
  exact (PerZone.get_set ..).trans (if_pos rfl)

theorem flags_judgeTrip (z : Zone) (s : State) : (judgeTrip z s).supervisor.flags.get z =
    { s.supervisor.flags.get z with trip := tripHolds s.params (s.zones.get z) } := by
  rw [(keepsFlags_judgeTrip z s).flags]
  exact (PerZone.get_set ..).trans (if_pos rfl)

theorem flags_judgeHot (z : Zone) (s : State) : (judgeHot z s).supervisor.flags.get z =
    { s.supervisor.flags.get z with hot := hotHolds s.params (s.zones.get z) } := by
  rw [(keepsFlags_judgeHot z s).flags]
  exact (PerZone.get_set ..).trans (if_pos rfl)

/-- The three flags of a present zone are its comparisons, whatever their crossings do (R169). -/
theorem flags_judgeZone {z : Zone} {s : State} (present : s.present z = true) :
    (judgeZone z s).supervisor.flags.get z =
      ⟨warnHolds s.params (s.zones.get z), tripHolds s.params (s.zones.get z), hotHolds s.params (s.zones.get z)⟩ := by
  have warned := (work_judgeWarn z s).undisturbed
  rw [judgeZone_present present, flags_judgeHot, flags_judgeTrip, flags_judgeWarn, (warned.judgements z).1,
    (((work_judgeWarn z s).trans (work_judgeTrip z _)).undisturbed.judgements z).2]

/-! ### What the crossings do (R170, R172, R176) -/

theorem line_judgeWarn (z : Zone) (s : State) : (judgeWarn z s).line = s.line := by
  rw [judgeWarn_eq]
  split
  · exact (push_rest _ _).1
  · rfl

/-- A trip by the trip flag locks the line out, and without one the line record stands. -/
theorem line_judgeTrip (z : Zone) (s : State) : (judgeTrip z s).line = s.line ∨ (judgeTrip z s).line.state = .lockout := by
  rw [judgeTrip_eq]
  split
  · by_cases cold : s.line.state = .cold
    · exact .inl (line_trip_cold (s := tripSet z s) _ cold)
    · exact .inr (trip_locks _ cold)
  · exact .inl rfl

/-- A warning that crosses raises LEL_WARN (R170). -/
theorem raised_warnCrosses {z : Zone} {s : State} (present : s.present z = true) (crosses : warnCrosses z s) :
    Raised .lelWarn (judgeZone z s).faults := by
  rw [judgeZone_present present]
  refine (keepsLoops_judgeHot z _).raised _ ((keepsLoops_judgeTrip z _).raised _ ?_)
  rw [judgeWarn_eq, if_pos crosses]
  exact (keepsFlags_push _ _).raised _ (raised_raiseFault _ _)

/-- A trip flag that crosses raises LEL_TRIP and locks the line out but in COLD (R172). -/
theorem tripCrosses_trips {z : Zone} {s : State} (present : s.present z = true) (crosses : tripCrosses z s) :
    Raised .lelTrip (judgeZone z s).faults ∧ (s.line.state ≠ .cold → (judgeZone z s).line.state = .lockout) := by
  have later : tripCrosses z (judgeWarn z s) := by
    refine ⟨?_, ((work_judgeWarn z s).undisturbed.judgements z).1.trans crosses.2⟩
    rw [flags_judgeWarn]
    exact crosses.1
  rw [judgeZone_present present, judgeTrip_eq, if_pos later]
  refine ⟨(keepsLoops_judgeHot z _).raised _ (raised_trip _ _), fun warm => (keepsLoops_judgeHot z _).locked (trip_locks _ ?_)⟩
  show (judgeWarn z s).line.state ≠ .cold
  rwa [line_judgeWarn]

/-- A hot flag that crosses raises OVER_TEMP and locks the line out but in COLD (R176). -/
theorem hotCrosses_trips {z : Zone} {s : State} (present : s.present z = true) (crosses : hotCrosses z s) :
    Raised .overTemp (judgeZone z s).faults ∧ (s.line.state ≠ .cold → (judgeZone z s).line.state = .lockout) := by
  let u := judgeTrip z (judgeWarn z s)
  have later : hotCrosses z u := by
    refine ⟨?_, (((work_judgeWarn z s).trans (work_judgeTrip z _)).undisturbed.judgements z).2.trans crosses.2⟩
    rw [flags_judgeTrip, flags_judgeWarn]
    exact crosses.1
  rw [judgeZone_present present, judgeHot_eq, if_pos later]
  refine ⟨raised_trip _ _, fun warm => trip_locks _ ?_⟩
  show u.line.state ≠ .cold
  rcases line_judgeTrip z (judgeWarn z s) with same | lockout
  · rw [same, line_judgeWarn]
    exact warm
  · rw [lockout]
    nofun

/-- In COLD the judgement of a zone leaves the line record (R93). -/
theorem line_judgeZone_cold (z : Zone) {s : State} (cold : s.line.state = .cold) : (judgeZone z s).line = s.line := by
  have idle : ∀ e (u : State), u.line = s.line → (trip e u).line = s.line := fun e u same =>
    (line_trip_cold e (by rw [same, cold])).trans same
  by_cases present : s.present z = true
  · have warned := line_judgeWarn z s
    have tripped : (judgeTrip z (judgeWarn z s)).line = s.line := by
      rw [judgeTrip_eq]
      split
      · exact idle _ _ warned
      · exact warned
    rw [judgeZone_present present, judgeHot_eq]
    split
    · exact idle _ _ tripped
    · exact tripped
  · exact congrArg State.line (if_neg present)

/-- Where the line is not locked out after it, the judgement of a zone that warns is the warning, with the flags set. -/
theorem judgeZone_warned {z : Zone} {s : State} (present : s.present z = true) (crosses : warnCrosses z s)
    (untripped : (judgeZone z s).line.state ≠ .lockout) :
    ∃ f g, judgeZone z s = setFlags z g (setFlags z f (lelWarning (warnSet z s))) := by
  have warm : s.line.state ≠ .cold := fun cold => absurd crosses.1 (by rw [cold]; nofun)
  have noTrip : ¬ tripCrosses z (judgeWarn z s) := fun trips => untripped (by
    rw [judgeZone_present present, judgeTrip_eq, if_pos trips]
    refine (keepsLoops_judgeHot z _).locked (trip_locks _ ?_)
    show (judgeWarn z s).line.state ≠ .cold
    rwa [line_judgeWarn])
  have calm : judgeTrip z (judgeWarn z s) = tripSet z (judgeWarn z s) := by rw [judgeTrip_eq, if_neg noTrip]
  have noHeat : ¬ hotCrosses z (tripSet z (judgeWarn z s)) := fun heats => untripped (by
    rw [judgeZone_present present, calm, judgeHot_eq, if_pos heats]
    refine trip_locks _ ?_
    show (judgeWarn z s).line.state ≠ .cold
    rwa [line_judgeWarn])
  rw [judgeZone_present present, calm, judgeHot_eq, if_neg noHeat, judgeWarn_eq, if_pos crosses]
  exact ⟨_, _, rfl⟩

/-! ### The relief's push (R152, R155) -/

/-- A push that is not refused, with no break's record in the stack, leaves its cause ACTIVE (R152). -/
theorem push_active {c : Cause} {s : State} (taken : pushRefused c s.line.state = false)
    (unbroken : ∀ x ∈ s.stack, x.cause ≠ .brk) :
    ∃ x ∈ (push c s).stack, x.cause = c ∧ x.cleared = false := by
  unfold push
  rw [if_neg (by simp [taken]), if_neg (by simpa using unbroken)]
  split
  · rename_i r found
    have cause : r.cause = c := by simpa using List.find?_some found
    have stands := List.mem_of_find?_eq_some found
    split
    · refine ⟨{ r with cleared := false, planFrozen := (overlay c s).planner.plan.isSome }, ?_, cause, rfl⟩
      show _ ∈ (overlay c s).stack.map _
      rw [(overlay_rest c s).2.1]
      exact List.mem_map.mpr ⟨r, stands, if_pos cause⟩
    · rename_i active
      exact ⟨r, stands, cause, Bool.eq_false_iff.mpr active⟩
  · split <;> exact ⟨_, List.mem_cons_self, rfl, rfl⟩

/-- A relief that no record of its own or of a break stands against: the planner bounded, with the exhaust open and no plan, and a
GRANT HELD owed (R155). -/
theorem push_relief {s : State} (granted : s.line.state.granted = true)
    (clear : ∀ x ∈ s.stack, x.cause ≠ .brk ∧ x.cause ≠ .lelRelief) :
    (push .lelRelief s).planner = { s.planner with
        plan := none, ceiling := min s.planner.ceiling (reliefBound s)
        inForce := { s.planner.inForce with exhaust := 1000 } } ∧
      (push .lelRelief s).outlet.owed = s.outlet.owed ++
        [.grant s.outlet.dest.address s.planner.lastTag (min s.planner.ceiling (reliefBound s)) .held] := by
  have none : s.stack.find? (fun r => r.cause == .lelRelief) = none := by
    rw [List.find?_eq_none]
    exact fun x mem => by simpa using (clear x mem).2
  unfold push
  rw [if_neg (by simp [pushRefused, granted]), if_neg (by simpa using fun x mem => (clear x mem).1), none]
  dsimp only
  split <;> exact ⟨rfl, rfl⟩

theorem insertAll_append (l m : List OwnFrame) (s : State) : insertAll (l ++ m) s = insertAll m (insertAll l s) := by
  induction l generalizing s with
  | nil => rfl
  | cons f l ih => exact ih (insertFrame f s)

/-- The GRANT owed last waits once the owed ones have joined the queue (R14, R155). -/
theorem waitsOrLost_payGrants {f : OwnFrame} {l : List OwnFrame} {s t : State} (owed : t.outlet.owed = l ++ [f])
    (loss : s.sat.insertLoss.toNat ≤ t.sat.insertLoss.toNat) : WaitsOrLost f s (payGrants t) := by
  let u := t.withOutlet { t.outlet with owed := [] }
  have paid : payGrants t = insertFrame f (insertAll l u) := by
    rw [payGrants, owed, insertAll_append]
    rfl
  rw [paid]
  exact waitsOrLost_insertFrame (loss.trans (work_insertAll l u).undisturbed.loss)

/-- A GRANT owed at an event's end, with no commit due, is sent (R36, R155). -/
theorem sentOrLost_owed {f : OwnFrame} {l : List OwnFrame} {s t : State} (settled : storeSettled t = true)
    (owed : t.outlet.owed = l ++ [f]) (loss : s.sat.insertLoss.toNat ≤ t.sat.insertLoss.toNat) : SentOrLost f s (finish t) := by
  have staged : (driveStage t).outlet.owed = l ++ [f] := (driveStage_same t).owed.trans owed
  have waits : WaitsOrLost f s (payGrants (driveStage t)) :=
    waitsOrLost_payGrants staged (loss.trans (work_driveStage t).undisturbed.loss)
  have swept := onlyChanges_sweepFaults (payGrants (driveStage t))
  have outlet : (sweepFaults (payGrants (driveStage t))).outlet = (payGrants (driveStage t)).outlet := swept .outlet (by simp)
  have sat : (sweepFaults (payGrants (driveStage t))).sat = (payGrants (driveStage t)).sat := swept .sat (by simp)
  rw [finish, closeEvent, settleStore_of_settled settled]
  exact (waits.later (fun h => by rwa [outlet]) (by rw [sat])).sent

/-! ### The reading at its channel (R23) -/

/-- The part once a READING of another station has joined the through buffer. -/
def heard (src dst ch : Byte) (value : Half) (quality : Byte) (s : State) : State :=
  joinThrough ⟨fixedFrame kindReading src dst ch value quality, none⟩ (countGood s)

theorem sat_joinThrough (f : ThroughFrame) (s : State) : (joinThrough f s).sat = s.sat := by
  unfold joinThrough
  split
  · exact (outletAlone_arbitrate _).sat
  · rfl

theorem dest_joinThrough (f : ThroughFrame) (s : State) : (joinThrough f s).outlet.dest = s.outlet.dest := by
  unfold joinThrough
  split
  · exact (outletAlone_arbitrate _).dest
  · rfl

section reading

variable {src dst ch quality : Byte} {value : Half} {s : State}

theorem sameJudged_heard (src dst ch quality : Byte) (value : Half) (s : State) :
    SameJudged s (heard src dst ch value quality s) := (sameJudged_countGood s).trans (sameJudged_joinThrough _ _)

/-- A READING is routed by its channel's role, which its way through the buffer leaves (R23). -/
theorem exec_heard {r : Role} (passes : Passes src s) (low : quality.toNat ≤ 2) (role : HoldsRole ch r s) :
    exec (.reading src dst ch value quality) s =
        .next (finish (routeReading ch.toNat value quality.toNat (heard src dst ch value quality s))) ∧
      ((heard src dst ch value quality s).entry ch.toNat).map Entry.role = some r := by
  obtain ⟨e, found, holds⟩ := role.joined ⟨fixedFrame kindReading src dst ch value quality, none⟩
  have own : ((heard src dst ch value quality s).entry ch.toNat).map Entry.role = some r := by
    rw [heard, found, ← holds]
    rfl
  exact ⟨exec_reading passes low, own⟩

theorem exec_airReading (passes : Passes src s) (low : quality.toNat ≤ 2) {z : Zone} (role : HoldsRole ch (.zoneAir z) s) :
    exec (.reading src dst ch value quality) s =
      .next (finish (airReading z value.toInt quality.toNat (heard src dst ch value quality s))) := by
  obtain ⟨event, own⟩ := exec_heard (dst := dst) (value := value) passes low role
  simp [event, routeReading, own]

theorem exec_lelReading (passes : Passes src s) (low : quality.toNat ≤ 2) {z : Zone} (role : HoldsRole ch (.lel z) s) :
    exec (.reading src dst ch value quality) s =
      .next (finish (lelReading z value.toInt quality.toNat (heard src dst ch value quality s))) := by
  obtain ⟨event, own⟩ := exec_heard (dst := dst) (value := value) passes low role
  simp [event, routeReading, own]

theorem exec_webReading (passes : Passes src s) (low : quality.toNat ≤ 2) {k : Circuit} (role : HoldsRole ch (.chillWeb k) s) :
    exec (.reading src dst ch value quality) s =
      .next (finish (webReading k value.toInt quality.toNat (heard src dst ch value quality s))) := by
  obtain ⟨event, own⟩ := exec_heard (dst := dst) (value := value) passes low role
  simp [event, routeReading, own]

end reading

/-! ### What a record keeps of a reading (R124, R139) -/

theorem quality_cases {quality : Byte} (low : quality.toNat ≤ 2) : quality = 0 ∨ quality = 1 ∨ quality = 2 := by
  have value : quality.toNat = 0 ∨ quality.toNat = 1 ∨ quality.toNat = 2 := by omega
  exact value.imp BitVec.eq_of_toNat_eq (Or.imp BitVec.eq_of_toNat_eq BitVec.eq_of_toNat_eq)

/-- A GOOD reading in range is applied, a FAILED one marks the quality, and every other leaves the record. -/
theorem handed_handledQuality {quality : Byte} (low : quality.toNat ≤ 2) (lo hi v : Int) (r : Sensor) :
    r.handed v (handledQuality lo hi v quality.toNat) =
      if quality = 2 then { r with quality := .failed }
      else if quality = 0 ∧ lo ≤ v ∧ v ≤ hi then { reading := some v, quality := .good, age := some 0 } else r := by
  have outside : ¬ (v < lo ∨ hi < v) ↔ lo ≤ v ∧ v ≤ hi := by omega
  obtain rfl | rfl | rfl := quality_cases low
  · by_cases away : v < lo ∨ hi < v
    · simp [handledQuality, Sensor.handed, away, ← outside]
    · simp [handledQuality, Sensor.handed, away, ← outside]
  · simp [handledQuality, Sensor.handed]
  · simp [handledQuality, Sensor.handed]

/-- A reading out of range that is not FAILED counts in KIND_MISMATCH (R44). -/
theorem kindMismatch_countRange {quality : Byte} (low : quality.toNat ≤ 2) (g : Int × Int) (v : Int) (s : State) :
    (countRange g v quality.toNat s).sat.kindMismatch =
      if quality ≠ 2 ∧ (v < g.1 ∨ g.2 < v) then (if s.sat.kindMismatch = 255 then 255 else s.sat.kindMismatch + 1)
      else s.sat.kindMismatch := by
  have unfailed : quality.toNat ≤ 1 ↔ quality ≠ 2 := by obtain rfl | rfl | rfl := quality_cases low <;> decide
  unfold countRange outOfRange
  simp only [unfailed, decide_eq_true_eq]
  split
  · exact satInc_eq _
  · rfl

theorem countRange_eq (g : Int × Int) (v : Int) (q : Nat) (s : State) : ∃ x, countRange g v q s = s.withSat x := by
  unfold countRange
  split
  · exact ⟨_, rfl⟩
  · exact ⟨s.sat, rfl⟩

theorem keepsLoops_superviseReading (z : Zone) (q : Nat) (s : State) : KeepsLoops s (superviseReading z q s) := by
  unfold superviseReading
  split
  · exact keepsLoops_judgeZone z s
  · exact .refl s
  · exact KeepsLoops.ite (keepsFlags_sensorTested _ s).toKeepsLoops (.refl s)

/-- A zone's record with the reading of a range handed to it by `f`, as the part stands before the supervisor takes it. -/
def zoneHanded (g : Int × Int) (v : Int) (q : Nat) (z : Zone) (f : ZoneRec → ZoneRec) (s : State) : State :=
  (countRange g v q s).withZone z (f (s.zones.get z))

theorem zone_zoneHanded (g : Int × Int) (v : Int) (q : Nat) (z : Zone) (f : ZoneRec → ZoneRec) (s : State) :
    (zoneHanded g v q z f s).zones.get z = f (s.zones.get z) := (PerZone.get_set ..).trans (if_pos rfl)

/-- Until the supervisor takes a reading, it changes the counts and the zone's record alone. -/
theorem zoneHanded_rest (g : Int × Int) (v : Int) (q : Nat) (z : Zone) (f : ZoneRec → ZoneRec) (s : State) :
    OnlyChanges [.sat, .zones] s (zoneHanded g v q z f s) := by
  obtain ⟨x, counted⟩ := countRange_eq g v q s
  unfold zoneHanded
  rw [counted]
  exact (onlyChanges_withSat s x).trans (onlyChanges_withZones _ _)

/-- The record with an air reading handed to it. -/
def airHanded (v : Int) (q : Nat) (r : ZoneRec) : ZoneRec := { r with air := r.air.handed v (handledQuality (-500) 5000 v q) }

/-- The record with an LEL reading handed to it. -/
def lelHanded (v : Int) (q : Nat) (r : ZoneRec) : ZoneRec := { r with lel := r.lel.handed v (handledQuality 0 1000 v q) }

theorem airReading_eq (z : Zone) (v : Int) (q : Nat) (s : State) :
    airReading z v q s =
      superviseReading z (handledQuality (-500) 5000 v q) (zoneHanded airRange v q z (airHanded v q) s) := by
  obtain ⟨x, counted⟩ := countRange_eq airRange v q s
  simp only [airReading, zoneHanded, counted]
  rfl

theorem lelReading_eq (z : Zone) (v : Int) (q : Nat) (s : State) :
    lelReading z v q s =
      let t := superviseReading z (handledQuality 0 1000 v q) (zoneHanded lelRange v q z (lelHanded v q) s)
      if handledQuality 0 1000 v q = 0 ∧ t.present z = true then clearJudged t else t := by
  obtain ⟨x, counted⟩ := countRange_eq lelRange v q s
  simp only [lelReading, zoneHanded, counted]
  rfl

/-- What an event that begins with a reading handed to a zone leaves of its count and its record. -/
theorem zoneHanded_leaves {quality : Byte} (low : quality.toNat ≤ 2) {g : Int × Int} {v : Int} {z : Zone}
    {f : ZoneRec → ZoneRec} {s t : State} (loops : KeepsLoops (zoneHanded g v quality.toNat z f s) t) (work : Work (zoneHanded g v quality.toNat z f s) t) :
    t.sat.kindMismatch =
        (if quality ≠ 2 ∧ (v < g.1 ∨ g.2 < v) then (if s.sat.kindMismatch = 255 then 255 else s.sat.kindMismatch + 1)
          else s.sat.kindMismatch) ∧
      (t.zones.get z).air = (f (s.zones.get z)).air ∧ (t.zones.get z).lel = (f (s.zones.get z)).lel := by
  obtain ⟨air, lel⟩ := work.undisturbed.zones z
  rw [zone_zoneHanded] at air lel
  exact ⟨loops.kindMismatch.trans (kindMismatch_countRange low g v s), air, lel⟩

end Sys2Proof.Machine

/-!
SUPPORT. A GOOD reading of a present zone judged: the warning it raises, the relief that stands at the end of its event, and the trips;
and the statement about readings.
-/

namespace Sys2Proof.Machine

-- One proof after the other: side by side with the text above, their threads need more memory than the check allows.
set_option Elab.async false

/-! ### A reading just applied (R169, R171) -/

/-- The record of a reading that has just been applied (R124). -/
abbrev freshReading (v : Int) : Sensor := { reading := some v, quality := .good, age := some 0 }

theorem currentValue_freshReading (p : Params) (v : Int) : (freshReading v).currentValue p = some v := by
  simp [Sensor.currentValue, Sensor.isCurrent]

section fresh

variable {z : Zone} {v : Int} {x : State}

theorem lelHolds_fresh (p : Params) {r : ZoneRec} (lel : r.lel = freshReading v) :
    warnHolds p r = decide ((p.lelWarn : Int) ≤ v) ∧ tripHolds p r = decide ((p.lelTrip : Int) ≤ v) := by
  unfold warnHolds tripHolds Sensor.atLeast
  rw [lel, currentValue_freshReading]
  exact ⟨rfl, rfl⟩

theorem hotHolds_fresh (p : Params) {r : ZoneRec} (air : r.air = freshReading v) :
    hotHolds p r = decide ((p.overTemp : Int) < v) := by
  unfold hotHolds Sensor.above
  rw [air, currentValue_freshReading]

/-- The clear test fails where a present zone's reading lies above the clear level (R171). -/
theorem clearTest_above (present : x.present z = true) (lel : (x.zones.get z).lel = freshReading v)
    (above : ((x.params.lelWarn - x.params.lelHyst : Nat) : Int) < v) : x.clearTest = false := by
  refine Bool.eq_false_iff.mpr fun clear => ?_
  have clear := List.all_eq_true.mp clear z (by cases z <;> decide)
  rw [lel, currentValue_freshReading, present] at clear
  have low : v ≤ ((x.params.lelWarn - x.params.lelHyst : Nat) : Int) := of_decide_eq_true clear
  omega

/-- A relief held whose clear test fails has no clear timer (R171). -/
theorem clearJudged_failing (held : x.supervisor.reliefHeld = true) (fails : x.clearTest = false) :
    clearJudged x = setClearTimer none x := by
  unfold clearJudged
  rw [held, fails]
  rfl

/-- A warning that no trip follows leaves, after the clear test, the relief's push with the watch HELD (R170, R171). -/
theorem clearJudged_warned (present : x.present z = true) (crosses : warnCrosses z x)
    (untripped : (judgeZone z x).line.state ≠ .lockout) (lel : (x.zones.get z).lel = freshReading v)
    (above : ((x.params.lelWarn - x.params.lelHyst : Nat) : Int) < v) :
    ∃ y : Supervisor, y.reliefHeld = true ∧ y.clearTimer = none ∧
      clearJudged (judgeZone z x) = (lelWarning (warnSet z x)).withSupervisor y := by
  have work := (work_judgeZone z x).undisturbed
  have fails : (judgeZone z x).clearTest = false := by
    refine clearTest_above (z := z) ?_ ((work.zones z).2.trans lel) (by rwa [work.params])
    exact (congrArg (·.get z) (keepsLoops_judgeZone z x).zonesPresent).trans present
  obtain ⟨f, g, warned⟩ := judgeZone_warned present crosses untripped
  have held : (lelWarning (warnSet z x)).supervisor.reliefHeld = true := by
    unfold lelWarning
    rw [(push_rest _ _).2.2]
    rfl
  rw [warned] at fails ⊢
  exact ⟨{ (setFlags z g (setFlags z f (lelWarning (warnSet z x)))).supervisor with clearTimer := none }, held, rfl,
    clearJudged_failing held fails⟩

/-- At the end of an event that relieves, the relief's record stands ACTIVE, the planner is bounded with its plan gone and the
exhaust open, and the GRANT HELD is sent (R155, R170). -/
theorem finish_lelWarning {s w : State} (y : Supervisor) (granted : w.line.state.granted = true)
    (loss : s.sat.insertLoss.toNat ≤ w.sat.insertLoss.toNat) :
    let t := finish ((lelWarning w).withSupervisor y)
    t.supervisor = y ∧
      ((∀ r ∈ w.stack, r.cause ≠ .brk) → ∃ r ∈ t.stack, r.cause = .lelRelief ∧ r.cleared = false) ∧
      ((∀ r ∈ w.stack, r.cause ≠ .brk ∧ r.cause ≠ .lelRelief) →
        t.planner = { w.planner with
            plan := none, ceiling := min w.planner.ceiling (reliefBound w)
            inForce := { w.planner.inForce with exhaust := 1000 } } ∧
          SentOrLost (.grant w.outlet.dest.address w.planner.lastTag (min w.planner.ceiling (reliefBound w)) .held) s t) := by
  let raised := raiseFault .lelWarn (w.withSupervisor { w.supervisor with reliefHeld := true, clearTimer := none })
  have taken : pushRefused .lelRelief raised.line.state = false := by
    show pushRefused .lelRelief w.line.state = false
    simp [pushRefused, granted]
  have settled : storeSettled ((lelWarning w).withSupervisor y) = true := by
    have busy : State.safePoint ((lelWarning w).withSupervisor y) = false := by
      have full : (lelWarning w).stack.isEmpty = false := List.isEmpty_eq_false_iff.mpr (stack_push_ne_nil taken)
      exact Bool.and_eq_false_iff.mpr (.inr full)
    simp [storeSettled, busy]
  have ends : OnlyChanges [.channels, .outlet, .sat, .faults, .agent] _ (finish ((lelWarning w).withSupervisor y)) :=
    ((onlyChanges_closeEvent_settled settled).trans (outletAlone_arbitrate _).onlyChanges).mono (by simp)
  refine ⟨ends .supervisor (by simp), fun unbroken => ?_, fun clear => ?_⟩
  · rw [ends .stack (by simp)]
    exact push_active (s := raised) taken unbroken
  · obtain ⟨planner, owed⟩ := push_relief (s := raised) granted clear
    refine ⟨(ends .planner (by simp)).trans planner, sentOrLost_owed settled owed ?_⟩
    exact loss.trans (work_lelWarning w).undisturbed.loss

end fresh

/-! ### The state a reading is judged in -/

theorem onlyChanges_joined (f : ThroughFrame) (s : State) : OnlyChanges [.link, .outlet, .agent] s (joinThrough f s) := by
  unfold joinThrough
  split
  · exact (onlyChanges_withLink s _).trans (outletAlone_arbitrate _).onlyChanges
  · exact (onlyChanges_withLink s _).mono (by simp)

/-- What the state a reading is judged in has of the state `s` before the event. -/
structure Reached (s x : State) : Prop where
  line : x.line = s.line
  supervisor : x.supervisor = s.supervisor
  faults : x.faults = s.faults
  stack : x.stack = s.stack
  planner : x.planner = s.planner
  tracker : x.tracker = s.tracker
  params : x.params = s.params
  dest : x.outlet.dest = s.outlet.dest
  loss : s.sat.insertLoss.toNat ≤ x.sat.insertLoss.toNat

theorem Reached.present {s x : State} (h : Reached s x) (z : Zone) : x.present z = s.present z := by
  unfold State.present
  rw [h.line]

theorem Reached.reliefBound {s x : State} (h : Reached s x) : reliefBound x = reliefBound s := by
  unfold Machine.reliefBound State.usableSpeed
  rw [h.tracker, h.params]

section event

variable {src dst ch quality : Byte} {value : Half} {s : State}

theorem onlyChanges_heard (src dst ch quality : Byte) (value : Half) (s : State) :
    OnlyChanges [.link, .outlet, .agent] s (heard src dst ch value quality s) :=
  ((onlyChanges_withLink s _).trans (onlyChanges_joined _ (countGood s))).mono (by simp)

/-- Until the supervisor takes a reading, it changes the ring's side, the counts and the zone's record alone. -/
theorem onlyChanges_zoneHanded_heard (g : Int × Int) (v : Int) (q : Nat) (z : Zone) (f : ZoneRec → ZoneRec) :
    OnlyChanges [.link, .outlet, .agent, .sat, .zones] s (zoneHanded g v q z f (heard src dst ch value quality s)) :=
  (onlyChanges_heard src dst ch quality value s).trans (zoneHanded_rest g v q z f _)

theorem zone_heard (g : Int × Int) (v : Int) (q : Nat) (z : Zone) (f : ZoneRec → ZoneRec) :
    (zoneHanded g v q z f (heard src dst ch value quality s)).zones.get z = f (s.zones.get z) := by
  rw [zone_zoneHanded, (sameJudged_heard src dst ch quality value s).zones]

theorem reached_heard (g : Int × Int) (v : Int) (q : Nat) (z : Zone) (f : ZoneRec → ZoneRec) :
    Reached s (zoneHanded g v q z f (heard src dst ch value quality s)) := by
  have same : OnlyChanges _ s (zoneHanded g v q z f (heard src dst ch value quality s)) := onlyChanges_zoneHanded_heard g v q z f
  have rest := zoneHanded_rest g v q z f (heard src dst ch value quality s)
  have sat : (heard src dst ch value quality s).sat = s.sat := sat_joinThrough _ _
  exact
    { line := same .line (by simp)
      supervisor := same .supervisor (by simp)
      faults := same .faults (by simp)
      stack := same .stack (by simp)
      planner := same .planner (by simp)
      tracker := same .tracker (by simp)
      params := (congrArg Agent.params (rest .agent (by simp))).trans (sameJudged_heard src dst ch quality value s).agent
      dest := (congrArg Outlet.dest (rest .outlet (by simp))).trans (dest_joinThrough _ _)
      loss := sat ▸ (work_countRange g v q (heard src dst ch value quality s)).undisturbed.loss }

/-! ### What the record and the count keep (R124, R139) -/

/-- The record a reading leaves. -/
abbrev sensorAfter (quality : Byte) (lo hi v : Int) (r : Sensor) : Sensor :=
  if quality = 2 then { r with quality := .failed }
  else if quality = 0 ∧ lo ≤ v ∧ v ≤ hi then freshReading v else r

/-- KIND_MISMATCH after a reading (R44). -/
abbrev mismatchAfter (quality : Byte) (lo hi v : Int) (n : Byte) : Byte :=
  if quality ≠ 2 ∧ (v < lo ∨ hi < v) then (if n = 255 then 255 else n + 1) else n

/-- The event of an air reading. -/
abbrev airEvent (src dst ch : Byte) (value : Half) (quality : Byte) (z : Zone) (s : State) : State :=
  finish (airReading z value.toInt quality.toNat (heard src dst ch value quality s))

/-- The event of an LEL reading. -/
abbrev lelEvent (src dst ch : Byte) (value : Half) (quality : Byte) (z : Zone) (s : State) : State :=
  finish (lelReading z value.toInt quality.toNat (heard src dst ch value quality s))

theorem airEvent_leaves (low : quality.toNat ≤ 2) (z : Zone) :
    let t := airEvent src dst ch value quality z s
    t.sat.kindMismatch = mismatchAfter quality (-500) 5000 value.toInt s.sat.kindMismatch ∧
      (t.zones.get z).air = sensorAfter quality (-500) 5000 value.toInt (s.zones.get z).air ∧
      (t.zones.get z).lel = (s.zones.get z).lel := by
  have zones := (sameJudged_heard src dst ch quality value s).zones
  have sat : (heard src dst ch value quality s).sat = s.sat := sat_joinThrough _ _
  dsimp only [airEvent]
  rw [airReading_eq]
  obtain ⟨count, air, lel⟩ := zoneHanded_leaves low
    ((keepsLoops_superviseReading z _ _).trans (keepsFlags_finish _).toKeepsLoops)
    ((work_superviseReading z _ _).trans (work_finish _))
  rw [zones] at air lel
  rw [sat] at count
  exact ⟨count, air.trans (handed_handledQuality low _ _ _ _), lel⟩

theorem lelReading_keeps (z : Zone) (v : Int) (q : Nat) (x : State) :
    KeepsLoops (zoneHanded lelRange v q z (lelHanded v q) x) (lelReading z v q x) ∧
      Work (zoneHanded lelRange v q z (lelHanded v q) x) (lelReading z v q x) := by
  rw [lelReading_eq]
  exact ⟨(keepsLoops_superviseReading z _ _).trans (.ite (keepsFlags_clearJudged _).toKeepsLoops (.refl _)),
    (work_superviseReading z _ _).trans ((work_clearJudged _).ite (.refl _))⟩

theorem lelEvent_leaves (low : quality.toNat ≤ 2) (z : Zone) :
    let t := lelEvent src dst ch value quality z s
    t.sat.kindMismatch = mismatchAfter quality 0 1000 value.toInt s.sat.kindMismatch ∧
      (t.zones.get z).lel = sensorAfter quality 0 1000 value.toInt (s.zones.get z).lel ∧
      (t.zones.get z).air = (s.zones.get z).air := by
  have zones := (sameJudged_heard src dst ch quality value s).zones
  have sat : (heard src dst ch value quality s).sat = s.sat := sat_joinThrough _ _
  dsimp only [lelEvent]
  obtain ⟨loops, work⟩ := lelReading_keeps z value.toInt quality.toNat (heard src dst ch value quality s)
  obtain ⟨count, air, lel⟩ := zoneHanded_leaves low (loops.trans (keepsFlags_finish _).toKeepsLoops)
    (work.trans (work_finish _))
  rw [zones] at air lel
  rw [sat] at count
  exact ⟨count, lel.trans (handed_handledQuality low _ _ _ _), air⟩

/-! ### FAILED readings (R177) -/

/-- A FAILED reading of a present zone fails the sensor test where the permit is closed, and what follows of the event keeps the
trip. -/
theorem superviseReading_failed {z : Zone} {x : State} (present : x.present z = true) (closed : x.line.state.permitClosed = true)
    (failed : (x.zones.get z).air.quality = .failed ∨ (x.zones.get z).lel.quality = .failed) :
    (finish (superviseReading z 2 x)).line.state = .lockout ∧
      (finish (superviseReading z 2 x)).faults.pending &&& FaultCode.sensorFail.bit ≠ 0 := by
  have fails : x.sensorTestFails = true := by
    refine List.any_eq_true.mpr ⟨z, by cases z <;> decide, ?_⟩
    rcases failed with failed | failed <;> simp [present, Sensor.isCurrent, failed]
  have trips : superviseReading z 2 x = trip .sensorFail x := by
    show (if x.present z = true then sensorJudged x else x) = _
    rw [if_pos present, sensorJudged, sensorTested, closed, fails]
    rfl
  have ended := keepsFlags_finish (trip .sensorFail x)
  rw [trips]
  exact ⟨ended.locked (trip_locks _ fun cold => by rw [cold] at closed; cases closed),
    (ended.raised _ (raised_trip _ _)).pending⟩

theorem event_failed {z : Zone} (present : s.present z = true) (closed : s.line.state.permitClosed = true) :
    ((airEvent src dst ch value 2 z s).line.state = .lockout ∧
      (airEvent src dst ch value 2 z s).faults.pending &&& FaultCode.sensorFail.bit ≠ 0) ∧
    ((lelEvent src dst ch value 2 z s).line.state = .lockout ∧
      (lelEvent src dst ch value 2 z s).faults.pending &&& FaultCode.sensorFail.bit ≠ 0) := by
  have reached : ∀ g f, Reached s (zoneHanded g value.toInt 2 z f (heard src dst ch value 2 s)) :=
    fun g f => reached_heard g _ 2 z f
  have present : ∀ g f, (zoneHanded g value.toInt 2 z f (heard src dst ch value 2 s)).present z = true := fun g f =>
    ((reached g f).present z).trans present
  have failed : ∀ lo hi, handledQuality lo hi value.toInt 2 = 2 := fun lo hi => if_neg (by simp)
  dsimp only [airEvent, lelEvent]
  rw [airReading_eq, lelReading_eq, show (2 : Byte).toNat = 2 from rfl, failed, failed]
  refine ⟨superviseReading_failed (present _ _) (by rwa [(reached _ _).line]) (.inl ?_),
    superviseReading_failed (present _ _) (by rwa [(reached _ _).line]) (.inr ?_)⟩
  · rw [zone_heard]
    simp [airHanded, failed, Sensor.handed]
  · rw [zone_heard]
    simp [lelHanded, failed, Sensor.handed]

end event

/-! ### GOOD readings (R169 to R172, R176) -/

section good

variable (src dst ch : Byte) (value : Half) (z : Zone) (s : State)

/-- The state a GOOD air reading is judged in. -/
abbrev airJudgedIn : State := zoneHanded airRange value.toInt 0 z (airHanded value.toInt 0) (heard src dst ch value 0 s)

/-- The state a GOOD LEL reading is judged in. -/
abbrev lelJudgedIn : State := zoneHanded lelRange value.toInt 0 z (lelHanded value.toInt 0) (heard src dst ch value 0 s)

variable {src dst ch value z s}

theorem airEvent_good (lo : -500 ≤ value.toInt) (hi : value.toInt ≤ 5000) :
    airEvent src dst ch value 0 z s = finish (judgeZone z (airJudgedIn src dst ch value z s)) ∧
      ((airJudgedIn src dst ch value z s).zones.get z).air = freshReading value.toInt := by
  have good : handledQuality (-500) 5000 value.toInt 0 = 0 := if_neg (by omega)
  refine ⟨?_, ?_⟩
  · dsimp only [airEvent]
    rw [airReading_eq, show (0 : Byte).toNat = 0 from rfl, good]
    rfl
  · rw [zone_heard]
    simp [airHanded, good, Sensor.handed]

theorem lelEvent_good (present : s.present z = true) (lo : 0 ≤ value.toInt) (hi : value.toInt ≤ 1000) :
    lelEvent src dst ch value 0 z s = finish (clearJudged (judgeZone z (lelJudgedIn src dst ch value z s))) ∧
      ((lelJudgedIn src dst ch value z s).zones.get z).lel = freshReading value.toInt := by
  have good : handledQuality 0 1000 value.toInt 0 = 0 := if_neg (by omega)
  have present : (lelJudgedIn src dst ch value z s).present z = true := ((reached_heard _ _ 0 z _).present z).trans present
  have stays : (judgeZone z (lelJudgedIn src dst ch value z s)).present z = true :=
    (congrArg (·.get z) (keepsLoops_judgeZone z _).zonesPresent).trans present
  refine ⟨?_, ?_⟩
  · dsimp only [lelEvent]
    rw [lelReading_eq, show (0 : Byte).toNat = 0 from rfl, good]
    exact congrArg finish (if_pos ⟨rfl, stays⟩)
  · rw [zone_heard]
    simp [lelHanded, good, Sensor.handed]

end good

section judged

variable {z : Zone} {v : Int} {s x : State}

theorem keepsFlags_lelEnd (x : State) : KeepsFlags x (finish (clearJudged x)) :=
  (keepsFlags_clearJudged x).trans (keepsFlags_finish _)

theorem lelFlags (reach : Reached s x) (present : s.present z = true) (lel : (x.zones.get z).lel = freshReading v) :
    let t := finish (clearJudged (judgeZone z x))
    (t.supervisor.flags.get z).warn = decide ((s.params.lelWarn : Int) ≤ v) ∧
      (t.supervisor.flags.get z).trip = decide ((s.params.lelTrip : Int) ≤ v) := by
  obtain ⟨warn, trip⟩ := lelHolds_fresh x.params lel
  dsimp only
  rw [(keepsFlags_lelEnd _).flags, flags_judgeZone ((reach.present z).trans present), warn, trip, reach.params]
  exact ⟨rfl, rfl⟩

theorem hotFlag (reach : Reached s x) (present : s.present z = true) (air : (x.zones.get z).air = freshReading v) :
    ((finish (judgeZone z x)).supervisor.flags.get z).hot = decide ((s.params.overTemp : Int) < v) := by
  rw [(keepsFlags_finish _).flags, flags_judgeZone ((reach.present z).trans present), hotHolds_fresh x.params air, reach.params]

/-- Outside READY and RUN no reading raises LEL_WARN (R170). -/
theorem lelUnwarned (reach : Reached s x) (outside : s.line.state.granted = false)
    (silent : s.faults.pending &&& FaultCode.lelWarn.bit = 0) :
    (finish (clearJudged (judgeZone z x))).faults.pending &&& FaultCode.lelWarn.bit = 0 := by
  rw [← reach.line] at outside
  rw [← reach.faults] at silent
  exact (((keepsLoops_judgeZone z x).trans (keepsFlags_lelEnd _).toKeepsLoops).unwarned outside silent).2

/-- The trip flag's crossing (R172). -/
theorem lelTrips (reach : Reached s x) (present : s.present z = true) (lel : (x.zones.get z).lel = freshReading v)
    (unset : (s.supervisor.flags.get z).trip = false) (above : s.params.lelTrip ≤ v) :
    let t := finish (clearJudged (judgeZone z x))
    t.faults.pending &&& FaultCode.lelTrip.bit ≠ 0 ∧ (s.line.state ≠ .cold → t.line.state = .lockout) := by
  have crosses : tripCrosses z x :=
    ⟨by rwa [reach.supervisor], (lelHolds_fresh x.params lel).2.trans (decide_eq_true (by rwa [reach.params]))⟩
  obtain ⟨raised, locks⟩ := tripCrosses_trips ((reach.present z).trans present) crosses
  have ended := keepsFlags_lelEnd (judgeZone z x)
  exact ⟨(ended.raised _ raised).pending, fun warm => ended.locked (locks (by rwa [reach.line]))⟩

/-- The hot flag's crossing (R176, R93). -/
theorem hotTrips (reach : Reached s x) (present : s.present z = true) (air : (x.zones.get z).air = freshReading v)
    (unset : (s.supervisor.flags.get z).hot = false) (above : s.params.overTemp < v) :
    let t := finish (judgeZone z x)
    t.faults.pending &&& FaultCode.overTemp.bit ≠ 0 ∧
      (s.line.state ≠ .cold → t.line.state = .lockout) ∧ (s.line.state = .cold → t.line = s.line) := by
  have crosses : hotCrosses z x :=
    ⟨by rwa [reach.supervisor], (hotHolds_fresh x.params air).trans (decide_eq_true (by rwa [reach.params]))⟩
  obtain ⟨raised, locks⟩ := hotCrosses_trips ((reach.present z).trans present) crosses
  have ended := keepsFlags_finish (judgeZone z x)
  refine ⟨(ended.raised _ raised).pending, fun warm => ended.locked (locks (by rwa [reach.line])), fun cold => ?_⟩
  have line : (judgeZone z x).line = s.line := (line_judgeZone_cold z (by rw [reach.line, cold])).trans reach.line
  have outside : (judgeZone z x).line.state.granted = false := by rw [line, cold]; rfl
  exact (onlyChanges_finish outside .line (by simp)).trans line

/-- The warn flag's crossing in READY or RUN: LEL_WARN is raised, and the relief holds where the line is not tripped and the reading
lies above the clear level (R155, R170). -/
theorem lelWarns (reach : Reached s x) (present : s.present z = true) (lel : (x.zones.get z).lel = freshReading v)
    (granted : s.line.state.granted = true) (unset : (s.supervisor.flags.get z).warn = false) (reached : s.params.lelWarn ≤ v) :
    let t := finish (clearJudged (judgeZone z x))
    t.faults.pending &&& FaultCode.lelWarn.bit ≠ 0 ∧
      (t.line.state = s.line.state → ((s.params.lelWarn - s.params.lelHyst : Nat) : Int) < v →
        t.supervisor.reliefHeld = true ∧ t.supervisor.clearTimer = none ∧
        ((∀ r ∈ s.stack, r.cause ≠ .brk) → ∃ r ∈ t.stack, r.cause = .lelRelief ∧ r.cleared = false) ∧
        ((∀ r ∈ s.stack, r.cause ≠ .brk ∧ r.cause ≠ .lelRelief) →
          t.planner = { s.planner with
              plan := none, ceiling := min s.planner.ceiling (reliefBound s)
              inForce := { s.planner.inForce with exhaust := 1000 } } ∧
            SentOrLost (.grant s.outlet.dest.address s.planner.lastTag (min s.planner.ceiling (reliefBound s)) .held) s t)) := by
  have crosses : warnCrosses z x := ⟨by rwa [reach.line], by rwa [reach.supervisor],
    (lelHolds_fresh x.params lel).1.trans (decide_eq_true (by rwa [reach.params]))⟩
  have present := (reach.present z).trans present
  have ended := keepsFlags_lelEnd (judgeZone z x)
  refine ⟨(ended.raised _ (raised_warnCrosses present crosses)).pending, fun stays above => ?_⟩
  have untripped : (judgeZone z x).line.state ≠ .lockout := fun lockout => by
    rw [← stays, ended.locked lockout] at granted
    cases granted
  obtain ⟨y, held, timer, relieved⟩ := clearJudged_warned present crosses untripped lel (by rwa [reach.params])
  obtain ⟨supervisor, active, bounded⟩ := finish_lelWarning (w := warnSet z x) y crosses.1 reach.loss
  rw [relieved]
  refine ⟨congrArg Supervisor.reliefHeld supervisor |>.trans held, congrArg Supervisor.clearTimer supervisor |>.trans timer,
    fun unbroken => active (by rwa [← reach.stack] at unbroken), fun clear => ?_⟩
  obtain ⟨planner, sent⟩ := bounded (by rwa [← reach.stack] at clear)
  have bound : reliefBound (warnSet z x) = reliefBound s := reach.reliefBound
  have owner : (warnSet z x).planner = s.planner := reach.planner
  have dest : (warnSet z x).outlet.dest = s.outlet.dest := reach.dest
  rw [bound, owner] at planner sent
  rw [dest] at sent
  exact ⟨planner, sent⟩

end judged

/-! ### A web reading (R139) -/

theorem webReading_eq (k : Circuit) (v : Int) (q : Nat) (s : State) :
    webReading k v q s = (countRange airRange v q s).withCircuit k
      { s.circuits.get k with web := (s.circuits.get k).web.handed v (handledQuality (-500) 5000 v q) } := by
  obtain ⟨x, counted⟩ := countRange_eq airRange v q s
  unfold webReading
  rw [counted]
  rfl

/-- A web reading leaves a part at rest at rest: it changes a count and the circuit's record alone. -/
theorem atRest_webReading {k : Circuit} {v : Int} {q : Nat} {s : State} (rest : s.atRest = true) :
    (webReading k v q s).atRest = true := by
  obtain ⟨x, counted⟩ := countRange_eq airRange v q s
  rw [webReading_eq, counted]
  refine atRest_of_valves ((onlyChanges_withCircuit _ k _).mono (by simp)) rfl (fun c => ?_) (atRest_withSat x rest)
  show ((s.circuits.set k _).get c).valve = (s.circuits.get c).valve
  rw [PerCircuit.get_set]
  split
  · rename_i own
    rw [own]
  · rfl

/-- The event of a web reading. -/
abbrev webEvent (src dst ch : Byte) (value : Half) (quality : Byte) (k : Circuit) (s : State) : State :=
  finish (webReading k value.toInt quality.toNat (heard src dst ch value quality s))

theorem webEvent_leaves {src dst ch quality : Byte} {value : Half} {s : State} (low : quality.toNat ≤ 2) (k : Circuit)
    (rest : s.atRest = true) :
    let t := webEvent src dst ch value quality k s
    t.sat.kindMismatch = mismatchAfter quality (-500) 5000 value.toInt s.sat.kindMismatch ∧
      OnlyChanges [.link, .outlet, .sat, .circuits] s t ∧
      t.circuits = s.circuits.set k
        { s.circuits.get k with web := sensorAfter quality (-500) 5000 value.toInt (s.circuits.get k).web } := by
  have heardRest : (heard src dst ch value quality s).atRest = true := atRest_joinThrough _ (atRest_countGood rest)
  have joined : OnlyChanges [.link, .outlet] s (heard src dst ch value quality s) :=
    onlyChanges_joinThrough _ (atRest_iff.mp rest).2.2.2.1
  have count := kindMismatch_countRange low airRange value.toInt (heard src dst ch value quality s)
  obtain ⟨x, counted⟩ := countRange_eq airRange value.toInt quality.toNat (heard src dst ch value quality s)
  have circuits : (heard src dst ch value quality s).circuits = s.circuits := joined .circuits (by simp)
  have sat : (heard src dst ch value quality s).sat = s.sat := joined .sat (by simp)
  dsimp only [webEvent]
  rw [finish_atRest (atRest_webReading heardRest), webReading_eq, handed_handledQuality low, circuits]
  rw [sat] at count
  refine ⟨count, ?_, ?_⟩
  · rw [counted]
    exact ((joined.trans (onlyChanges_withSat _ x)).trans (onlyChanges_withCircuit _ k _)).mono (by simp)
  · rw [counted]
    exact congrArg (fun c : PerCircuit CircuitRec => c.set k _) circuits

/-! ### The statement -/

/-- Settles O48, by the state each reading is judged in: what the judgement and the end of the event keep of its record, the warning
and the trips that the flags' crossings bring, and the relief's push as it stands at the end. -/
theorem readingsReachTheirRecords : Obligations.ReadingsReachTheirRecords := by
  intro src dst ch value quality s passes low v c after counted
  refine ⟨fun z role => ⟨_, exec_airReading passes low role, airEvent_leaves low z⟩,
    fun z role => ⟨_, exec_lelReading passes low role, lelEvent_leaves low z⟩,
    fun z role present _ good lo hi => ?_, fun z role present _ good lo hi => ?_, fun z role present closed failed => ?_,
    fun k role rest => ⟨_, exec_webReading passes low role, webEvent_leaves low k rest⟩⟩
  · subst good
    have reach : Reached s (lelJudgedIn src dst ch value z s) := reached_heard _ _ _ _ _
    obtain ⟨event, lel⟩ := lelEvent_good (src := src) (dst := dst) (ch := ch) present lo hi
    obtain ⟨warn, trip⟩ := lelFlags reach present lel
    exact ⟨_, (exec_lelReading passes low role).trans (congrArg Host.Outcome.next event), warn, trip, lelUnwarned reach,
      lelWarns reach present lel, lelTrips reach present lel⟩
  · subst good
    have reach : Reached s (airJudgedIn src dst ch value z s) := reached_heard _ _ _ _ _
    obtain ⟨event, air⟩ := airEvent_good (src := src) (dst := dst) (ch := ch) (z := z) (s := s) lo hi
    exact ⟨_, (exec_airReading passes low role).trans (congrArg Host.Outcome.next event), hotFlag reach present air,
      hotTrips reach present air⟩
  · subst failed
    obtain ⟨air, lel⟩ := event_failed (src := src) (dst := dst) (ch := ch) (value := value) present closed
    exact role.elim (fun role => ⟨_, exec_airReading passes low role, air⟩) fun role =>
      ⟨_, exec_lelReading passes low role, lel⟩

end Sys2Proof.Machine

/-!
SUPPORT. What the loops of a control period make of each zone's and each circuit's record, and the settle timer they judge.
-/

namespace Sys2Proof.Machine

-- One proof after the other: side by side with the text above, their threads need more memory than the check allows.
set_option Elab.async false

/-! ### A zone's record after a control period (R126 to R130, R133) -/

section zone

variable (p : Params) (l : LineState) (flame : Bool) (r : ZoneRec)

/-- A zone's record with its ramp and its trim stepped where the loops control (R127, R128). -/
def ZoneRec.stepped : ZoneRec := if l.controlled then r.ramped.trimmed p else r

/-- The stepped record with the burner computed and the band judged, before the flame test. -/
def ZoneRec.bandJudged : ZoneRec := ((r.stepped p l).withBurner p l).judged p 2

theorem period_eq : r.period p l flame = if flame then (r.bandJudged p l).flameProven p l else r.bandJudged p l := rfl

/-- The flame test changes the ignition, its timer and the burner at most (R133). -/
theorem flameProven_keeps : ∃ i t b, r.flameProven p l = { r with ignition := i, ignitionTimer := t, burner := b } := by
  unfold ZoneRec.flameProven
  split
  · exact ⟨_, _, _, rfl⟩
  · exact ⟨r.ignition, r.ignitionTimer, r.burner, rfl⟩

theorem period_keeps :
    ∃ i t b, r.period p l flame = { r.bandJudged p l with ignition := i, ignitionTimer := t, burner := b } := by
  rw [period_eq]
  split
  · exact flameProven_keeps p l _
  · exact ⟨(r.bandJudged p l).ignition, (r.bandJudged p l).ignitionTimer, (r.bandJudged p l).burner, rfl⟩

/-- The step of ramp and trim changes these two alone. -/
theorem stepped_keeps : ∃ c t, r.stepped p l = { r with current := c, trim := t } := by
  unfold ZoneRec.stepped
  split
  · exact ⟨_, _, rfl⟩
  · exact ⟨r.current, r.trim, rfl⟩

theorem period_targets :
    (r.period p l flame).target = r.target ∧ (r.period p l flame).feedforward = r.feedforward ∧
      (r.period p l flame).air = r.air ∧ (r.period p l flame).lel = r.lel := by
  obtain ⟨i, t, b, period⟩ := period_keeps p l flame r
  obtain ⟨c, u, stepped⟩ := stepped_keeps p l r
  simp [period, ZoneRec.bandJudged, ZoneRec.judged, ZoneRec.withBurner, stepped]

theorem period_ramp :
    (r.period p l flame).current = (r.stepped p l).current ∧ (r.period p l flame).trim = (r.stepped p l).trim := by
  obtain ⟨i, t, b, period⟩ := period_keeps p l flame r
  rw [period]
  exact ⟨rfl, rfl⟩

/-- The band status of a control period (R129). -/
theorem period_band :
    (r.period p l flame).band = judgeBand p r.air r.target ∧
      (r.period p l flame).inBandTime =
        if (r.period p l flame).band = .inBand ∧ r.band = .inBand then min 65535 (r.inBandTime + 2) else 0 := by
  obtain ⟨i, t, b, period⟩ := period_keeps p l flame r
  obtain ⟨c, u, stepped⟩ := stepped_keeps p l r
  rw [period, ZoneRec.bandJudged, stepped]
  exact ⟨rfl, rfl⟩

/-- The flame test of a control period (R133). -/
theorem period_ignition :
    (r.period p l flame).ignition = if r.ignition = .igniting ∧ flame = true then .proven else r.ignition := by
  have own : (r.bandJudged p l).ignition = r.ignition := by
    obtain ⟨c, u, stepped⟩ := stepped_keeps p l r
    rw [ZoneRec.bandJudged, stepped]
    rfl
  rw [period_eq]
  unfold ZoneRec.flameProven
  cases flame
  · simpa using own
  · rw [if_pos rfl, own]
    by_cases igniting : r.ignition = .igniting
    · rw [if_pos igniting, if_pos ⟨igniting, rfl⟩]
      rfl
    · rw [if_neg igniting, if_neg fun h => igniting h.1]
      exact own

/-- The burner demand is the one of the record as the period leaves it (R130). -/
theorem period_burner : (r.period p l flame).burner = burnerDemand p l (r.period p l flame) := by
  rw [period_eq]
  unfold ZoneRec.flameProven
  repeat' split
  all_goals rfl

/-- The setpoint current of a control period (R127). -/
theorem ramped_current :
    (|r.target - r.current| ≤ r.ramp → r.ramped.current = r.target) ∧
      (r.ramp < |r.target - r.current| →
        r.ramped.current = if r.current < r.target then r.current + r.ramp else r.current - r.ramp) := by
  rw [Int.abs_eq_natAbs]
  exact ⟨fun near => if_pos near, fun far => if_neg (by omega)⟩

theorem firing_iff {i : Ignition} : i.firing = true ↔ i = .igniting ∨ i = .proven := by cases i <;> simp [Ignition.firing]

/-- R128's table, its two conditions to a row. -/
theorem trimAfter_eq (w : Int) : trimAfter p r w =
    if p.deadband < r.current - w ∧ r.burner < 1000 then r.trim + p.trimStep
    else if r.current - w < -(p.deadband : Int) ∧ p.minFire < r.burner then r.trim - p.trimStep
    else r.trim := by
  unfold trimAfter
  by_cases above : (p.deadband : Int) < r.current - w
  · have notBelow : ¬ r.current - w < -(p.deadband : Int) := by omega
    simp [above, notBelow]
  · by_cases below : r.current - w < -(p.deadband : Int) <;> simp [above, below]

/-- The trim of a control period (R128). -/
theorem trimmed_trim : (r.trimmed p).trim = min (p.trimLimit : Int) (max (-(p.trimLimit : Int))
    (match r.air.currentValue p with
      | none => r.trim
      | some w =>
        if ¬ (r.ignition = .igniting ∨ r.ignition = .proven) then r.trim
        else if p.deadband < r.current - w ∧ r.burner < 1000 then r.trim + p.trimStep
        else if r.current - w < -(p.deadband : Int) ∧ p.minFire < r.burner then r.trim - p.trimStep
        else r.trim)) := by
  unfold ZoneRec.trimmed clampInt
  dsimp only
  have lit := firing_iff (i := r.ignition)
  cases r.air.currentValue p with
  | none => cases r.ignition.firing <;> rfl
  | some w =>
    cases firing : r.ignition.firing with
    | false => simp [← lit, firing]
    | true => simp [← lit, firing, trimAfter_eq]

/-- Where the loops control, the setpoint current ramps and the trim steps (R127, R128). -/
theorem stepped_controlled (controlled : l.controlled = true) : r.stepped p l = r.ramped.trimmed p := if_pos controlled

theorem stepped_else (away : ¬ l.controlled = true) : r.stepped p l = r := if_neg away

theorem judgeBand_eq (x : Sensor) (target : Int) : judgeBand p x target =
    match x.currentValue p with
    | none => .low
    | some w => if |w - target| ≤ p.bandWidth then .inBand else if target < w then .high else .low := by
  unfold judgeBand
  cases x.currentValue p with
  | none => rfl
  | some w =>
    have width : (w - target).natAbs ≤ p.bandWidth ↔ |w - target| ≤ (p.bandWidth : Int) := by
      rw [Int.abs_eq_natAbs]
      omega
    simp [width]

/-- The burner demand by line state and ignition (R130). -/
theorem burnerDemand_cases :
    (l.controlled = true → (r.ignition = .igniting ∨ r.ignition = .proven) →
      burnerDemand p l r = min 1000 (max (p.minFire : Int) (r.feedforward + r.trim))) ∧
    (l.controlled = true → ¬ (r.ignition = .igniting ∨ r.ignition = .proven) → burnerDemand p l r = 0) ∧
    (l = .brk → burnerDemand p l r = p.breakBurner) ∧ (¬ l.controlled = true → l ≠ .brk → burnerDemand p l r = 0) := by
  refine ⟨fun controlled lit => ?_, fun controlled unlit => ?_, fun brk => by rw [brk]; rfl, fun away other => ?_⟩
  · rw [burnerDemand_controlled r controlled, if_pos lit]
  · rw [burnerDemand_controlled r controlled, if_neg unlit]
  · cases l
    case heatup | ready | run => exact absurd rfl away
    case brk => exact absurd rfl other
    all_goals rfl

/-- A flame test leaves a zone lit or unlit as it was (R133). -/
theorem period_lit :
    ((r.period p l flame).ignition = .igniting ∨ (r.period p l flame).ignition = .proven) ↔
      (r.ignition = .igniting ∨ r.ignition = .proven) := by
  rw [period_ignition]
  split
  · rename_i proves
    simp [proves.1]
  · rfl

/-- A zone's burner after a control period, by line state and the ignition it began with (R130). -/
theorem period_burner_cases :
    let b := r.period p l flame
    (l.controlled = true → (r.ignition = .igniting ∨ r.ignition = .proven) →
      b.burner = min 1000 (max (p.minFire : Int) (r.feedforward + b.trim))) ∧
    (l.controlled = true → ¬ (r.ignition = .igniting ∨ r.ignition = .proven) → b.burner = 0) ∧
    (l = .brk → b.burner = p.breakBurner) ∧ (¬ l.controlled = true → l ≠ .brk → b.burner = 0) := by
  have cases := burnerDemand_cases p l (r.period p l flame)
  rw [period_lit, (period_targets p l flame r).2.1] at cases
  dsimp only
  rwa [period_burner]

end zone

/-! ### The loops' work (R126, R140, R142) -/

/-- The part as the loops of a control period find it: the timer restarted, and no MIN_FIRE waiting (R126, R130). -/
def periodBegun (s : State) : State := s.withLine { s.line with control := some Config.controlMs, priorMinFire := none }

/-- The part once the loops have run and the drive stage has followed them. -/
def looped (s : State) : State := followDrives (forCircuits circuitPeriod (forZones zonePeriod (periodBegun s)))

/-- The part as the supervisor finds it, after the settle timer and the band report. -/
def reported (s : State) : State := bandReportToPlan (settleJudged (looped s))

theorem controlWork_eq (s : State) : controlWork s =
    sensorTested (reported s).line.state.permitClosed (clearJudged (forZones judgeZone (reported s))) := rfl

theorem onlyChanges_zonePeriod (z : Zone) (s : State) : OnlyChanges [.zones] s (zonePeriod z s) := by
  unfold zonePeriod
  split
  · exact onlyChanges_withZones s _
  · exact (onlyChanges_refl s).mono (by simp)

theorem onlyChanges_circuitPeriod (c : Circuit) (s : State) : OnlyChanges [.circuits] s (circuitPeriod c s) := by
  unfold circuitPeriod
  split
  · exact onlyChanges_withCircuits s _
  · exact (onlyChanges_refl s).mono (by simp)

theorem onlyChanges_looped (s : State) : OnlyChanges [.zones, .circuits, .channels] (periodBegun s) (looped s) :=
  (((onlyChanges_forZones onlyChanges_zonePeriod _).trans (onlyChanges_forCircuits onlyChanges_circuitPeriod _)).trans
    (onlyChanges_withChannels _ _)).mono (by simp)

theorem zone_zonePeriod (y z : Zone) (s : State) : (zonePeriod y s).zones.get z =
    if y = z ∧ s.present z = true then
      (s.zones.get z).period s.loopParams s.line.state (s.confirmedOf (.flame z) == some .active)
    else s.zones.get z := by
  unfold zonePeriod
  by_cases own : y = z
  · subst own
    split <;> simp [*, State.withZone, PerZone.get_set]
  · split <;> simp [own, Ne.symm own, State.withZone, PerZone.get_set]

theorem zone_forZones_zonePeriod (s : State) (z : Zone) : (forZones zonePeriod s).zones.get z =
    if s.present z then (s.zones.get z).period s.loopParams s.line.state (s.confirmedOf (.flame z) == some .active)
    else s.zones.get z := by
  have kept : ∀ y u, (zonePeriod y u).present = u.present ∧ (zonePeriod y u).loopParams = u.loopParams ∧
      (zonePeriod y u).line = u.line ∧ (zonePeriod y u).confirmedOf = u.confirmedOf := fun y u => by
    unfold zonePeriod
    split <;> exact ⟨rfl, rfl, rfl, rfl⟩
  show (zonePeriod .z4 (zonePeriod .z3 (zonePeriod .z2 (zonePeriod .z1 s)))).zones.get z = _
  simp only [zone_zonePeriod, kept]
  cases z <;> simp

theorem circuit_circuitPeriod (k c : Circuit) (s : State) : (circuitPeriod k s).circuits.get c =
    if k = c ∧ s.circuitPresent c = true then (s.circuits.get c).period s.params s.line.state else s.circuits.get c := by
  unfold circuitPeriod
  by_cases own : k = c
  · subst own
    split <;> simp [*, State.withCircuit, PerCircuit.get_set]
  · split <;> simp [own, Ne.symm own, State.withCircuit, PerCircuit.get_set]

theorem circuit_forCircuits_circuitPeriod (s : State) (c : Circuit) : (forCircuits circuitPeriod s).circuits.get c =
    if s.circuitPresent c then (s.circuits.get c).period s.params s.line.state else s.circuits.get c := by
  have kept : ∀ k u, (circuitPeriod k u).circuitPresent = u.circuitPresent ∧ (circuitPeriod k u).params = u.params ∧
      (circuitPeriod k u).line = u.line := fun k u => by
    unfold circuitPeriod
    split <;> exact ⟨rfl, rfl, rfl⟩
  show (circuitPeriod .c2 (circuitPeriod .c1 s)).circuits.get c = _
  simp only [circuit_circuitPeriod, kept]
  cases c <;> simp

/-- A zone's record as the loops leave it; the MIN_FIRE they read is the written one (R130). -/
theorem zone_looped (s : State) (z : Zone) : (looped s).zones.get z =
    if s.present z then (s.zones.get z).period s.params s.line.state (s.confirmedOf (.flame z) == some .active)
    else s.zones.get z := by
  have zones : (looped s).zones = (forZones zonePeriod (periodBegun s)).zones :=
    onlyChanges_forCircuits onlyChanges_circuitPeriod _ .zones (by simp)
  have params : (periodBegun s).loopParams = s.params := State.loopParams_of_none rfl
  rw [zones, zone_forZones_zonePeriod, params]
  rfl

/-- A circuit's record as the loops leave it. -/
theorem circuit_looped (s : State) (c : Circuit) : (looped s).circuits.get c =
    if s.circuitPresent c then (s.circuits.get c).period s.params s.line.state else s.circuits.get c := by
  have same := onlyChanges_forZones onlyChanges_zonePeriod (periodBegun s)
  have circuits : (forZones zonePeriod (periodBegun s)).circuits = s.circuits := same .circuits (by simp)
  have line : (forZones zonePeriod (periodBegun s)).line = (periodBegun s).line := same .line (by simp)
  have agent : (forZones zonePeriod (periodBegun s)).agent = s.agent := same .agent (by simp)
  show (forCircuits circuitPeriod (forZones zonePeriod (periodBegun s))).circuits.get c = _
  rw [circuit_forCircuits_circuitPeriod, State.params, agent, circuits, State.circuitPresent, line]
  rfl

/-- The valve's step (R140, R142). -/
theorem valve_period {p : Params} {l : LineState} (r : CircuitRec) (controlled : l.controlled = true) :
    (r.period p l).valve = min 1000 (max (p.chillMinValve : Int)
      (match r.web.currentValue p with
        | none => r.valve
        | some w =>
          if p.deadband < w - r.setpoint then r.valve + p.trimStep
          else if w - r.setpoint < -(p.deadband : Int) then r.valve - p.trimStep else r.valve)) := by
  show (if l.controlled then valveAfter p r else r.valve) = _
  rw [if_pos controlled]
  rfl

/-! ### The settle timer (R82) -/

theorem settleCondition_iff (s : State) : s.settleCondition = true ↔
    ∀ z, s.present z = true → (s.zones.get z).band = .inBand ∧ (s.zones.get z).ignition = .proven := by
  have all : (∀ z, z ∈ Zone.all) := fun z => by cases z <;> decide
  unfold State.settleCondition
  simp only [List.all_eq_true, all, forall_true_left, Bool.or_eq_true, Bool.not_eq_true', Bool.and_eq_true, beq_iff_eq]
  refine forall_congr' fun z => ?_
  cases s.present z <;> simp

theorem settle_settleJudged {s : State} (heatup : s.line.state = .heatup) :
    (settleJudged s).line.settle =
      if s.settleCondition then some (s.line.settle.getD (1000 * s.params.settleTime)) else none := by
  unfold settleJudged
  rw [if_pos heatup]
  show (if s.settleCondition then _ else none) = _
  cases s.line.settle <;> rfl

/-- The settle timer is all that judging it can change. -/
theorem settleJudged_eq (s : State) : ∃ x, settleJudged s = s.withLine { s.line with settle := x } := by
  unfold settleJudged
  split
  · exact ⟨_, rfl⟩
  · exact ⟨s.line.settle, rfl⟩

end Sys2Proof.Machine

/-!
SUPPORT. What the supervisor and the end of a control period leave of the loops' records, where no relief can end and no commit is
left to carry out; the sensor test of a control period; and the statement about control periods.
-/

namespace Sys2Proof.Machine

-- One proof after the other: side by side with the text above, their threads need more memory than the check allows.
set_option Elab.async false

/-! ### The permit through a band report (R177) -/

/-- READY and RUN are entered with the permit closed. -/
theorem permitClosed_readyFromRun (s : State) : (readyFromRun s).line.state.permitClosed = true := by
  have watched : ∀ u, (masterAtReady u).line = u.line := fun u => by
    unfold masterAtReady
    split
    · exact (push_rest _ u).1
    · rfl
  have entered : (readyFromRun s).line = (enterLine .ready s).line :=
    (watched _).trans (onlyChanges_sendUnasked _ _ .line (by simp))
  rw [entered, enterLine_line]
  rfl

theorem permitClosed_testHead (n : Nat) {s : State} (closed : s.line.state.permitClosed = true) :
    (testHead n s).line.state.permitClosed = true := by
  induction n generalizing s with
  | zero => exact closed
  | succ n ih =>
    cases plan : s.planner.plan with
    | none =>
      have idle : testHead (n + 1) s = s := by unfold testHead; rw [plan]
      rwa [idle]
    | some p =>
      have test := headTest (n := n) plan
      generalize testHead (n + 1) s = t at test ⊢
      cases test with
      | completes =>
        unfold completePlan
        dsimp only
        split
        · exact permitClosed_readyFromRun _
        · exact closed
      | stands => exact closed
      | waits => exact closed
      | fires x =>
        have line : (fireHead p x.kind s).line = s.line := onlyChanges_fireHead p x.kind s .line (by simp)
        exact ih (by rwa [line])

/-- A band report leaves a closed permit closed: what it fires does not trip (R106). -/
theorem permitClosed_bandReportToPlan {s : State} (closed : s.line.state.permitClosed = true) :
    (bandReportToPlan s).line.state.permitClosed = true := by
  have run : (runPlan s).line.state.permitClosed = true := by
    unfold runPlan
    split
    · exact closed
    · exact permitClosed_testHead _ closed
  unfold bandReportToPlan
  split
  · exact closed
  split
  · exact run
  · exact closed

/-! ### What a period leaves where nothing is restored or carried out -/

/-- A relief whose end restores nothing: its clear timer is not 0, or there is no record to clear and none to push, or a break's
record stands ACTIVE on top. -/
def NoRestore (s : State) : Prop :=
  s.params.lelClearTime ≠ 0 ∨ (s.stack = [] ∧ s.line.state.granted = false) ∨
    ∃ x rest, s.stack = x :: rest ∧ x.cause = .brk ∧ x.cleared = false

/-- A pending commit that no safe point of READY or RUN carries out. -/
def NoCommit (s : State) : Prop := s.store.status = .pending → s.stack ≠ [] ∨ s.line.state.granted = false

/-- Where nothing can be restored or carried out, that stays so, and the zones and the line record stand but for a trip. -/
def Uneventful (s t : State) : Prop :=
  NoRestore s ∧ NoCommit s → (NoRestore t ∧ NoCommit t) ∧
    ((s.line.state ≠ .lockout ∧ t.line.state = .lockout) ∨ (t.zones = s.zones ∧ t.line = s.line))

theorem uneventful_of_same {s t : State} (line : t.line = s.line := by rfl) (zones : t.zones = s.zones := by rfl)
    (stack : t.stack = s.stack := by rfl) (store : t.store = s.store := by rfl) (params : t.params = s.params := by rfl) :
    Uneventful s t := by
  unfold Uneventful NoRestore NoCommit
  rw [line, stack, store, params]
  exact fun quiet => ⟨quiet, .inr ⟨zones, rfl⟩⟩

theorem Uneventful.refl (s : State) : Uneventful s s := uneventful_of_same

theorem Uneventful.trans {s t u : State} (h : Uneventful s t) (k : Uneventful t u) : Uneventful s u := fun quiet => by
  obtain ⟨between, first⟩ := h quiet
  obtain ⟨after, second⟩ := k between
  refine ⟨after, ?_⟩
  rcases second with ⟨warm, locked⟩ | ⟨zones, line⟩ <;> rcases first with ⟨warm', locked'⟩ | ⟨zones', line'⟩
  · exact absurd locked' warm
  · exact .inl ⟨by rwa [← line'], locked⟩
  · exact .inl ⟨warm', by rwa [line]⟩
  · exact .inr ⟨zones.trans zones', line.trans line'⟩

theorem Uneventful.ite {s t u : State} {c : Prop} [Decidable c] (h : Uneventful s t) (k : Uneventful s u) :
    Uneventful s (if c then t else u) := by split <;> assumption

/-- A trip empties the stack and enters LOCKOUT, or leaves all but the entries (R93). -/
theorem uneventful_trip (e : FaultCode) (s : State) : Uneventful s (trip e s) := by
  by_cases idle : s.line.state = .cold ∨ s.line.state = .lockout
  · rw [trip_idle e idle]
    exact uneventful_of_same
  · intro _
    have away := tripLine_else (s := raiseFault e s) idle
    have line : (trip e s).line.state = .lockout := by rw [trip, away, enterLine_line]
    have outside : (trip e s).line.state.granted = false := by rw [line]; rfl
    have stack : (trip e s).stack = [] := by
      rw [trip, away, enterLine_stack]
      rfl
    exact ⟨⟨.inr (.inl ⟨stack, outside⟩), fun _ => .inr outside⟩, .inl ⟨fun lockout => idle (.inr lockout), line⟩⟩

theorem onlyChanges_overlay (c : Cause) (s : State) : OnlyChanges [.planner, .outlet, .channels] s (overlay c s) := by
  cases c
  case lelRelief =>
    have opened : OnlyChanges [.planner, .channels] s (followDrives (openExhaust (discardPlan s))) :=
      ((onlyChanges_withPlanner s _).trans ((onlyChanges_withPlanner _ _).trans (onlyChanges_withChannels _ _))).mono (by simp)
    exact (opened.trans ((onlyChanges_withPlanner _ _).trans (onlyChanges_withOutlet _ _))).mono (by simp)
  all_goals exact (onlyChanges_withPlanner s _).mono (by simp)

/-- The blocks a push can change (R152 to R158). -/
abbrev pushBlocks : List Block := [.planner, .outlet, .channels, .stack, .sat, .faults]

theorem onlyChanges_push (c : Cause) (s : State) : OnlyChanges pushBlocks s (push c s) := by
  have same := (onlyChanges_refl s).mono (m := pushBlocks) (by simp)
  have saved : ∀ l u, OnlyChanges pushBlocks u ((overlay c u).withStack l) := fun l u =>
    ((onlyChanges_overlay c u).trans (onlyChanges_withStack _ l)).mono (by simp)
  have overflown : OnlyChanges [.stack, .sat, .faults] s (overflowStack s) :=
    ((onlyChanges_withStack s _).trans (onlyChanges_withSat _ _)).trans (onlyChanges_withFaults _ _)
  unfold push
  split
  · exact same
  split
  · exact same
  split
  · split
    · exact saved _ s
    · exact same
  · split
    · exact saved _ s
    · exact (overflown.trans (saved _ _)).mono (by simp)

theorem uneventful_push {c : Cause} {s : State} (granted : pushRefused c s.line.state = false) : Uneventful s (push c s) := by
  have same := onlyChanges_push c s
  have line : (push c s).line = s.line := same .line (by simp)
  have params : (push c s).params = s.params := congrArg Agent.params (same .agent (by simp))
  rintro ⟨restores, _⟩
  refine ⟨⟨?_, fun _ => .inl (stack_push_ne_nil granted)⟩, .inr ⟨same .zones (by simp), line⟩⟩
  rcases restores with timer | ⟨_, outside⟩ | ⟨x, rest, stack, cause, active⟩
  · exact .inl (by rwa [params])
  · simp [pushRefused, outside] at granted
  · have refused : push c s = s := by
      unfold push
      simp [granted, stack, cause]
    exact .inr (.inr ⟨x, rest, by rw [refused, stack], cause, active⟩)

theorem uneventful_lelWarning {s : State} (granted : s.line.state.granted = true) : Uneventful s (lelWarning s) := by
  have raised : Uneventful s
      (raiseFault .lelWarn (s.withSupervisor { s.supervisor with reliefHeld := true, clearTimer := none })) := uneventful_of_same
  refine raised.trans (uneventful_push ?_)
  show pushRefused .lelRelief s.line.state = false
  simp [pushRefused, granted]

theorem uneventful_judgeZone (z : Zone) (s : State) : Uneventful s (judgeZone z s) := by
  have flagged : ∀ f u, Uneventful u (setFlags z f u) := fun _ _ => uneventful_of_same
  have warned : ∀ u, Uneventful u (judgeWarn z u) := fun u => by
    rw [judgeWarn_eq]
    split
    · rename_i crosses
      exact (flagged _ u).trans (uneventful_lelWarning crosses.1)
    · exact flagged _ u
  have tripped : ∀ u, Uneventful u (judgeTrip z u) := fun u => by
    rw [judgeTrip_eq]
    exact ((flagged _ u).trans (uneventful_trip _ _)).ite (flagged _ u)
  have heated : ∀ u, Uneventful u (judgeHot z u) := fun u => by
    rw [judgeHot_eq]
    exact ((flagged _ u).trans (uneventful_trip _ _)).ite (flagged _ u)
  exact (((warned s).trans (tripped _)).trans (heated _)).ite (.refl s)

theorem uneventful_judged (s : State) : Uneventful s (forZones judgeZone s) :=
  (((uneventful_judgeZone _ s).trans (uneventful_judgeZone _ _)).trans (uneventful_judgeZone _ _)).trans (uneventful_judgeZone _ _)

/-- An ACTIVE record on top stops the popping (R160). -/
theorem popStack_active {s : State} {x : Context} {rest : List Context} (stack : s.stack = x :: rest) (active : x.cleared = false) :
    popStack s = s.withStack (x :: rest) := by
  have stops : popCleared s.stack none = (x :: rest, none) := by
    rw [stack, popCleared, active]
    rfl
  rw [popStack, stops]

/-- Beneath an ACTIVE record of a break the relief's is marked CLEARED and none is popped (R159, R160). -/
theorem clearCause_beneath {s : State} {x : Context} {rest : List Context} (stack : s.stack = x :: rest) (cause : x.cause = .brk)
    (active : x.cleared = false) : ∃ l, clearCause .lelRelief s = s.withStack (x :: l) := by
  have marked : s.stack.map (fun r => if r.cause = .lelRelief then { r with cleared := true } else r) =
      x :: rest.map fun r => if r.cause = .lelRelief then { r with cleared := true } else r := by
    rw [stack, List.map_cons, if_neg (by simp [cause])]
  unfold clearCause
  split
  · rw [marked, popStack_active rfl active]
    exact ⟨_, rfl⟩
  · refine ⟨rest, ?_⟩
    rw [← stack]
    rfl

/-- The clear test of a relief (R171). -/
theorem uneventful_clearJudged (s : State) : Uneventful s (clearJudged s) := by
  have timed : ∀ x, Uneventful s (setClearTimer x s) := fun _ => uneventful_of_same
  unfold clearJudged
  refine Uneventful.ite (.refl s) (Uneventful.ite (timed _) (Uneventful.ite (.refl s) ?_))
  split
  · rename_i instant
    rintro ⟨restores, commits⟩
    rcases restores with timer | ⟨empty, outside⟩ | ⟨x, rest, stack, cause, active⟩
    · exact absurd instant timer
    · have idle : clearRelief s = s.withSupervisor { s.supervisor with reliefHeld := false, clearTimer := none } := by
        unfold clearRelief clearCause State.activeContext
        simp [empty]
      rw [idle]
      exact ⟨⟨.inr (.inl ⟨empty, outside⟩), commits⟩, .inr ⟨rfl, rfl⟩⟩
    · obtain ⟨l, cleared⟩ := clearCause_beneath
        (s := s.withSupervisor { s.supervisor with reliefHeld := false, clearTimer := none }) stack cause active
      rw [clearRelief, cleared]
      exact ⟨⟨.inr (.inr ⟨x, l, rfl, cause, active⟩), fun _ => .inl nofun⟩, .inr ⟨rfl, rfl⟩⟩
  · exact timed _

theorem uneventful_sensorTested (b : Bool) (s : State) : Uneventful s (sensorTested b s) :=
  (uneventful_trip _ s).ite (.refl s)

/-- With no commit to carry out the end of an event leaves the zones and the line record. -/
theorem finish_noCommit {s : State} (quiet : NoCommit s) : (finish s).zones = s.zones ∧ (finish s).line = s.line := by
  by_cases outside : s.line.state.granted = false
  · have ends := onlyChanges_finish outside
    exact ⟨ends .zones (by simp), ends .line (by simp)⟩
  · have settled : storeSettled s = true := by
      by_cases pending : s.store.status = .pending
      · have full : s.stack ≠ [] := (quiet pending).resolve_right outside
        simp [storeSettled, State.safePoint, full]
      · simp [storeSettled, pending]
    have ends := (onlyChanges_closeEvent_settled settled).trans (outletAlone_arbitrate _).onlyChanges
    exact ⟨ends .zones (by simp), ends .line (by simp)⟩

/-! ### A control period from its loops to its end -/

section period

variable {s : State}

theorem looped_line (s : State) : (looped s).line = { s.line with control := some Config.controlMs, priorMinFire := none } :=
  onlyChanges_looped s .line (by simp)

theorem state_settleJudged (s : State) : (settleJudged s).line.state = s.line.state := by
  obtain ⟨x, judged⟩ := settleJudged_eq s
  rw [judged]
  rfl

theorem keepsLoops_reported (s : State) : KeepsLoops (looped s) (reported s) := by
  obtain ⟨x, judged⟩ := settleJudged_eq (looped s)
  unfold reported
  rw [judged]
  exact ((keepsFlags_withSettle _ x).trans (keepsFlags_bandReportToPlan _)).toKeepsLoops

/-- The part as the sensor test of a control period finds it. -/
def supervised (s : State) : State := clearJudged (forZones judgeZone (reported s))

theorem keepsLoops_supervised (s : State) : KeepsLoops (reported s) (supervised s) :=
  (((keepsLoops_judgeZone _ _).trans (keepsLoops_judgeZone _ _)).trans
    ((keepsLoops_judgeZone _ _).trans (keepsLoops_judgeZone _ _))).trans (keepsFlags_clearJudged _).toKeepsLoops

theorem keepsLoops_period (s : State) : KeepsLoops (looped s) (finish (controlWork s)) :=
  ((keepsLoops_reported s).trans (keepsLoops_supervised s)).trans
    ((keepsFlags_sensorTested _ _).trans (keepsFlags_finish _)).toKeepsLoops

theorem sameReadings_supervised (s : State) : SameReadings s (supervised s) := by
  have loops : Work s (looped s) :=
    ((work_withLine (s := s)).trans (work_forZones _ work_zonePeriod _)).trans
      ((work_forCircuits _ work_circuitPeriod _).trans (.drives _))
  have judged : Work (looped s) (settleJudged (looped s)) := by
    obtain ⟨x, judged⟩ := settleJudged_eq (looped s)
    rw [judged]
    exact work_withLine
  have work : Work s (supervised s) := (loops.trans (judged.trans (work_bandReportToPlan _))).trans
    ((work_forZones _ work_judgeZone _).trans (work_clearJudged _))
  have kept := (keepsLoops_reported s).trans (keepsLoops_supervised s)
  exact
    { present := fun z => congrArg (·.get z) (kept.zonesPresent.trans (congrArg Line.zonesPresent (looped_line s)))
      zones := work.undisturbed.zones
      params := work.undisturbed.params }

/-- With the permit closed a failing sensor test of a control period is raised and locks the line out (R177, R178). -/
theorem period_sensorFail (closed : s.line.state.permitClosed = true) (fails : s.sensorTestFails = true) :
    (finish (controlWork s)).line.state = .lockout ∧
      (finish (controlWork s)).faults.pending &&& FaultCode.sensorFail.bit ≠ 0 := by
  have due : (reported s).line.state.permitClosed = true :=
    permitClosed_bandReportToPlan (by rwa [state_settleJudged, looped_line])
  have warm : (supervised s).line.state ≠ .cold := fun cold => by
    rcases (keepsLoops_supervised s).permit due with closed | lockout
    · rw [cold] at closed
      cases closed
    · rw [cold] at lockout
      cases lockout
  have trips : controlWork s = trip .sensorFail (supervised s) := by
    rw [controlWork_eq, sensorTested, due]
    exact if_pos ((sameReadings_supervised s).sensorTestFails.trans fails)
  have ended := keepsFlags_finish (trip .sensorFail (supervised s))
  rw [trips]
  exact ⟨ended.locked (trip_locks _ warm), (ended.raised _ (raised_trip _ _)).pending⟩

/-- Where no relief can end and no commit is left, a period that does not trip the line ends with the zones as the loops left them,
and the line as the settle timer's judgement did. -/
theorem period_kept (restores : NoRestore s) (commits : NoCommit s) (plan : s.planner.plan = none)
    (stays : (finish (controlWork s)).line.state = s.line.state) :
    (finish (controlWork s)).zones = (looped s).zones ∧ (finish (controlWork s)).line = (settleJudged (looped s)).line := by
  have loops := onlyChanges_looped s
  have idle : reported s = settleJudged (looped s) := by
    obtain ⟨x, judged⟩ := settleJudged_eq (looped s)
    have none : (settleJudged (looped s)).planner.plan = none := by
      rw [judged]
      exact (congrArg Planner.plan (loops .planner (by simp))).trans plan
    rw [reported, bandReportToPlan, none]
  have same : OnlyChanges [.line, .zones, .circuits, .channels] s (reported s) := by
    obtain ⟨x, judged⟩ := settleJudged_eq (looped s)
    rw [idle, judged]
    exact (((onlyChanges_withLine s _).trans loops).trans (onlyChanges_withLine _ _)).mono (by simp)
  have state : (reported s).line.state = s.line.state := by rw [idle, state_settleJudged, looped_line]
  have quiet : NoRestore (reported s) ∧ NoCommit (reported s) := by
    unfold NoRestore NoCommit State.params at *
    rw [state, same .stack (by simp), same .agent (by simp), same .store (by simp)]
    exact ⟨restores, commits⟩
  have judged : Uneventful (reported s) (controlWork s) :=
    ((uneventful_judged _).trans (uneventful_clearJudged _)).trans (uneventful_sensorTested _ _)
  obtain ⟨⟨_, settled⟩, stands⟩ := judged quiet
  obtain ⟨zones, line⟩ := finish_noCommit settled
  rcases stands with ⟨warm, lockout⟩ | ⟨zones', line'⟩
  · rw [line, lockout, ← state] at stays
    exact absurd stays.symm warm
  · have settle : (reported s).zones = (looped s).zones := by
      obtain ⟨x, judged⟩ := settleJudged_eq (looped s)
      rw [idle, judged]
      rfl
    exact ⟨(zones.trans zones').trans settle, (line.trans line').trans (congrArg State.line idle)⟩

/-- A present zone's ramp and trim at the end of a period (R127, R128). -/
theorem period_loop {z : Zone} (present : s.present z = true) :
    let a := s.zones.get z
    let b := (finish (controlWork s)).zones.get z
    b.current = (a.stepped s.params s.line.state).current ∧ b.trim = (a.stepped s.params s.line.state).trim := by
  obtain ⟨current, trim⟩ := (keepsLoops_period s).ramp z
  rw [zone_looped, if_pos present] at current trim
  obtain ⟨current', trim'⟩ := period_ramp s.params s.line.state (s.confirmedOf (.flame z) == some .active) (s.zones.get z)
  exact ⟨current.trans current', trim.trans trim'⟩

/-- A valve at the end of a period in a line that is not tripped (R140, R142). -/
theorem period_valve {c : Circuit} (present : s.circuitPresent c = true)
    (stays : (finish (controlWork s)).line.state.controlled = true) :
    ((finish (controlWork s)).circuits.get c).valve = ((s.circuits.get c).period s.params s.line.state).valve := by
  have untripped : (finish (controlWork s)).line.state ≠ .lockout := fun lockout => by
    rw [lockout] at stays
    cases stays
  rw [(keepsLoops_period s).valve.resolve_left untripped c, circuit_looped, if_pos present]

end period

/-- A present zone's record as the loops leave it (R129, R130, R133). -/
theorem period_judged (p : Params) (l : LineState) (level : Option Confirmed) (a : ZoneRec) :
    let b := a.period p l (level == some .active)
    b.target = a.target ∧ b.air = a.air ∧ b.lel = a.lel ∧
      b.band = (match a.air.currentValue p with
        | none => .low
        | some w => if |w - a.target| ≤ p.bandWidth then .inBand else if a.target < w then .high else .low) ∧
      b.inBandTime = (if b.band = .inBand ∧ a.band = .inBand then min 65535 (a.inBandTime + 2) else 0) ∧
      b.ignition = (if a.ignition = .igniting ∧ level = some .active then .proven else a.ignition) ∧
      (l.controlled = true → (a.ignition = .igniting ∨ a.ignition = .proven) →
        b.burner = min 1000 (max (p.minFire : Int) (a.feedforward + b.trim))) ∧
      (l.controlled = true → ¬ (a.ignition = .igniting ∨ a.ignition = .proven) → b.burner = 0) ∧
      (l = .brk → b.burner = p.breakBurner) ∧ (¬ l.controlled = true → l ≠ .brk → b.burner = 0) := by
  obtain ⟨target, _, air, lel⟩ := period_targets p l (level == some .active) a
  obtain ⟨band, inBandTime⟩ := period_band p l (level == some .active) a
  have ignition := period_ignition p l (level == some .active) a
  simp only [beq_iff_eq] at ignition
  exact ⟨target, air, lel, band.trans (judgeBand_eq p a.air a.target), inBandTime, ignition, period_burner_cases p l _ a⟩

/-! ### The statement -/

/-- Settles O49, by the parts of a control period: the loops' step of each record, which the supervisor and the end of the period
leave where the line is not tripped; the ramp and the trim, which they leave in any case; and the sensor test. -/
theorem controlPeriodsRampAndTrim : Obligations.ControlPeriodsRampAndTrim := by
  intro s due p controlled kept settledStore
  have loops := keepsLoops_period s
  have stands := looped_line s
  refine ⟨finish (controlWork s), congrArg Host.Outcome.next (whenDue_due (by rw [due]; rfl)), ?_, ?_, fun z absent => ?_,
    fun z present => ⟨fun away => ?_, fun control => ?_, fun quiet commits plan stays => ?_⟩, fun heatup quiet plan stays => ?_,
    period_sensorFail, fun c present control stays => ?_⟩
  · rw [loops.control, stands]
    rfl
  · rw [loops.minFire, stands]
  · rw [loops.absent z ((congrArg (fun l : Line => l.zonesPresent.get z) stands).trans absent), zone_looped,
      if_neg (by simp [absent])]
  · obtain ⟨current, trim⟩ := period_loop present
    rw [current, trim, stepped_else p s.line.state _ away]
    exact ⟨rfl, rfl⟩
  · obtain ⟨current, trim⟩ := period_loop present
    obtain ⟨near, far⟩ := ramped_current (s.zones.get z)
    dsimp only
    rw [current, trim, stepped_controlled p s.line.state _ control]
    exact ⟨near, far, trimmed_trim p (s.zones.get z).ramped⟩
  · obtain ⟨zones, _⟩ := period_kept quiet commits plan stays
    rw [zones, zone_looped, if_pos present]
    exact period_judged p s.line.state (s.confirmedOf (.flame z)) (s.zones.get z)
  · obtain ⟨zones, line⟩ := period_kept quiet (fun _ => .inr (by rw [heatup]; rfl)) plan (stays.trans heatup.symm)
    have entered : (looped s).line.state = .heatup := by rw [stands, heatup]
    have params : (looped s).params = p := congrArg Agent.params (onlyChanges_looped s .agent (by simp))
    have condition : (looped s).settleCondition = true ↔ ∀ z, s.present z = true →
        ((finish (controlWork s)).zones.get z).band = .inBand ∧ ((finish (controlWork s)).zones.get z).ignition = .proven := by
      rw [settleCondition_iff, zones]
      unfold State.present
      rw [stands]
    rw [line, settle_settleJudged entered, params, stands, ← condition]
    exact ⟨fun settled => if_pos settled, fun unsettled => if_neg unsettled⟩
  · rw [period_valve present stays]
    exact valve_period _ control

end Sys2Proof.Machine

/-!
SUPPORT. A push by the cases of R152; what the overlays make of the planner (R154 to R156); the stack after an overflow (R158); and
the statement about pushes.
-/

namespace Sys2Proof.Machine

-- One proof after the other: side by side with the text above, their threads need more memory than the check allows.
set_option Elab.async false

/-! ### The cases of R152 -/

theorem pushRefused_iff {c : Cause} {l : LineState} :
    pushRefused c l = true ↔ l.granted = false ∨ (c = .splice ∧ l ≠ .run) := by
  simp [pushRefused]

section cases

variable {c : Cause} {s : State}

/-- Cases 1 and 2: refused by the line state, or beneath a BREAK record. -/
theorem push_of_refused (refused : pushRefused c s.line.state = true ∨ ∃ r ∈ s.stack, r.cause = .brk) : push c s = s := by
  unfold push
  rcases refused with outside | broken
  · exact if_pos outside
  · split
    · rfl
    · exact if_pos (by simpa using broken)

/-- Case 3: the cause is ACTIVE. -/
theorem push_of_active {r : Context} (found : s.stack.find? (fun r => r.cause == c) = some r) (active : r.cleared = false) :
    push c s = s := by
  unfold push
  rw [found]
  simp [active]

section taken

variable (accepted : pushRefused c s.line.state = false) (unbroken : ∀ r ∈ s.stack, r.cause ≠ .brk)
include accepted unbroken

/-- Case 4: the cause is CLEARED. -/
theorem push_of_cleared {r : Context} (found : s.stack.find? (fun r => r.cause == c) = some r) (cleared : r.cleared = true) :
    push c s = reactivate c s := by
  unfold push
  rw [if_neg (by simp [accepted]), if_neg (by simpa using unbroken), found]
  exact if_pos cleared

/-- Cases 5 and 6: the cause has no record. -/
theorem push_of_new (new : ∀ r ∈ s.stack, r.cause ≠ c) :
    push c s = if s.stack.length < Config.stackCapacity then saveContext c s else saveContext c (overflowStack s) := by
  have absent : s.stack.find? (fun r => r.cause == c) = none := List.find?_eq_none.mpr (by simpa using new)
  unfold push
  rw [if_neg (by simp [accepted]), if_neg (by simpa using unbroken), absent]

end taken

end cases

/-! ### The overlays (R154 to R156) -/

theorem planner_overlay_freezing {c : Cause} (h : c = .splice ∨ c = .speedLost) (s : State) :
    (overlay c s).planner = { s.planner with plan := s.planner.plan.map fun p => { p with frozen := true } } := by
  rcases h with rfl | rfl <;> rfl

theorem planner_overlay_discarding {c : Cause} (h : c = .masterLost ∨ c = .brk) (s : State) :
    (overlay c s).planner = { s.planner with plan := none } := by
  rcases h with rfl | rfl <;> rfl

theorem planner_overlay_relief (s : State) :
    (overlay .lelRelief s).planner =
      { s.planner with
        plan := none, ceiling := min s.planner.ceiling (reliefBound s)
        inForce := { s.planner.inForce with exhaust := 1000 } } := rfl

theorem owed_overlay_relief (s : State) :
    (overlay .lelRelief s).outlet.owed = s.outlet.owed ++
      [.grant s.outlet.dest.address s.planner.lastTag (min s.planner.ceiling (reliefBound s)) .held] := rfl

/-- The disposition (R153): a plan stands after the overlay where one stood and the cause freezes it. -/
theorem plan_overlay_isSome (c : Cause) (s : State) :
    (overlay c s).planner.plan.isSome = decide ((c = .splice ∨ c = .speedLost) ∧ s.planner.plan.isSome = true) := by
  cases c
  case splice | speedLost =>
    rw [planner_overlay_freezing (by simp)]
    simp
  case masterLost | brk =>
    rw [planner_overlay_discarding (by simp)]
    rfl
  case lelRelief => rfl

theorem sat_overlay (c : Cause) (s : State) : (overlay c s).sat = s.sat := by cases c <;> rfl

/-- An overlay reads nothing that an overflow changes: not the stack, the counters or the fault entries. -/
theorem overlay_overflowStack (c : Cause) (s : State) :
    (overlay c (overflowStack s)).planner = (overlay c s).planner ∧
      (overlay c (overflowStack s)).outlet = (overlay c s).outlet := by
  cases c <;> exact ⟨rfl, rfl⟩

theorem stack_reactivate (c : Cause) (s : State) :
    (reactivate c s).stack = s.stack.map fun r =>
      if r.cause = c then { r with cleared := false, planFrozen := (overlay c s).planner.plan.isSome } else r :=
  congrArg (List.map _) (overlay_rest c s).2.1

theorem stack_saveContext (c : Cause) (s : State) :
    (saveContext c s).stack = contextOf c s (overlay c s).planner.plan.isSome :: s.stack :=
  congrArg (List.cons _) (overlay_rest c s).2.1

/-! ### The stack after an overflow (R158) -/

theorem mapLast_concat {α : Type} (f : α → α) (l : List α) (a : α) : mapLast f (l ++ [a]) = l ++ [f a] := by
  induction l with
  | nil => rfl
  | cons x l ih =>
    cases l with
    | nil => rfl
    | cons y l => exact congrArg (List.cons x) ih

/-- The bottom record is gone, and the one above it has the base context. -/
theorem stack_overflowStack {s : State} {l : List Context} {b a : Context} (stack : s.stack = l ++ [b, a]) :
    (overflowStack s).stack = l ++ [baseContext s b] := by
  have rest : s.stack.dropLast = l ++ [b] := by rw [stack, List.append_cons, List.dropLast_concat]
  calc (overflowStack s).stack = mapLast (baseContext s) s.stack.dropLast := rfl
    _ = l ++ [baseContext s b] := by rw [rest, mapLast_concat]

/-! ### The overlay in a push -/

/-- A push leaves the cause's overlay of the planner, and of the GRANT frames owed. -/
structure Overlays (c : Cause) (s t : State) : Prop where
  planner : t.planner = (overlay c s).planner
  outlet : t.outlet = (overlay c s).outlet

theorem overlays_reactivate (c : Cause) (s : State) : Overlays c s (reactivate c s) := ⟨rfl, rfl⟩

theorem overlays_saveContext (c : Cause) (s : State) : Overlays c s (saveContext c s) := ⟨rfl, rfl⟩

theorem overlays_overflow (c : Cause) (s : State) : Overlays c s (saveContext c (overflowStack s)) :=
  ⟨(overlay_overflowStack c s).1, (overlay_overflowStack c s).2⟩

/-- A GRANT owed at the end of an event's work, with no commit due, has joined the queue when the event is closed (R36, R155). -/
theorem sentOrLost_closeEvent_owed {f : OwnFrame} {l : List OwnFrame} {s t : State} (settled : storeSettled t = true)
    (owed : t.outlet.owed = l ++ [f]) (loss : s.sat.insertLoss.toNat ≤ t.sat.insertLoss.toNat) :
    SentOrLost f s (closeEvent t) := by
  have staged : (driveStage t).outlet.owed = l ++ [f] := (driveStage_same t).owed.trans owed
  have swept := onlyChanges_sweepFaults (payGrants (driveStage t))
  have outlet : (closeEvent t).outlet = (payGrants (driveStage t)).outlet := by
    rw [closeEvent, settleStore_of_settled settled]
    exact swept .outlet (by simp)
  have sat : (closeEvent t).sat = (payGrants (driveStage t)).sat := by
    rw [closeEvent, settleStore_of_settled settled]
    exact swept .sat (by simp)
  rw [SentOrLost, Sends, outlet, sat]
  rcases waitsOrLost_payGrants staged (loss.trans (work_driveStage t).undisturbed.loss) with waits | ⟨n, since, counted⟩
  · exact .inl (.inl waits)
  · exact .inr (loss_moved since counted)

/-- A relief that is not refused leaves a record in the stack, so no commit is carried out before its GRANT HELD (R66, R155). -/
theorem sentOrLost_push {c : Cause} {f : OwnFrame} {l : List OwnFrame} {s : State}
    (accepted : pushRefused c s.line.state = false) (owed : (push c s).outlet.owed = l ++ [f]) :
    SentOrLost f s (closeEvent (push c s)) := by
  have stands : (push c s).stack ≠ [] := stack_push_ne_nil accepted
  exact sentOrLost_closeEvent_owed (by simp [storeSettled, State.safePoint, stands]) owed (work_push c s).undisturbed.loss

/-! ### The statement -/

/-- Settles O50, by the cases of R152: what each leaves of the stack, and the overlay where the push is taken. -/
theorem pushesSaveThePlanner : Obligations.PushesSaveThePlanner := by
  intro c s k t refused stands frozen bound held saved base overlaid
  have taken (h : ¬ refused) : pushRefused c s.line.state = false ∧ ∀ r ∈ s.stack, r.cause ≠ .brk := by
    obtain ⟨outside, unbroken⟩ := not_or.mp (or_assoc.not.mpr h)
    exact ⟨Bool.eq_false_iff.mpr (pushRefused_iff.not.mpr outside), fun r mem cause => unbroken ⟨r, mem, cause⟩⟩
  have disposition : (overlay c s).planner.plan.isSome = decide frozen := plan_overlay_isSome c s
  have applied (accepted : pushRefused c s.line.state = false) (h : Overlays c s t) : overlaid := by
    refine ⟨fun freezes => h.planner.trans (planner_overlay_freezing freezes s),
      fun discards => h.planner.trans (planner_overlay_discarding discards s), ?_⟩
    rintro rfl
    have owed : t.outlet.owed = s.outlet.owed ++ [held] := by rw [h.outlet]; exact owed_overlay_relief s
    exact ⟨h.planner.trans (planner_overlay_relief s), owed, sentOrLost_push accepted owed⟩
  refine ⟨?_, fun unrefused ⟨r, found, cleared⟩ => ?_, fun unrefused new => ?_⟩
  · rintro (no | ⟨r, found, active⟩)
    · exact push_of_refused ((or_assoc.mpr no).imp_left pushRefused_iff.mpr)
    · exact push_of_active found active
  · obtain ⟨accepted, unbroken⟩ := taken unrefused
    have again : t = reactivate c s := push_of_cleared accepted unbroken found cleared
    exact ⟨applied accepted (again ▸ overlays_reactivate c s), by rw [again, stack_reactivate, disposition]⟩
  · obtain ⟨accepted, unbroken⟩ := taken unrefused
    have pushed := push_of_new accepted unbroken new
    by_cases room : s.stack.length < 4
    · have joined : t = saveContext c s := pushed.trans (if_pos room)
      refine ⟨applied accepted (joined ▸ overlays_saveContext c s), fun _ => ?_, fun _ _ _ _ full => by omega⟩
      rw [joined, stack_saveContext, disposition]
      rfl
    · have joined : t = saveContext c (overflowStack s) := pushed.trans (if_neg room)
      have overlays : Overlays c s t := joined ▸ overlays_overflow c s
      refine ⟨applied accepted overlays, fun less => absurd less room, fun l b a stack _ => ⟨?_, ?_, ?_⟩⟩
      · rw [joined, stack_saveContext, stack_overflowStack stack, (overlay_overflowStack c s).1, disposition]
        rfl
      · have sat : (saveContext c (overflowStack s)).sat = (overflowStack s).sat := sat_overlay c _
        rw [joined, sat, ← satInc_eq]
        rfl
      · have faults : (saveContext c (overflowStack s)).faults = (overflowStack s).faults := overlay_faults c _
        rw [joined, faults]
        exact pending_raiseFault_same _ _

end Sys2Proof.Machine

/-!
SUPPORT. What the work of an event that neither warns nor trips keeps of master supervision and of the ACTIVE records: one lemma per
shared operation that a clearance, a push or the end of an event can reach.
-/

namespace Sys2Proof.Machine

-- One proof after the other: side by side with the text above, their threads need more memory than the check allows.
set_option Elab.async false

/-! ### What is watched -/

/-- The supervision record but for the permit, the press mode, the counts that a BEAT moves, and the GRANT destination. -/
structure Watch where
  supervisor : Supervisor
  mode : PressMode
  beatSkip : Byte
  kindMismatch : Byte
  dest : GrantDest

/-- What is watched of a state. -/
def State.watch (s : State) : Watch :=
  { supervisor := { s.supervisor with permit := false }
    mode := s.line.mode
    beatSkip := s.sat.beatSkip
    kindMismatch := s.sat.kindMismatch
    dest := s.outlet.dest }

/-- The causes that a state entry may push: those of R84 and R180. -/
def Watch.calls (w : Watch) : Cause → Prop
  | .speedLost => True
  | .splice => w.mode = .splice
  | .masterLost => w.supervisor.lost = true
  | .lelRelief | .brk => False

/-- No record of a cause is ACTIVE. -/
def State.noneActive (s : State) (c : Cause) : Prop := ∀ r ∈ s.stack, r.cause = c → r.cleared = true

/-- What is watched stands, READY and RUN are not left for another state, and no record becomes ACTIVE but those that the state
entries push. -/
structure KeepsWatch (s t : State) : Prop where
  watch : t.watch = s.watch
  granted : s.line.state.granted = true → t.line.state.granted = true
  cleared : ∀ c, ¬ s.watch.calls c → s.noneActive c → t.noneActive c
  unbroken : (∀ r ∈ s.stack, r.cause ≠ .brk) → ∀ r ∈ t.stack, r.cause ≠ .brk

theorem keepsWatch_of_same {s t : State} (watch : t.watch = s.watch := by rfl) (state : t.line.state = s.line.state := by rfl)
    (stack : t.stack = s.stack := by rfl) : KeepsWatch s t where
  watch := watch
  granted granted := by rwa [state]
  cleared c _ := by
    unfold State.noneActive
    rw [stack]
    exact id
  unbroken := by
    rw [stack]
    exact id

theorem KeepsWatch.refl (s : State) : KeepsWatch s s := keepsWatch_of_same

theorem KeepsWatch.trans {s t u : State} (h : KeepsWatch s t) (k : KeepsWatch t u) : KeepsWatch s u where
  watch := k.watch.trans h.watch
  granted granted := k.granted (h.granted granted)
  cleared c quiet none := k.cleared c (h.watch ▸ quiet) (h.cleared c quiet none)
  unbroken none := k.unbroken (h.unbroken none)

theorem KeepsWatch.ite {s t u : State} {c : Prop} [Decidable c] (h : KeepsWatch s t) (k : KeepsWatch s u) :
    KeepsWatch s (if c then t else u) := by split <;> assumption

theorem keepsWatch_withPlanner (s : State) (x : Planner) : KeepsWatch s (s.withPlanner x) := keepsWatch_of_same

theorem keepsWatch_withPlan (s : State) (p : Option Plan) : KeepsWatch s (s.withPlan p) := keepsWatch_of_same

/-- A stack whose records are CLEARED where records of their cause were is no more ACTIVE. -/
theorem keepsWatch_withStack {s : State} {l : List Context}
    (older : ∀ r ∈ l, ∃ q ∈ s.stack, q.cause = r.cause ∧ (q.cleared = true → r.cleared = true)) :
    KeepsWatch s (s.withStack l) where
  watch := rfl
  granted := id
  cleared c _ none r mem cause := by
    obtain ⟨q, before, same, cleared⟩ := older r mem
    exact cleared (none q before (same.trans cause))
  unbroken none r mem := by
    obtain ⟨q, before, same, _⟩ := older r mem
    exact same ▸ none q before

/-! ### Frames, faults, loops -/

theorem keepsWatch_insertFrame (f : OwnFrame) (s : State) : KeepsWatch s (insertFrame f s) := by
  unfold insertFrame
  split <;> exact keepsWatch_of_same

theorem keepsWatch_insertAll (l : List OwnFrame) (s : State) : KeepsWatch s (insertAll l s) := by
  induction l generalizing s with
  | nil => exact .refl s
  | cons f l ih => exact (keepsWatch_insertFrame f s).trans (ih _)

theorem keepsWatch_payGrants (s : State) : KeepsWatch s (payGrants s) :=
  have unowed : KeepsWatch s (s.withOutlet { s.outlet with owed := [] }) := keepsWatch_of_same
  unowed.trans (keepsWatch_insertAll _ _)

theorem keepsWatch_sendGrant (st : GrantStatus) (tag : Byte) (s : State) : KeepsWatch s (sendGrant st tag s) :=
  (keepsWatch_payGrants s).trans (keepsWatch_insertFrame _ _)

theorem keepsWatch_sendUnasked (st : GrantStatus) (s : State) : KeepsWatch s (sendUnasked st s) := keepsWatch_sendGrant _ _ s

theorem keepsWatch_raiseFault (e : FaultCode) (s : State) : KeepsWatch s (raiseFault e s) := keepsWatch_of_same

theorem keepsWatch_driveStage (s : State) : KeepsWatch s (driveStage s) :=
  have paid : KeepsWatch s ((followDrives s).withChannels ((followDrives s).channels.map Entry.paid)) := keepsWatch_of_same
  paid.trans (keepsWatch_insertAll _ _)

theorem keepsWatch_retargetZone (z : Zone) (a f r : Int) (s : State) : KeepsWatch s (retargetZone z a f r s) := by
  unfold retargetZone
  exact KeepsWatch.ite keepsWatch_of_same (.refl s)

theorem keepsWatch_setSetpoint (c : Circuit) (v : Int) (s : State) : KeepsWatch s (setSetpoint c v s) := by
  unfold setSetpoint
  exact KeepsWatch.ite keepsWatch_of_same (.refl s)

theorem keepsWatch_forceHead (s : State) : KeepsWatch s (forceHead s) := by
  unfold forceHead
  split
  · exact .refl s
  · rename_i e rest _
    have matured : KeepsWatch s (mature e (s.withTransit rest)) :=
      (keepsWatch_of_same : KeepsWatch s (s.withTransit rest)).trans (keepsWatch_setSetpoint _ _ _)
    exact matured.trans keepsWatch_of_same

theorem keepsWatch_appendTransit (c : Circuit) (v : Int) (j : Nat) (s : State) : KeepsWatch s (appendTransit c v j s) :=
  (KeepsWatch.ite (.refl s) (keepsWatch_forceHead s)).trans keepsWatch_of_same

/-! ### Pushes (R152 to R158) -/

theorem mem_mapLast {α : Type} {f : α → α} {l : List α} {a : α} (h : a ∈ mapLast f l) : a ∈ l ∨ ∃ b ∈ l, a = f b := by
  rcases List.eq_nil_or_concat' l with rfl | ⟨m, b, rfl⟩
  · cases h
  · rw [mapLast_concat] at h
    rcases List.mem_append.mp h with inside | last
    · exact .inl (List.mem_append_left _ inside)
    · exact .inr ⟨b, by simp, List.mem_singleton.mp last⟩

/-- A record that a push of another cause leaves was there before, ACTIVE or CLEARED as it is. -/
theorem mem_stack_push {c : Cause} {s : State} {r : Context} (h : r ∈ (push c s).stack) :
    r.cause = c ∨ ∃ q ∈ s.stack, q.cause = r.cause ∧ q.cleared = r.cleared := by
  have before {q : Context} (mem : q ∈ s.stack) : q.cause = c ∨ ∃ x ∈ s.stack, x.cause = q.cause ∧ x.cleared = q.cleared :=
    .inr ⟨q, mem, rfl, rfl⟩
  unfold push at h
  split at h
  · exact before h
  split at h
  · exact before h
  split at h
  · split at h
    · rw [stack_reactivate] at h
      obtain ⟨q, mem, rfl⟩ := List.mem_map.mp h
      split
      · rename_i cause
        exact .inl cause
      · exact before mem
    · exact before h
  · split at h
    · rw [stack_saveContext] at h
      rcases List.mem_cons.mp h with rfl | mem
      · exact .inl rfl
      · exact before mem
    · rw [stack_saveContext] at h
      rcases List.mem_cons.mp h with rfl | mem
      · exact .inl rfl
      · rcases mem_mapLast mem with stays | ⟨q, bottom, rfl⟩
        · exact before (List.mem_of_mem_dropLast stays)
        · exact .inr ⟨q, List.mem_of_mem_dropLast bottom, rfl, rfl⟩

theorem watch_overlay (c : Cause) (s : State) : (overlay c s).watch = s.watch := by cases c <;> rfl

theorem watch_push (c : Cause) (s : State) : (push c s).watch = s.watch := by
  unfold push
  split
  · rfl
  split
  · rfl
  split
  · split
    · exact watch_overlay c s
    · rfl
  · split
    · exact watch_overlay c s
    · exact watch_overlay c (overflowStack s)

/-- A push of a cause that is called for. -/
theorem keepsWatch_push {c : Cause} {s : State} (called : s.watch.calls c) : KeepsWatch s (push c s) where
  watch := watch_push c s
  granted := by
    rw [(push_rest c s).1]
    exact id
  cleared k quiet none r mem cause := by
    rcases mem_stack_push mem with own | ⟨q, before, same, cleared⟩
    · exact absurd called (own ▸ cause ▸ quiet)
    · exact cleared ▸ none q before (same.trans cause)
  unbroken none r mem := by
    rcases mem_stack_push mem with own | ⟨q, before, same, _⟩
    · rintro cause
      rw [← own, cause] at called
      exact called
    · exact same ▸ none q before

/-! ### State entries (R84, R85) -/

theorem keepsWatch_grantAtEntry (l : LineState) (s : State) : KeepsWatch s (grantAtEntry l s) :=
  have withdrawn : KeepsWatch s (withdrawGrant s) := keepsWatch_of_same
  KeepsWatch.ite (.refl s) (KeepsWatch.ite (withdrawn.trans (keepsWatch_sendUnasked _ _)) withdrawn)

/-- READY and RUN are entered with the permit's change alone (R171, R173). -/
theorem entered_granted {l : LineState} (h : l.granted = true) (v : Supervisor) : v.entered l = { v with permit := l.permitClosed } := by
  cases l
  case ready | run => rfl
  all_goals cases h

theorem keepsWatch_enterLine {l : LineState} (h : l.granted = true) (s : State) : KeepsWatch s (enterLine l s) where
  watch := by
    have kept := (keepsWatch_grantAtEntry l s).watch
    have outlet := congrArg Watch.dest kept
    have skip := congrArg Watch.beatSkip kept
    have mismatch := congrArg Watch.kindMismatch kept
    unfold State.watch at outlet skip mismatch ⊢
    rw [enterLine_supervisor, entered_granted h, enterLine_line, enterLine_sat, enterLine_outlet]
    simp only at outlet skip mismatch ⊢
    rw [outlet, skip, mismatch]
  granted _ := by
    rw [enterLine_line]
    exact h
  cleared c _ := by
    unfold State.noneActive
    rw [enterLine_stack]
    exact id
  unbroken := by
    rw [enterLine_stack]
    exact id

theorem keepsWatch_masterAtReady (s : State) : KeepsWatch s (masterAtReady s) := by
  unfold masterAtReady
  split
  · rename_i lost
    exact keepsWatch_push lost
  · exact .refl s

theorem keepsWatch_readyFromRun (s : State) : KeepsWatch s (readyFromRun s) :=
  ((keepsWatch_enterLine (l := .ready) rfl s).trans (keepsWatch_withPlanner _ _)).trans
    ((keepsWatch_sendUnasked _ _).trans (keepsWatch_masterAtReady _))

theorem keepsWatch_enterRun (s : State) : KeepsWatch s (enterRun s) := by
  have lost : ∀ u, KeepsWatch u (speedLost u) := fun u => (keepsWatch_raiseFault _ u).trans (keepsWatch_push trivial)
  have spliced : ∀ u : State, KeepsWatch u (if u.line.mode = .splice then push .splice u else u) := fun u => by
    split
    · rename_i splice
      exact keepsWatch_push splice
    · exact .refl u
  exact ((keepsWatch_enterLine (l := .run) rfl s).trans (KeepsWatch.ite (lost _) (.refl _))).trans (spliced _)

/-! ### Plans (R102, R106) -/

theorem keepsWatch_stepEffect (q : Option Request) (k : StepKind) (s : State) : KeepsWatch s (stepEffect q k s) := by
  cases k
  case setExhaust | setFan => exact keepsWatch_withPlanner s _
  case setZone => exact (keepsWatch_withPlanner s _).trans (keepsWatch_retargetZone _ _ _ _ _)
  case queueChill => exact (keepsWatch_withPlanner s _).trans (keepsWatch_appendTransit _ _ _ _)
  case grant => cases q <;> exact (keepsWatch_withPlanner s _).trans (keepsWatch_sendGrant _ _ _)

theorem keepsWatch_fireHead (p : Plan) (k : StepKind) (s : State) : KeepsWatch s (fireHead p k s) :=
  ((keepsWatch_withPlan s _).trans (keepsWatch_stepEffect _ _ _)).trans keepsWatch_of_same

theorem keepsWatch_completePlan (p : Plan) (s : State) : KeepsWatch s (completePlan p s) :=
  (keepsWatch_withPlan s none).trans (KeepsWatch.ite (keepsWatch_readyFromRun _) (.refl _))

theorem keepsWatch_testHead (n : Nat) (s : State) : KeepsWatch s (testHead n s) := by
  induction n generalizing s with
  | zero => exact .refl s
  | succ n ih =>
    cases plan : s.planner.plan with
    | none =>
      have idle : testHead (n + 1) s = s := by unfold testHead; rw [plan]
      rw [idle]
      exact .refl s
    | some p =>
      have test := headTest (n := n) plan
      generalize testHead (n + 1) s = t at test ⊢
      cases test with
      | completes => exact keepsWatch_completePlan _ s
      | stands => exact .refl s
      | waits => exact keepsWatch_withPlan s _
      | fires => exact (keepsWatch_fireHead _ _ s).trans (ih _)

theorem keepsWatch_runPlan (s : State) : KeepsWatch s (runPlan s) := by
  unfold runPlan
  split
  · exact .refl s
  · exact keepsWatch_testHead _ s

theorem keepsWatch_installPlan (p : Plan) (s : State) : KeepsWatch s (installPlan p s) :=
  ((keepsWatch_withPlanner s { s.planner with plan := some p, target := p.target }).trans
    (KeepsWatch.ite (keepsWatch_enterRun _) (.refl _))).trans (keepsWatch_runPlan _)

/-! ### Clearance and restore (R159 to R164) -/

theorem keepsWatch_setGrant (g : Nat) (c : Int) (s : State) : KeepsWatch s (setGrant g c s) :=
  KeepsWatch.ite (keepsWatch_withPlanner s _) ((keepsWatch_withPlanner s _).trans (keepsWatch_sendUnasked _ _))

theorem keepsWatch_resumeAdjust (j : Nat) (r : Row) (s : State) : KeepsWatch s (resumeAdjust j r s) :=
  KeepsWatch.ite (.refl s) (keepsWatch_installPlan _ s)

theorem keepsWatch_resumePlan (q : Option Request) (j : Nat) (r : Row) (s : State) : KeepsWatch s (resumePlan q j r s) := by
  cases q
  · exact keepsWatch_resumeAdjust j r s
  · exact KeepsWatch.ite (keepsWatch_installPlan _ s) (keepsWatch_resumeAdjust j r s)

theorem keepsWatch_restoreRest (b : Context) (g : Nat) (s : State) : KeepsWatch s (restoreRest b g s) := by
  have aimed : KeepsWatch s (setTarget (restoreTarget b g) s) := keepsWatch_withPlanner s _
  unfold restoreRest
  split
  · exact KeepsWatch.ite ((keepsWatch_withPlan s _).trans (keepsWatch_runPlan _)) (keepsWatch_withPlan s _)
  · unfold restoreDryer
    dsimp only
    split
    · exact aimed.trans (keepsWatch_resumePlan _ _ _ _)
    · exact aimed

theorem keepsWatch_restore (b : Context) (s : State) : KeepsWatch s (restore b s) := by
  unfold restore
  split
  · exact .refl s
  · exact (keepsWatch_setGrant _ _ s).trans (keepsWatch_restoreRest _ _ _)

theorem keepsWatch_popStack (s : State) : KeepsWatch s (popStack s) := by
  have popped : KeepsWatch s (s.withStack (popCleared s.stack none).1) :=
    keepsWatch_withStack fun r mem => ⟨r, (popCleared_suffix _ _).subset mem, rfl, id⟩
  unfold popStack
  split
  · rename_i b last
    rw [last] at popped
    exact popped.trans (keepsWatch_restore b _)
  · rename_i last
    rwa [last] at popped

/-- The stack with the records of a cause marked CLEARED (R159). -/
abbrev marked (c : Cause) (l : List Context) : List Context :=
  l.map fun r => if r.cause = c then { r with cleared := true } else r

theorem keepsWatch_marked (c : Cause) (s : State) : KeepsWatch s (s.withStack (marked c s.stack)) :=
  keepsWatch_withStack fun r mem => by
    obtain ⟨q, before, rfl⟩ := List.mem_map.mp mem
    refine ⟨q, before, ?_⟩
    split
    · exact ⟨rfl, fun _ => rfl⟩
    · exact ⟨rfl, id⟩

theorem keepsWatch_clearCause (c : Cause) (s : State) : KeepsWatch s (clearCause c s) :=
  KeepsWatch.ite ((keepsWatch_marked c s).trans (keepsWatch_popStack _)) (.refl s)

theorem noneActive_of_inactive {c : Cause} {s : State} (h : s.activeContext c = false) : s.noneActive c := by
  intro r mem cause
  have inactive := List.any_eq_false.mp h r mem
  simpa [cause] using inactive

/-- A clearance leaves no ACTIVE record of its cause, unless a state entry that follows pushes it again (R159). -/
theorem noneActive_clearCause {c : Cause} {s : State} (quiet : ¬ s.watch.calls c) : (clearCause c s).noneActive c := by
  unfold clearCause
  split
  · refine (keepsWatch_popStack _).cleared c quiet fun r mem cause => ?_
    obtain ⟨q, _, rfl⟩ := List.mem_map.mp mem
    by_cases own : q.cause = c
    · rw [if_pos own]
    · rw [if_neg own] at cause
      exact absurd cause own
  · rename_i inactive
    exact noneActive_of_inactive (Bool.eq_false_iff.mpr inactive)

/-! ### The end of an event (R66 to R69) -/

theorem keepsWatch_boundCeiling (b : Int) (s : State) : KeepsWatch s (boundCeiling b s) :=
  KeepsWatch.ite ((keepsWatch_withPlanner s _).trans (keepsWatch_sendUnasked _ _)) (.refl s)

theorem keepsWatch_commitReady (r : Row) (s : State) : KeepsWatch s (commitReady r s) := by
  have flushed : KeepsWatch s (flushTransit (s.withPlanner { s.planner with inForce := s.planner.inForce.fromRow r })) :=
    keepsWatch_of_same
  have zone : ∀ z u, KeepsWatch u (zoneFromRow r z u) := fun z u => by
    unfold zoneFromRow
    split
    · exact keepsWatch_retargetZone _ _ _ _ u
    · exact .refl u
  have zones : ∀ u, KeepsWatch u (forZones (zoneFromRow r) u) := fun u =>
    ((zone _ u).trans (zone _ _)).trans ((zone _ _).trans (zone _ _))
  have circuits : ∀ u, KeepsWatch u (forCircuits (fun c => setSetpoint c (r.chill.get c)) u) := fun u =>
    (keepsWatch_setSetpoint _ _ u).trans (keepsWatch_setSetpoint _ _ _)
  exact (flushed.trans ((zones _).trans (circuits _))).trans (keepsWatch_boundCeiling _ _)

theorem keepsWatch_commitRun (s : State) : KeepsWatch s (commitRun s) := by
  have bound : ∀ u, KeepsWatch u (boundByGrantRow u) := fun u => by
    unfold boundByGrantRow
    split
    · exact keepsWatch_boundCeiling _ u
    · exact .refl u
  unfold commitRun
  split
  · exact .refl s
  · rename_i j _
    have lowered : KeepsWatch s (boundByGrantRow (lowerGrantRow j s)) := (keepsWatch_withPlanner s _).trans (bound _)
    dsimp only
    split
    · exact lowered
    · exact lowered.trans (keepsWatch_installPlan _ _)

theorem keepsWatch_settleStore (s : State) : KeepsWatch s (settleStore s) := by
  have stored : KeepsWatch s (s.withStore s.store.committed) := keepsWatch_of_same
  refine KeepsWatch.ite (stored.trans ?_) (.refl s)
  unfold carryOut
  dsimp only
  split
  · split
    · exact keepsWatch_commitReady _ _
    · exact .refl _
  · exact keepsWatch_commitRun _
  all_goals exact .refl _

theorem keepsWatch_finish (s : State) : KeepsWatch s (finish s) := by
  have swept : ∀ u, KeepsWatch u (sweepFaults u) := fun u => KeepsWatch.ite (.refl u) keepsWatch_of_same
  have arbitrated : ∀ u, KeepsWatch u (arbitrate u) := fun u => by
    obtain ⟨_, sat, judged, _, dest, _, _⟩ := outletAlone_arbitrate u
    refine keepsWatch_of_same ?_ (congrArg Line.state judged.line) judged.stack
    unfold State.watch
    rw [judged.supervisor, judged.line, sat, dest]
  exact (((keepsWatch_settleStore s).trans (keepsWatch_driveStage _)).trans
    ((keepsWatch_payGrants _).trans (swept _))).trans (arbitrated _)

end Sys2Proof.Machine

/-!
SUPPORT. A BEAT at the receiver by R179's table and by the press mode it brings, the interval's expiry, and the statement about master
supervision.
-/

namespace Sys2Proof.Machine

-- One proof after the other: side by side with the text above, their threads need more memory than the check allows.
set_option Elab.async false

/-! ### The supervision record after a BEAT (R179) -/

section beat

variable {reload : Nat} {seq q : Byte} {v : Supervisor}

theorem beat_first (last : v.lastSeq = none) :
    v.beat reload seq = ({ v with count := some reload, advanceRun := 0, lastSeq := some seq }, false) := by
  unfold Supervisor.beat
  rw [last]

theorem beat_repeats (last : v.lastSeq = some seq) :
    v.beat reload seq = ({ v with advanceRun := 0, lastSeq := some seq }, false) := by
  unfold Supervisor.beat
  rw [last]
  dsimp only
  rw [if_pos rfl]

theorem beat_advances (last : v.lastSeq = some q) (next : seq = q + 1) :
    v.beat reload seq =
      ({ v with count := some reload, advanceRun := min 3 (v.advanceRun + 1), lastSeq := some seq }, false) := by
  have moved : seq ≠ q := by bv_omega
  unfold Supervisor.beat
  rw [last]
  dsimp only
  rw [if_neg moved, if_pos next]

theorem beat_skips (last : v.lastSeq = some q) (moved : seq ≠ q) (away : seq ≠ q + 1) :
    v.beat reload seq = ({ v with count := some reload, advanceRun := 0, lastSeq := some seq }, true) := by
  unfold Supervisor.beat
  rw [last]
  dsimp only
  rw [if_neg moved, if_neg away]

/-- R179's rows: none other is met. -/
theorem beat_rows (seq : Byte) (v : Supervisor) :
    v.lastSeq = none ∨ v.lastSeq = some seq ∨ (∃ q, v.lastSeq = some q ∧ seq = q + 1) ∨
      ∃ q, v.lastSeq = some q ∧ seq ≠ q ∧ seq ≠ q + 1 := by
  cases v.lastSeq with
  | none => exact .inl rfl
  | some q =>
    by_cases same : seq = q
    · exact .inr (.inl (by rw [same]))
    · by_cases next : seq = q + 1
      · exact .inr (.inr (.inl ⟨q, rfl, next⟩))
      · exact .inr (.inr (.inr ⟨q, rfl, same, next⟩))

/-- Every BEAT leaves its sequence, and the lost flag is not R179's table's. -/
theorem beat_keeps (reload : Nat) (seq : Byte) (v : Supervisor) :
    (v.beat reload seq).1.lastSeq = some seq ∧ (v.beat reload seq).1.lost = v.lost := by
  rcases beat_rows seq v with last | last | ⟨q, last, next⟩ | ⟨q, last, moved, away⟩
  · rw [beat_first last]
    exact ⟨rfl, rfl⟩
  · rw [beat_repeats last]
    exact ⟨rfl, rfl⟩
  · rw [beat_advances last next]
    exact ⟨rfl, rfl⟩
  · rw [beat_skips last moved away]
    exact ⟨rfl, rfl⟩

/-- A BEAT skips where it neither repeats the last sequence nor follows it. -/
theorem beat_skips_iff :
    (v.beat reload seq).2 = true ↔ v.lastSeq ≠ none ∧ v.lastSeq ≠ some seq ∧ v.lastSeq ≠ some (seq - 1) := by
  rcases beat_rows seq v with last | last | ⟨q, last, next⟩ | ⟨q, last, moved, away⟩
  · simp [beat_first last, last]
  · simp [beat_repeats last, last]
  · have before : q = seq - 1 := by bv_omega
    simp [beat_advances last next, last, before]
  · have before : q ≠ seq - 1 := by bv_omega
    rw [beat_skips last moved away, last]
    simp only [ne_eq, Option.some.injEq, true_iff]
    exact ⟨nofun, moved.symm, before⟩

end beat

/-- The supervision record after a BEAT, the loss ended by a third advance in a row. -/
def Supervisor.beaten (reload : Nat) (seq : Byte) (v : Supervisor) : Supervisor :=
  { (v.beat reload seq).1 with lost := v.lost && decide ((v.beat reload seq).1.advanceRun ≠ 3) }

theorem beaten_ends {reload : Nat} {seq : Byte} {v : Supervisor} (third : (v.beat reload seq).1.advanceRun = 3) :
    v.beaten reload seq = { (v.beat reload seq).1 with lost := false } := by
  simp [Supervisor.beaten, third]

theorem beaten_stands {reload : Nat} {seq : Byte} {v : Supervisor}
    (other : ¬ ((v.beat reload seq).1.advanceRun = 3 ∧ v.lost = true)) : v.beaten reload seq = (v.beat reload seq).1 := by
  have stands : (v.lost && decide ((v.beat reload seq).1.advanceRun ≠ 3)) = v.lost := by
    cases held : v.lost
    · rfl
    · simpa [held] using other
  rw [Supervisor.beaten, stands, ← (beat_keeps reload seq v).2]

/-- R179's table, row by row. -/
theorem beaten_table (reload : Nat) (seq : Byte) (v : Supervisor) :
    let w := v.beaten reload seq
    w.lastSeq = some seq ∧
      (v.lastSeq = none → w.count = some reload ∧ w.advanceRun = 0) ∧
      (v.lastSeq = some seq → w.count = v.count ∧ w.advanceRun = 0) ∧
      (∀ q, v.lastSeq = some q → seq = q + 1 → w.count = some reload ∧ w.advanceRun = min 3 (v.advanceRun + 1)) ∧
      ∀ q, v.lastSeq = some q → seq ≠ q → seq ≠ q + 1 → w.count = some reload ∧ w.advanceRun = 0 := by
  refine ⟨(beat_keeps reload seq v).1, fun first => ?_, fun same => ?_, fun q last next => ?_, fun q last moved away => ?_⟩
  · rw [Supervisor.beaten, beat_first first]
    exact ⟨rfl, rfl⟩
  · rw [Supervisor.beaten, beat_repeats same]
    exact ⟨rfl, rfl⟩
  · rw [Supervisor.beaten, beat_advances last next]
    exact ⟨rfl, rfl⟩
  · rw [Supervisor.beaten, beat_skips last moved away]
    exact ⟨rfl, rfl⟩

/-! ### A BEAT taken by the supervisor (R179) -/

/-- The part with R179's table applied to a BEAT, before the clearance that the end of a loss asks for. -/
def beatTaken (seq : Byte) (s : State) : State :=
  let taken := s.withSupervisor (s.supervisor.beaten s.params.supervisionCount seq)
  if (s.supervisor.beat s.params.supervisionCount seq).2 then
    taken.withSat { s.sat with beatSkip := satInc s.sat.beatSkip }
  else taken

/-- The end of a loss clears MASTER_LOST; any other BEAT moves the record and BEAT_SKIP alone. -/
theorem superviseBeat_eq (seq : Byte) (s : State) :
    superviseBeat seq s =
      if (s.supervisor.beat s.params.supervisionCount seq).1.advanceRun = 3 ∧ s.supervisor.lost = true then
        clearCause .masterLost (beatTaken seq s)
      else beatTaken seq s := by
  unfold superviseBeat beatTaken
  dsimp only
  rw [(beat_keeps s.params.supervisionCount seq s.supervisor).2]
  split
  · rename_i ends
    rw [beaten_ends ends.1]
    split <;> rfl
  · rename_i other
    rw [beaten_stands other]
    rfl

theorem keepsWatch_superviseBeat (seq : Byte) (s : State) : KeepsWatch (beatTaken seq s) (superviseBeat seq s) := by
  rw [superviseBeat_eq]
  exact KeepsWatch.ite (keepsWatch_clearCause _ _) (.refl _)

/-- What is watched once a BEAT is taken. -/
theorem watch_beatTaken (seq : Byte) (s : State) :
    (beatTaken seq s).watch =
      { s.watch with
        supervisor := { s.supervisor.beaten s.params.supervisionCount seq with permit := false }
        beatSkip :=
          if (s.supervisor.beat s.params.supervisionCount seq).2 then satInc s.sat.beatSkip else s.sat.beatSkip } := by
  unfold beatTaken
  dsimp only
  split <;> rfl

theorem onlyChanges_beatTaken (seq : Byte) (s : State) : OnlyChanges [.supervisor, .sat] s (beatTaken seq s) := by
  unfold beatTaken
  dsimp only
  split
  · exact (onlyChanges_withSupervisor s _).trans (onlyChanges_withSat _ _)
  · exact (onlyChanges_withSupervisor s _).mono (by simp)

/-- A loss that a third advance ends leaves no MASTER_LOST record ACTIVE. -/
theorem noneActive_superviseBeat {seq : Byte} {s : State} (lost : s.supervisor.lost = true)
    (third : (s.supervisor.beat s.params.supervisionCount seq).1.advanceRun = 3) :
    (superviseBeat seq s).noneActive .masterLost := by
  rw [superviseBeat_eq, if_pos ⟨third, lost⟩]
  refine noneActive_clearCause ?_
  rw [watch_beatTaken, beaten_ends third]
  nofun

/-! ### The press mode of a BEAT (R9, R95) -/

/-- The part with another press mode. -/
abbrev State.withMode (s : State) (m : PressMode) : State := s.withLine { s.line with mode := m }

theorem takeMode_splice {s : State} (other : s.line.mode ≠ .splice) : takeMode .splice s = push .splice (s.withMode .splice) := by
  unfold takeMode
  exact if_neg other.symm

theorem takeMode_unspliced {s : State} {m : PressMode} (splice : s.line.mode = .splice) (other : m ≠ .splice) :
    takeMode m s = clearCause .splice (s.withMode m) := by
  unfold takeMode
  dsimp only
  rw [if_neg (by rwa [splice]), if_neg other, if_pos splice]

theorem keepsWatch_takeMode (m : PressMode) (s : State) : KeepsWatch (s.withMode m) (takeMode m s) := by
  unfold takeMode
  dsimp only
  split
  · rename_i same
    subst same
    exact .refl s
  split
  · rename_i splice
    exact keepsWatch_push splice
  · exact KeepsWatch.ite (keepsWatch_clearCause _ _) (.refl _)

theorem pressModeOf_none {n : Nat} : pressModeOf n = none ↔ 3 < n := by
  constructor
  · intro none
    by_contra low
    have few : n = 0 ∨ n = 1 ∨ n = 2 ∨ n = 3 := by omega
    rcases few with rfl | rfl | rfl | rfl <;> cases none
  · intro high
    obtain ⟨k, rfl⟩ := Nat.exists_eq_add_of_le' high
    rfl

/-! ### A BEAT at the receiver (R6, R9, R13) -/

/-- The GRANT destination after a BEAT (R13). -/
def GrantDest.afterBeat (src : Addr) : GrantDest → GrantDest
  | .ask a => .ask a
  | .none | .beat _ => .beat src

theorem destFromBeat_eq (src : Addr) (s : State) :
    destFromBeat src s = s.withOutlet { s.outlet with dest := s.outlet.dest.afterBeat src } := by
  unfold destFromBeat
  cases dest : s.outlet.dest with
  | ask a =>
    show s = s.withOutlet { s.outlet with dest := .ask a }
    rw [← dest]
    rfl
  | none | beat a => rfl

/-- The part once a BEAT has been taken by the GRANT destination and the supervisor. -/
abbrev superviseFrom (src : Addr) (seq : Byte) (s : State) : State := superviseBeat seq (destFromBeat src s)

theorem watch_superviseFrom (src : Addr) (seq : Byte) (s : State) :
    (superviseFrom src seq s).watch =
      { s.watch with
        supervisor := { s.supervisor.beaten s.params.supervisionCount seq with permit := false }
        beatSkip := if (s.supervisor.beat s.params.supervisionCount seq).2 then satInc s.sat.beatSkip else s.sat.beatSkip
        dest := s.outlet.dest.afterBeat src } := by
  rw [(keepsWatch_superviseBeat seq _).watch, watch_beatTaken, destFromBeat_eq]
  rfl

theorem keepsWatch_superviseFrom (src : Addr) (seq : Byte) (s : State) :
    KeepsWatch (beatTaken seq (destFromBeat src s)) (superviseFrom src seq s) := keepsWatch_superviseBeat seq _

theorem copyBeat_mode {aux : Byte} {m : PressMode} (mode : pressModeOf aux.toNat = some m) (src : Addr) (seq : Byte) (s : State) :
    copyBeat src seq aux s = takeMode m (superviseFrom src seq s) := by
  unfold copyBeat
  dsimp only
  rw [mode]

theorem copyBeat_noMode {aux : Byte} (mode : pressModeOf aux.toNat = none) (src : Addr) (seq : Byte) (s : State) :
    copyBeat src seq aux s = countKindMismatch (superviseFrom src seq s) := by
  unfold copyBeat
  dsimp only
  rw [mode]

/-- What is watched once a BEAT is copied to the blocks that take it (R9). -/
theorem watch_copyBeat (src : Addr) (seq aux : Byte) (s : State) :
    (copyBeat src seq aux s).watch =
      { (superviseFrom src seq s).watch with
        mode := (pressModeOf aux.toNat).getD s.line.mode
        kindMismatch := if aux.toNat ≤ 3 then s.sat.kindMismatch else satInc s.sat.kindMismatch } := by
  have before := watch_superviseFrom src seq s
  have mode : (superviseFrom src seq s).line.mode = s.line.mode := congrArg Watch.mode before
  have count : (superviseFrom src seq s).sat.kindMismatch = s.sat.kindMismatch := congrArg Watch.kindMismatch before
  cases brings : pressModeOf aux.toNat with
  | none =>
    have high := pressModeOf_none.mp brings
    rw [copyBeat_noMode brings, if_neg (by omega), Option.getD_none, ← mode, ← count]
    rfl
  | some m =>
    have low : aux.toNat ≤ 3 := by
      by_contra high
      rw [pressModeOf_none.mpr (by omega)] at brings
      cases brings
    rw [copyBeat_mode brings, (keepsWatch_takeMode m _).watch, if_pos low, Option.getD_some, ← count]
    rfl

/-- No record of a cause but SPLICE, whose mode may come, is made ACTIVE by a BEAT's copies once the supervisor has taken it. -/
theorem noneActive_copyBeat {src : Addr} {seq aux : Byte} {s : State} {c : Cause} (other : c ≠ .splice)
    (quiet : ¬ (superviseFrom src seq s).watch.calls c) (none : (superviseFrom src seq s).noneActive c) :
    (copyBeat src seq aux s).noneActive c := by
  cases brings : pressModeOf aux.toNat with
  | none =>
    rw [copyBeat_noMode brings]
    exact none
  | some m =>
    rw [copyBeat_mode brings]
    refine (keepsWatch_takeMode m _).cleared c ?_ none
    cases c
    case splice => exact absurd rfl other
    all_goals exact quiet

/-- The part once a BEAT of another station has joined the through buffer. -/
def beatJoined (src dst seq : Byte) (value : Half) (aux : Byte) (s : State) : State :=
  joinThrough ⟨fixedFrame kindBeat src dst seq value aux, none⟩ (countGood s)

theorem exec_beat {src : Byte} {s : State} (passes : Passes src s) (dst seq : Byte) (value : Half) (aux : Byte) :
    exec (.beat src dst seq value aux) s =
      .next (finish (copyBeat (addrOf src) seq aux (beatJoined src dst seq value aux s))) := by
  have passed : exec (.beat src dst seq value aux) s = .next (finish (copyFrame _ (forwardFrame _ (countGood s)))) :=
    congrArg Host.Outcome.next (receive_passes passes.1 passes.2 (by simp))
  rw [passed, forwardFrame, if_neg (by simp)]
  simp [copyFrame, beatJoined]

theorem onlyChanges_beatJoined (src dst seq : Byte) (value : Half) (aux : Byte) (s : State) :
    OnlyChanges [.link, .outlet, .agent] s (beatJoined src dst seq value aux s) :=
  ((onlyChanges_withLink s _).trans (onlyChanges_joined _ (countGood s))).mono (by simp)

theorem beatJoined_keeps (src dst seq : Byte) (value : Half) (aux : Byte) (s : State) :
    (beatJoined src dst seq value aux s).params = s.params ∧
      (beatJoined src dst seq value aux s).outlet.dest = s.outlet.dest :=
  ⟨((sameJudged_countGood s).trans (sameJudged_joinThrough _ _)).agent, dest_joinThrough _ _⟩

/-- What is watched at the end of a BEAT's event, from the part as the BEAT found it. -/
theorem watch_beatEvent (src dst seq : Byte) (value : Half) (aux : Byte) (s : State) :
    (finish (copyBeat (addrOf src) seq aux (beatJoined src dst seq value aux s))).watch =
      { supervisor := { s.supervisor.beaten s.params.supervisionCount seq with permit := false }
        mode := (pressModeOf aux.toNat).getD s.line.mode
        beatSkip := if (s.supervisor.beat s.params.supervisionCount seq).2 then satInc s.sat.beatSkip else s.sat.beatSkip
        kindMismatch := if aux.toNat ≤ 3 then s.sat.kindMismatch else satInc s.sat.kindMismatch
        dest := s.outlet.dest.afterBeat (addrOf src) } := by
  have joined := onlyChanges_beatJoined src dst seq value aux s
  obtain ⟨params, dest⟩ := beatJoined_keeps src dst seq value aux s
  have supervisor : (beatJoined src dst seq value aux s).supervisor = s.supervisor := joined .supervisor (by simp)
  have sat : (beatJoined src dst seq value aux s).sat = s.sat := joined .sat (by simp)
  have line : (beatJoined src dst seq value aux s).line = s.line := joined .line (by simp)
  rw [(keepsWatch_finish _).watch, watch_copyBeat, watch_superviseFrom, supervisor, sat, line, params, dest]

/-! ### The records that a BEAT leaves ACTIVE (R95, R179) -/

/-- A push that is taken leaves its cause ACTIVE at the end of its event: with a record in the stack no commit is carried out. -/
theorem finish_push_active {c : Cause} {s : State} (taken : pushRefused c s.line.state = false)
    (unbroken : ∀ r ∈ s.stack, r.cause ≠ .brk) : ∃ r ∈ (finish (push c s)).stack, r.cause = c ∧ r.cleared = false := by
  have stands : (push c s).stack ≠ [] := stack_push_ne_nil taken
  have settled : storeSettled (push c s) = true := by simp [storeSettled, State.safePoint, stands]
  have ended := (onlyChanges_closeEvent_settled settled).trans (outletAlone_arbitrate _).onlyChanges
  have stack : (finish (push c s)).stack = (push c s).stack := ended .stack (by simp)
  rw [stack]
  exact push_active taken unbroken

/-- RUN and READY are the states that a BEAT in RUN can end in, and READY is left by none of what ends its event. -/
theorem run_of_finish {s : State} (granted : s.line.state.granted = true) (run : (finish s).line.state = .run) :
    s.line.state = .run := by
  cases state : s.line.state
  case run => rfl
  case ready =>
    rw [(sameReady_finish state).line, state] at run
    cases run
  all_goals rw [state] at granted; cases granted

section event

variable {src : Addr} {seq aux : Byte} {s : State}

/-- SPLICE's record after a change of mode to SPLICE in a line that ends its event in RUN. -/
theorem spliced_copyBeat (mode : s.line.mode ≠ .splice) (aux3 : aux = 3) (run : s.line.state = .run)
    (ends : (finish (copyBeat src seq aux s)).line.state = .run) (unbroken : ∀ r ∈ s.stack, r.cause ≠ .brk) :
    ∃ r ∈ (finish (copyBeat src seq aux s)).stack, r.cause = .splice ∧ r.cleared = false := by
  let u := superviseFrom src seq s
  have taken := onlyChanges_beatTaken seq (s.withOutlet { s.outlet with dest := s.outlet.dest.afterBeat src })
  have line : (beatTaken seq (destFromBeat src s)).line = s.line := by
    rw [destFromBeat_eq]
    exact taken .line (by simp)
  have stack : (beatTaken seq (destFromBeat src s)).stack = s.stack := by
    rw [destFromBeat_eq]
    exact taken .stack (by simp)
  have kept := keepsWatch_superviseFrom src seq s
  have granted : u.line.state.granted = true := kept.granted (by rw [line, run]; rfl)
  have clear : ∀ r ∈ u.stack, r.cause ≠ .brk := kept.unbroken (by rwa [stack])
  have before : u.line.mode ≠ .splice := by
    rw [show u.line.mode = s.line.mode from congrArg Watch.mode (watch_superviseFrom src seq s)]
    exact mode
  have pushes : copyBeat src seq aux s = push .splice (u.withMode .splice) := by
    rw [copyBeat_mode (m := .splice) (by rw [aux3]; rfl), takeMode_splice before]
  rw [pushes] at ends ⊢
  have pushed : (push .splice (u.withMode .splice)).line = (u.withMode .splice).line := (push_rest _ _).1
  have stays : u.line.state = .run := by
    have := run_of_finish (by rw [pushed]; exact granted) ends
    rwa [pushed] at this
  exact finish_push_active (s := u.withMode .splice) (by show pushRefused .splice u.line.state = false; rw [stays]; rfl) clear

/-- SPLICE's record after a change of mode away from SPLICE. -/
theorem unspliced_copyBeat (mode : s.line.mode = .splice) (low : aux.toNat < 3) :
    (finish (copyBeat src seq aux s)).noneActive .splice := by
  let u := superviseFrom src seq s
  have before : u.line.mode = .splice := (congrArg Watch.mode (watch_superviseFrom src seq s)).trans mode
  obtain ⟨m, brings, other⟩ : ∃ m, pressModeOf aux.toNat = some m ∧ m ≠ .splice := by
    have : aux.toNat = 0 ∨ aux.toNat = 1 ∨ aux.toNat = 2 := by omega
    rcases this with h | h | h <;> rw [h] <;> exact ⟨_, rfl, nofun⟩
  have quiet : ¬ (u.withMode m).watch.calls .splice := other
  have cleared : (clearCause .splice (u.withMode m)).noneActive .splice := noneActive_clearCause quiet
  rw [copyBeat_mode brings, takeMode_unspliced before other]
  refine (keepsWatch_finish _).cleared _ ?_ cleared
  rw [(keepsWatch_clearCause _ _).watch]
  exact quiet

/-- MASTER_LOST's record after the third advance in a row. -/
theorem found_copyBeat (lost : s.supervisor.lost = true)
    (third : (s.supervisor.beat s.params.supervisionCount seq).1.advanceRun = 3) :
    (finish (copyBeat src seq aux s)).noneActive .masterLost := by
  have found : ∀ w : Watch, w.supervisor.lost = false → ¬ w.calls .masterLost := fun w found => by simp [Watch.calls, found]
  have quiet : (superviseFrom src seq s).watch.supervisor.lost = false := by
    rw [watch_superviseFrom, beaten_ends third]
  have cleared : (superviseFrom src seq s).noneActive .masterLost := by
    have same : destFromBeat src s = s.withOutlet _ := destFromBeat_eq src s
    refine noneActive_superviseBeat ?_ ?_
    · rw [same]
      exact lost
    · rw [same]
      exact third
  refine (keepsWatch_finish _).cleared _ ?_ (noneActive_copyBeat nofun (found _ quiet) cleared)
  rw [watch_copyBeat]
  exact found _ quiet

end event

/-! ### The supervision interval (R180) -/

/-- Where neither the flags, the lost flag nor the presence of a context record changes, a supervision record and a stack that change
alone leave a part at rest with nothing to do. -/
theorem finish_watched {s : State} {v : Supervisor} {l : List Context} (rest : s.atRest = true)
    (flags : v.flags = s.supervisor.flags) (lost : v.lost = s.supervisor.lost) (stack : l.isEmpty = s.stack.isEmpty) :
    finish ((s.withSupervisor v).withStack l) = (s.withSupervisor v).withStack l := by
  obtain ⟨drives, store, faults, port, grants⟩ := atRest_iff.mp rest
  let t := (s.withSupervisor v).withStack l
  have condition : ∀ e, faultCondition t e = faultCondition s e := fun e => by
    cases e
    case lelTrip | overTemp | lelWarn => simp only [faultCondition, show t.supervisor.flags = s.supervisor.flags from flags]
    case masterLost => exact lost
    all_goals rfl
  have mask : t.conditionMask = s.conditionMask := faultMask_congr condition
  have safe : t.safePoint = s.safePoint := by
    show (_ && l.isEmpty) = (_ && s.stack.isEmpty)
    rw [stack]
    rfl
  have source : ∀ r, demandSource t r = demandSource s r := fun r => by cases r <;> rfl
  refine finish_atRest (atRest_iff.mpr ⟨?_, ?_, ?_, port, grants⟩)
  · refine Eq.trans ?_ drives
    unfold drivesFollow
    simp only [show ∀ r, demandSource ((s.withSupervisor v).withStack l) r = demandSource s r from source]
    rfl
  · unfold storeSettled at store ⊢
    rw [show ((s.withSupervisor v).withStack l).safePoint = s.safePoint from safe]
    exact store
  · unfold faultsSettled at faults ⊢
    rw [show ((s.withSupervisor v).withStack l).conditionMask = s.conditionMask from mask]
    exact faults

theorem finish_withSupervisor {s : State} {v : Supervisor} (rest : s.atRest = true) (flags : v.flags = s.supervisor.flags)
    (lost : v.lost = s.supervisor.lost) : finish (s.withSupervisor v) = s.withSupervisor v := by
  have same : (s.withSupervisor v).withStack s.stack = s.withSupervisor v := rfl
  rw [← same]
  exact finish_watched rest flags lost rfl

/-- The interval repeats (R180). -/
abbrev intervalStarted (s : State) : State := s.withSupervisor { s.supervisor with interval := some 10 }

theorem exec_interval {s : State} (due : s.supervisor.interval = some 0) :
    exec .supervisionInterval s = .next (finish (superviseInterval (intervalStarted s))) :=
  congrArg Host.Outcome.next (whenDue_due (work := intervalWork) (by rw [due]; rfl))

/-- An unarmed count, and one that has run out, stand. -/
theorem superviseInterval_idle {s : State} (idle : s.supervisor.count = none ∨ s.supervisor.count = some 0) :
    superviseInterval (intervalStarted s) = intervalStarted s := by
  unfold superviseInterval
  rw [State.withSupervisor_supervisor]
  rcases idle with unarmed | zero
  · rw [unarmed]
  · rw [zero]

theorem superviseInterval_counts {s : State} {n : Nat} (count : s.supervisor.count = some (n + 2)) :
    superviseInterval (intervalStarted s) =
      s.withSupervisor { s.supervisor with interval := some 10, count := some (n + 1) } := by
  unfold superviseInterval
  rw [State.withSupervisor_supervisor, count]
  rfl

/-- The count run out: the loss is set, raised and pushed where it was not set before. -/
def masterRanOut (s : State) : State :=
  let t := s.withSupervisor { s.supervisor with interval := some 10, count := some 0, advanceRun := 0, lost := true }
  if s.supervisor.lost then t else push .masterLost (raiseFault .masterLost t)

theorem superviseInterval_out {s : State} (count : s.supervisor.count = some 1) :
    superviseInterval (intervalStarted s) = masterRanOut s := by
  unfold superviseInterval
  rw [show (intervalStarted s).supervisor.count = some (0 + 1) from count]
  rfl

/-- What the loss leaves at the end of its event: the record as set, MASTER_LOST pending, and its context where pushes are taken. -/
theorem masterRanOut_leaves (s : State) :
    let t := finish (masterRanOut s)
    t.supervisor.interval = some 10 ∧ t.supervisor.count = some 0 ∧ t.supervisor.advanceRun = 0 ∧ t.supervisor.lost = true ∧
      (s.supervisor.lost = false → t.faults.pending &&& FaultCode.masterLost.bit ≠ 0) ∧
      (s.supervisor.lost = false → s.line.state.granted = true → (∀ r ∈ s.stack, r.cause ≠ .brk) →
        ∃ r ∈ t.stack, r.cause = .masterLost ∧ r.cleared = false) := by
  intro t
  let u := s.withSupervisor { s.supervisor with interval := some 10, count := some 0, advanceRun := 0, lost := true }
  let raised := raiseFault .masterLost u
  have pushes : KeepsWatch u (push .masterLost raised) := (keepsWatch_raiseFault _ u).trans (keepsWatch_push (by exact rfl))
  have kept : KeepsWatch u t := (KeepsWatch.ite (.refl u) pushes).trans (keepsWatch_finish _)
  have new (found : s.supervisor.lost = false) : masterRanOut s = push .masterLost raised := if_neg (by rw [found]; nofun)
  refine ⟨congrArg (·.supervisor.interval) kept.watch, congrArg (·.supervisor.count) kept.watch,
    congrArg (·.supervisor.advanceRun) kept.watch, congrArg (·.supervisor.lost) kept.watch, fun found => ?_,
    fun found granted unbroken => ?_⟩
  · have stays := (keepsFlags_push .masterLost raised).trans (keepsFlags_finish _)
    rw [show t = finish (push .masterLost raised) from congrArg finish (new found)]
    exact (stays.raised _ (raised_raiseFault _ u)).pending
  · rw [show t = finish (push .masterLost raised) from congrArg finish (new found)]
    refine finish_push_active ?_ unbroken
    show pushRefused .masterLost s.line.state = false
    rw [pushRefused, granted]
    rfl

/-! ### The statement -/

/-- Settles O52: a BEAT by R179's table, the mode it brings and what the rest of its event keeps; an interval by the count it finds. -/
theorem masterIsSupervised : Obligations.MasterIsSupervised := by
  constructor
  · intro src dst seq value aux s passes v reload
    let x := beatJoined src dst seq value aux s
    let w := v.beaten s.params.supervisionCount seq
    have joined : OnlyChanges _ s x := onlyChanges_beatJoined src dst seq value aux s
    have line : x.line = s.line := joined .line (by simp)
    have stack : x.stack = s.stack := joined .stack (by simp)
    have supervisor : x.supervisor = s.supervisor := joined .supervisor (by simp)
    have params : x.params = s.params := (beatJoined_keeps src dst seq value aux s).1
    have found (held : v.lost = true) (third : w.advanceRun = 3) :=
      found_copyBeat (src := addrOf src) (seq := seq) (aux := aux) (s := x) (supervisor ▸ held) (by rw [supervisor, params]; exact third)
    have spliced := spliced_copyBeat (src := addrOf src) (seq := seq) (aux := aux) (s := x)
    have unspliced := unspliced_copyBeat (src := addrOf src) (seq := seq) (aux := aux) (s := x)
    rw [line, stack] at spliced
    rw [line] at unspliced
    have watch := watch_beatEvent src dst seq value aux s
    rw [exec_beat passes dst seq value aux]
    refine ⟨_, rfl, ?_⟩
    generalize finish (copyBeat (addrOf src) seq aux x) = t at found spliced unspliced watch ⊢
    have count : t.supervisor.count = w.count := congrArg (·.supervisor.count) watch
    have advances : t.supervisor.advanceRun = w.advanceRun := congrArg (·.supervisor.advanceRun) watch
    obtain ⟨lastSeq, first, same, next, skips⟩ := beaten_table s.params.supervisionCount seq v
    rw [count, advances]
    refine ⟨(congrArg (·.supervisor.lastSeq) watch).trans lastSeq, first, same, next, skips, ?_,
      congrArg (·.supervisor.lost) watch, found, ?_, spliced, unspliced, ?_, fun a ask => ?_, fun unasked => ?_⟩
    · refine (congrArg (·.beatSkip) watch).trans ?_
      simp only [beat_skips_iff, satInc_eq]
      rfl
    · refine (congrArg (·.mode) watch).trans ?_
      unfold pressModeOf
      split <;> rfl
    · refine (congrArg (·.kindMismatch) watch).trans ?_
      rw [← satInc_eq]
    · refine (congrArg (·.dest) watch).trans ?_
      rw [ask]
      rfl
    · refine (congrArg (·.dest) watch).trans ?_
      cases asks : s.outlet.dest with
      | ask a => exact absurd asks (unasked a)
      | none | beat a => rfl
  · intro s due rest v
    rw [exec_interval due]
    refine ⟨_, rfl, fun idle => ?_, fun n count => ?_, fun count => ?_⟩
    · rw [superviseInterval_idle idle]
      exact finish_withSupervisor rest rfl rfl
    · rw [superviseInterval_counts count]
      exact finish_withSupervisor rest rfl rfl
    · rw [superviseInterval_out count]
      exact masterRanOut_leaves s

end Sys2Proof.Machine

/-!
SUPPORT. The clear timer's expiry: the relief's record marked beneath another, or popped as the only one, with what the restore leaves
in RUN; and the statement about the end of a relief.
-/

namespace Sys2Proof.Machine

-- One proof after the other: side by side with the text above, their threads need more memory than the check allows.
set_option Elab.async false

/-! ### The clearance (R159, R160, R171) -/

/-- The relief watch IDLE (R171). -/
abbrev unwatched (s : State) : State := s.withSupervisor { s.supervisor with reliefHeld := false, clearTimer := none }

theorem exec_clearTimer {s : State} (due : s.supervisor.clearTimer = some 0) :
    exec .clearTimerExpiry s = .next (finish (clearCause .lelRelief (unwatched s))) :=
  congrArg Host.Outcome.next (whenDue_due (work := clearRelief) (by rw [due]; rfl))

/-- Beneath an ACTIVE record of another cause a clearance marks its records and pops none. -/
theorem clearCause_under {c : Cause} {s : State} {r : Context} {rest : List Context} (stack : s.stack = r :: rest)
    (active : r.cleared = false) (other : r.cause ≠ c) : clearCause c s = s.withStack (marked c s.stack) := by
  unfold clearCause
  split
  · have top : marked c s.stack = r :: marked c rest := by rw [stack, marked, List.map_cons, if_neg other]
    exact (popStack_active (s := s.withStack (marked c s.stack)) top active).trans (by rw [top]; rfl)
  · rename_i inactive
    have quiet : s.noneActive c := noneActive_of_inactive (Bool.eq_false_iff.mpr inactive)
    have same : marked c s.stack = s.stack := by
      refine (List.map_congr_left (g := id) fun x mem => ?_).trans (List.map_id _)
      split
      · rename_i cause
        rw [← quiet x mem cause]
        rfl
      · rfl
    rw [same]
    rfl

/-- A record that stands alone is popped, and restored from. -/
theorem clearCause_alone {s : State} {b : Context} (stack : s.stack = [b]) (active : b.cleared = false) :
    clearCause b.cause s = restore { b with cleared := true } (s.withStack []) := by
  have stands : s.activeContext b.cause = true := by simp [State.activeContext, stack, active]
  unfold clearCause
  rw [if_pos stands, stack, List.map_cons, List.map_nil, if_pos rfl]
  rfl

/-! ### The grant restored (R162) -/

/-- The part with its stack empty and the grant restored to a row and a ceiling. -/
structure Regranted (s : State) (g : Nat) (c : Int) (e : State) : Prop where
  line : e.line = s.line
  stack : e.stack = []
  store : e.store = s.store
  params : e.params = s.params
  planner : e.planner = { s.planner with ceiling := c, grantRow := some g }

theorem onlyChanges_setGrant (g : Nat) (c : Int) (s : State) : OnlyChanges [.planner, .outlet, .sat] s (setGrant g c s) := by
  have granted := onlyChanges_withPlanner s { s.planner with ceiling := c, grantRow := some g }
  unfold setGrant
  dsimp only
  split
  · exact granted.mono (by simp)
  · exact granted.trans (onlyChanges_sendUnasked _ _)

/-- The end of a relief whose record stands alone is the restore's plan or dryer, from the grant restored. -/
theorem clearRelief_restores {s : State} {b : Context} {g : Nat} {r : Row} (stack : s.stack = [b]) (relief : b.cause = .lelRelief)
    (active : b.cleared = false) (grant : s.planner.grantRow = some g) (row : s.store.active[min b.grantRow g]? = some r) :
    ∃ e, Regranted s (min b.grantRow g) (min b.ceiling r.high) e ∧
      clearCause .lelRelief (unwatched s) = restoreRest { b with cleared := true } (min b.grantRow g) e := by
  let u := (unwatched s).withStack []
  let e := setGrant (min b.grantRow g) (min b.ceiling r.high) u
  have kept : OnlyChanges _ u e := onlyChanges_setGrant (min b.grantRow g) (min b.ceiling r.high) u
  have alone := clearCause_alone (s := unwatched s) stack active
  rw [relief] at alone
  have restored : restore { b with cleared := true } u = restoreRest { b with cleared := true } (min b.grantRow g) e := by
    unfold restore restoreGrant
    rw [show u.planner.grantRow = some g from grant]
    dsimp only
    rw [show u.store.active[min b.grantRow g]? = some r from row]
  exact ⟨e,
    { line := kept .line (by simp)
      stack := kept .stack (by simp)
      store := kept .store (by simp)
      params := congrArg Agent.params (kept .agent (by simp))
      planner := setGrant_planner _ _ u }, alone.trans restored⟩

/-! ### The plan kept (R163) -/

/-- The step that the restore puts at a plan's end. -/
def Plan.ending (s : State) (p : Plan) : List PlanStep :=
  match s.store.active[p.target]? with
  | some x =>
    if s.planner.inForce.exhaust ≠ x.exhaust ∧ p.exhaustWaits = false then [.waiting (.setExhaust x.exhaust) (.after 0)] else []
  | none => []

theorem kept_eq (s : State) (p : Plan) : p.kept s = { p with frozen := false, steps := p.steps ++ p.ending s } := by
  unfold Plan.kept Plan.ending
  cases s.store.active[p.target]? with
  | none => simp only [List.append_nil]
  | some x =>
    dsimp only
    split
    · rfl
    · rw [List.append_nil]

theorem ending_congr {s t : State} (store : t.store = s.store) (inForce : t.planner.inForce = s.planner.inForce) (p : Plan) :
    p.ending t = p.ending s := by
  unfold Plan.ending
  rw [store, inForce]

/-- A plan's head that is AFTER a delay not yet run waits on, with its timer and clock as they stood (R103). -/
theorem runPlan_waits {s : State} {q : Plan} {x : PlanStep} {d : Nat} (plan : s.planner.plan = some q)
    (head : q.steps[q.head]? = some x) (trigger : x.trigger = .after d) (early : q.headTimer < 100 * d) :
    runPlan s = s := by
  have tests : runPlan s = testHead (q.steps.length + 1) s := by
    unfold runPlan
    rw [plan]
  have test := headTest (n := q.steps.length) plan
  rw [tests]
  generalize testHead (q.steps.length + 1) s = t at test ⊢
  cases test with
  | completes left => cases left.symm.trans head
  | stands => rfl
  | fires y found _ holds =>
    cases found.symm.trans head
    rw [trigger] at holds
    have late : 100 * d ≤ q.headTimer := of_decide_eq_true holds
    omega
  | waits y found =>
    cases found.symm.trans head
    rw [trigger]
    show s.withPlan (some q) = s
    rw [← plan]
    rfl

/-- What the tests of a head leave of a plan toward a row above row 0: the line, the stack and the target row, and of the plan itself
nothing, or the plan with its head moved on. -/
structure MovedOn (p : Plan) (s t : State) : Prop where
  line : t.line = s.line
  stack : t.stack = s.stack
  target : t.planner.target = s.planner.target
  plan : t.planner.plan = none ∨
    ∃ q, t.planner.plan = some q ∧ q.frozen = p.frozen ∧ p.Alike q ∧ p.head ≤ q.head

theorem movedOn_self {p : Plan} {s : State} (plan : s.planner.plan = some p) : MovedOn p s s :=
  ⟨rfl, rfl, rfl, .inr ⟨p, plan, rfl, .refl p, le_rfl⟩⟩

theorem movedOn_testHead (n : Nat) {p : Plan} {s : State} (plan : s.planner.plan = some p) (away : p.target ≠ 0) :
    MovedOn p s (testHead n s) := by
  induction n generalizing p s with
  | zero => exact movedOn_self plan
  | succ n ih =>
    have test := headTest (n := n) plan
    generalize testHead (n + 1) s = t at test ⊢
    cases test with
    | completes =>
      rw [completePlan_away away]
      exact ⟨rfl, rfl, rfl, .inl rfl⟩
    | stands => exact movedOn_self plan
    | waits => exact ⟨rfl, rfl, rfl, .inr ⟨_, rfl, rfl, ⟨rfl, rfl, rfl, rfl, rfl⟩, le_rfl⟩⟩
    | fires x =>
      have fired := onlyChanges_fireHead p x.kind s
      obtain ⟨line, stack, target, left⟩ := ih (fireHead_plan p x.kind s) away
      refine ⟨line.trans (fired .line (by simp)), stack.trans (fired .stack (by simp)), target.trans ?_, left.imp_right ?_⟩
      · rw [fireHead_planner]
        exact (fired_keeps _ _ _ _).2.1
      · rintro ⟨q, stands, frozen, alike, behind⟩
        exact ⟨q, stands, frozen, (alike_advanced _ p).trans alike, (Nat.le_succ _).trans behind⟩

theorem movedOn_restorePlan {p : Plan} {s : State} (away : p.target ≠ 0) :
    MovedOn (p.kept s) (s.withPlan (some (p.kept s))) (restorePlan p s) := by
  have toward : (p.kept s).target ≠ 0 := by rwa [kept_eq]
  unfold restorePlan
  dsimp only
  split
  · exact movedOn_testHead _ rfl toward
  · exact movedOn_self rfl

/-- A plan that ran, and a frozen one whose head is not due, are kept as they stood. -/
theorem restorePlan_stands {p : Plan} {s : State}
    (h : p.frozen = false ∨ ∃ x d, p.steps[p.head]? = some x ∧ x.trigger = .after d ∧ p.headTimer < 100 * d) :
    restorePlan p s = s.withPlan (some (p.kept s)) := by
  unfold restorePlan
  dsimp only
  rcases h with running | ⟨x, d, head, trigger, early⟩
  · rw [if_neg (by simp [running])]
  · have same : runPlan (s.withPlan (some (p.kept s))) = s.withPlan (some (p.kept s)) := by
      refine runPlan_waits (q := p.kept s) (x := x) (d := d) rfl ?_ trigger ?_
      · rw [kept_eq]
        exact (List.getElem?_append_left (List.getElem?_eq_some_iff.mp head).1).trans head
      · rw [kept_eq]
        exact early
    rw [same, ite_self]

/-! ### The plan built (R164) -/

/-- A barred plan put in existence in RUN has its head tested (R84, R108). -/
theorem tested_installPlan {p : Plan} {s : State} (run : s.line.state = .run) (barred : p.Barred) :
    Tested p (s.withPlanner { s.planner with plan := some p, target := p.target }) (installPlan p s) := by
  rw [installPlan_run run]
  exact tested_testHead _ rfl barred

/-- An ADJUST plan toward a row above row 0 grants nothing, and its completion enters no READY. -/
theorem barred_adjust {s u : State} {o : Origin} {ord : Ordering3} {q : Option Request} {j : Nat} {r : Row} (away : j ≠ 0) :
    (Plan.built u o ord q j (adjustSteps s j r)).Barred where
  clock := rfl
  barred _ _ _ found := fun ⟨v, k, kind⟩ =>
    absurd kind (grantless_adjust s u o ord q j r _ (List.mem_map_of_mem (List.mem_of_getElem? found)) v k)
  stays := .inl away

/-- The dryer reconciled without a plan: RUN, an empty stack, the grant restored and the target row set (R162, R164). -/
structure Reconciled (s : State) (g : Nat) (c : Int) (j : Nat) (w : State) : Prop where
  stack : w.stack = []
  grantRow : w.planner.grantRow = some g
  ceiling : w.planner.ceiling = c
  target : w.planner.target = j
  line : w.line = s.line

section reconciles

variable {s e : State} {g : Nat} {c : Int} {j : Nat}

theorem Regranted.reconciled (h : Regranted s g c e) (j : Nat) : Reconciled s g c j (setTarget j e) where
  stack := h.stack
  grantRow := congrArg Planner.grantRow h.planner
  ceiling := congrArg Planner.ceiling h.planner
  target := rfl
  line := h.line

/-- The tests of a barred plan's head leave what the restore has set. -/
theorem Regranted.tested {p : Plan} {w : State} (h : Regranted s g c e) (toward : p.target = j)
    (tested : Tested p
      ((setTarget j e).withPlanner { (setTarget j e).planner with plan := some p, target := p.target }) w) :
    Reconciled s g c j w where
  stack := tested.stack.trans h.stack
  grantRow := tested.grantRow.trans (congrArg Planner.grantRow h.planner)
  ceiling := tested.ceiling.trans (congrArg Planner.ceiling h.planner)
  target := tested.target.trans toward
  line := tested.line.trans h.line

/-- What the steps of a plan are read from is as it was, but for the stack. -/
theorem Regranted.reads (h : Regranted s g c e) (j : Nat) :
    (setTarget j e).stack = (s.withStack []).stack ∧
      (setTarget j e).planner.inForce = (s.withStack []).planner.inForce ∧
      (setTarget j e).line = (s.withStack []).line ∧ (setTarget j e).params = (s.withStack []).params :=
  ⟨h.stack, (congrArg Planner.inForce h.planner).trans rfl, h.line, h.params⟩

/-- Case 2 of R164: an ADJUST of what differs, or no plan where nothing does. -/
theorem resumeAdjust_leaves (h : Regranted s g c e) (run : s.line.state = .run) (noPlan : s.planner.plan = none) (away : j ≠ 0)
    (x : Row) :
    let w := resumeAdjust j x (setTarget j e)
    let steps := adjustSteps (s.withStack []) j x
    Reconciled s g c j w ∧ (steps = [] → w.planner.plan = none) ∧
      ∀ n, w.planner.plan = some n → n.origin = .resume ∧ n.ordering = .adjust ∧ n.request = none ∧ n.target = j ∧
        n.steps.map PlanStep.shape = steps.map PlanStep.shape := by
  intro w steps
  let u := setTarget j e
  let p := Plan.built u .resume .adjust none j (adjustSteps u j x)
  obtain ⟨stack, inForce, line, params⟩ := h.reads j
  have read : adjustSteps u j x = steps := adjustSteps_congr stack inForce line params j x
  have none : u.planner.plan = none := (congrArg Planner.plan h.planner).trans noPlan
  by_cases empty : adjustSteps u j x = []
  · have nothing : w = u := if_pos empty
    rw [nothing]
    exact ⟨h.reconciled j, fun _ => none, fun n plan => by rw [none] at plan; cases plan⟩
  · have built : w = installPlan p u := if_neg empty
    have tested := tested_installPlan (p := p) (s := u) (by rw [line]; exact run) (barred_adjust away)
    rw [← built] at tested
    refine ⟨h.tested rfl tested, fun nothing => absurd (read.trans nothing) empty, fun n plan => ?_⟩
    obtain ⟨alike, _⟩ := tested.plan n plan
    exact ⟨alike.origin, alike.ordering, alike.request, alike.target, alike.shapes.trans (congrArg (List.map PlanStep.shape) read)⟩

/-- Case 1 of R164: a RAISE that takes up the saved request, and waits with its GRANT step for the soak time. -/
theorem resumeRaise_leaves (h : Regranted s g c e) (run : s.line.state = .run) {x : Row} (soak : 1 ≤ x.soak) (q : Request) :
    let w := resumeRaise j x q (setTarget j e)
    Reconciled s g c j w ∧
      ∃ n, w.planner.plan = some n ∧ n.origin = .resume ∧ n.ordering = .raise ∧ n.request = some q ∧ n.target = j ∧
        n.frozen = false ∧ GrantWaits n ∧
        n.steps.map PlanStep.shape = (raiseSteps (s.withStack []) j x q.speed).map PlanStep.shape := by
  intro w
  let u := setTarget j e
  let p := Plan.built u .resume .raise (some q) j (raiseSteps u j x q.speed)
  obtain ⟨stack, inForce, line, params⟩ := h.reads j
  have read : raiseSteps u j x q.speed = raiseSteps (s.withStack []) j x q.speed :=
    raiseSteps_congr stack inForce line params j x q.speed
  have tested : Tested p _ w := tested_installPlan (p := p) (s := u) (by rw [line]; exact run) (barred_raise soak)
  let grant : PlanStep := .waiting (.grant q.speed j) (.whenReady (tenSeconds x.soak))
  have holds : grant ∈ p.steps := by
    show grant ∈ raiseSteps u j x q.speed
    simp [raiseSteps, grant]
  obtain ⟨i, found⟩ := List.mem_iff_getElem?.mp holds
  obtain ⟨n, plan, waits⟩ := tested.waiting i grant i.zero_le found ⟨q.speed, j, rfl⟩
  obtain ⟨alike, frozen⟩ := tested.plan n plan
  exact ⟨h.tested rfl tested, n, plan, alike.origin, alike.ordering, alike.request, alike.target, frozen,
    ⟨grant, List.mem_of_getElem? waits, rfl, q.speed, j, rfl⟩, alike.shapes.trans (congrArg (List.map PlanStep.shape) read)⟩

end reconciles

/-- The restore aims at the saved row, or at the grant row where that is the lower. -/
theorem restoreTarget_min (b : Context) (current : Nat) :
    restoreTarget b (min b.grantRow current) = if b.grantRow ≤ current then b.target else current := by
  unfold restoreTarget
  by_cases stands : b.grantRow ≤ current
  · rw [min_eq_left stands, if_pos rfl, if_pos stands]
  · have fell : current < b.grantRow := not_le.mp stands
    rw [min_eq_right fell.le, if_neg fell.ne, if_neg stands]

theorem restoreRest_plan {b : Context} {g : Nat} {e : State} {p : Plan} (plan : e.planner.plan = some p) :
    restoreRest b g e = restorePlan p e := by
  unfold restoreRest
  rw [plan]

theorem restoreRest_resumes {b : Context} {g j : Nat} {e : State} {x : Row} (noPlan : e.planner.plan = none)
    (aims : restoreTarget b g = j) (row : e.store.active[j]? = some x) :
    restoreRest b g e = resumePlan b.request j x (setTarget j e) := by
  unfold restoreRest restoreDryer
  rw [noPlan]
  dsimp only
  rw [aims, row]

theorem restoreRest_rowless {b : Context} {g j : Nat} {e : State} (noPlan : e.planner.plan = none)
    (aims : restoreTarget b g = j) (row : e.store.active[j]? = none) : restoreRest b g e = setTarget j e := by
  unfold restoreRest restoreDryer
  rw [noPlan]
  dsimp only
  rw [aims, row]

/-- A RESUME plan takes up a saved request between the ceiling and the row's high bound (R164, case 1). -/
theorem resumePlan_takenUp {q : Request} {j : Nat} {x : Row} {s : State} (above : s.planner.ceiling < q.speed)
    (within : q.speed ≤ x.high) : resumePlan (some q) j x s = resumeRaise j x q s :=
  if_pos ⟨above, within⟩

/-- With no saved request that it can take up, a RESUME plan is an ADJUST (R164, case 2). -/
theorem resumePlan_adjusts {request : Option Request} {j : Nat} {x : Row} {s : State}
    (left : ∀ q, request = some q → ¬ (s.planner.ceiling < q.speed ∧ q.speed ≤ x.high)) :
    resumePlan request j x s = resumeAdjust j x s := by
  cases request with
  | none => rfl
  | some q => exact if_neg (left q rfl)

/-! ### The statement -/

/-- A plan whose head is not due is kept with the restored grant. -/
theorem Regranted.keeps {s e : State} {g : Nat} {c : Int} {p : Plan} (h : Regranted s g c e)
    (stands : p.frozen = false ∨ ∃ x d, p.steps[p.head]? = some x ∧ x.trigger = .after d ∧ p.headTimer < 100 * d) :
    let w := restorePlan p e
    w.stack = [] ∧ w.line = s.line ∧
      w.planner = { s.planner with
        grantRow := some g, ceiling := c, plan := some { p with frozen := false, steps := p.steps ++ p.ending s } } := by
  intro w
  have kept : w = e.withPlan (some (p.kept e)) := restorePlan_stands stands
  have ending : p.ending e = p.ending s := ending_congr h.store ((congrArg Planner.inForce h.planner).trans rfl) p
  rw [kept, kept_eq, ending]
  refine ⟨h.stack, h.line, ?_⟩
  show ({ e.planner with plan := _ } : Planner) = _
  rw [h.planner]

/-- A plan toward a row above row 0 is kept with its head where it stood or moved on, or has completed. -/
theorem Regranted.movesOn {s e : State} {g : Nat} {c : Int} {p : Plan} (h : Regranted s g c e) (away : p.target ≠ 0) :
    let w := restorePlan p e
    w.stack = [] ∧ w.line = s.line ∧ w.planner.target = s.planner.target ∧
      (w.planner.plan = none ∨
        ∃ n, w.planner.plan = some n ∧ n.frozen = false ∧ n.request = p.request ∧ n.target = p.target ∧ p.head ≤ n.head ∧
          n.steps.map PlanStep.shape = (p.steps ++ p.ending s).map PlanStep.shape) := by
  intro w
  have ending : p.ending e = p.ending s := ending_congr h.store ((congrArg Planner.inForce h.planner).trans rfl) p
  obtain ⟨line, stack, target, plan⟩ : MovedOn (p.kept e) _ w := movedOn_restorePlan away
  rw [kept_eq, ending] at plan
  refine ⟨stack.trans h.stack, line.trans h.line, target.trans ((congrArg Planner.target h.planner).trans rfl),
    plan.imp_right ?_⟩
  rintro ⟨n, stands, frozen, alike, behind⟩
  exact ⟨n, stands, frozen, alike.request, alike.target, behind, alike.shapes⟩

/-- Without a plan, and with no saved request to take up, the dryer is reconciled by an ADJUST. -/
theorem Regranted.adjusts {s e : State} {g j : Nat} {c : Int} {b : Context} (h : Regranted s g c e) (run : s.line.state = .run)
    (noPlan : s.planner.plan = none) (aims : restoreTarget b g = j) (away : j ≠ 0)
    (left : ∀ q x, b.request = some q → ¬ (s.store.active[j]? = some x ∧ c < q.speed ∧ q.speed ≤ x.high)) :
    let w := restoreRest b g e
    Reconciled s g c j w ∧ ∀ x, s.store.active[j]? = some x →
      (adjustSteps (s.withStack []) j x = [] → w.planner.plan = none) ∧
        ∀ n, w.planner.plan = some n → n.origin = .resume ∧ n.ordering = .adjust ∧ n.request = none ∧ n.target = j ∧
          n.steps.map PlanStep.shape = (adjustSteps (s.withStack []) j x).map PlanStep.shape := by
  intro w
  have none : e.planner.plan = none := (congrArg Planner.plan h.planner).trans noPlan
  cases row : s.store.active[j]? with
  | none =>
    have only : w = setTarget j e := restoreRest_rowless none aims (by rw [h.store, row])
    rw [only]
    exact ⟨h.reconciled j, fun _ found => nomatch found⟩
  | some x =>
    have ceiling : (setTarget j e).planner.ceiling = c := (congrArg Planner.ceiling h.planner).trans rfl
    have resumed : w = resumeAdjust j x (setTarget j e) :=
      (restoreRest_resumes none aims (by rw [h.store, row])).trans
        (resumePlan_adjusts fun q saved between => left q x saved ⟨row, ceiling ▸ between⟩)
    obtain ⟨reconciled, nothing, built⟩ := resumeAdjust_leaves h run noPlan away x
    rw [← resumed] at reconciled nothing built
    refine ⟨reconciled, fun y found => ?_⟩
    cases found
    exact ⟨nothing, built⟩

/-- Without a plan, a saved request that can be taken up is raised to. -/
theorem Regranted.raises {s e : State} {g j : Nat} {c : Int} {b : Context} {q : Request} {x : Row} (h : Regranted s g c e)
    (run : s.line.state = .run) (noPlan : s.planner.plan = none) (aims : restoreTarget b g = j) (saved : b.request = some q)
    (row : s.store.active[j]? = some x) (above : c < q.speed) (within : q.speed ≤ x.high) (soak : 1 ≤ x.soak) :
    let w := restoreRest b g e
    Reconciled s g c j w ∧
      ∃ n, w.planner.plan = some n ∧ n.origin = .resume ∧ n.ordering = .raise ∧ n.request = some q ∧ n.target = j ∧
        n.frozen = false ∧ GrantWaits n ∧
        n.steps.map PlanStep.shape = (raiseSteps (s.withStack []) j x q.speed).map PlanStep.shape := by
  intro w
  have none : e.planner.plan = none := (congrArg Planner.plan h.planner).trans noPlan
  have ceiling : (setTarget j e).planner.ceiling = c := (congrArg Planner.ceiling h.planner).trans rfl
  have resumed : w = resumeRaise j x q (setTarget j e) := by
    refine (restoreRest_resumes none aims (by rw [h.store, row])).trans ?_
    rw [saved]
    exact resumePlan_takenUp (ceiling.symm ▸ above) within
  rw [resumed]
  exact resumeRaise_leaves h run soak q

/-- Settles O51: the records marked beneath another cause's, or the record popped and the plan kept, the dryer reconciled or the saved
request taken up. -/
theorem reliefEndsWithTheClearTimer : Obligations.ReliefEndsWithTheClearTimer := by
  intro s due rest
  rw [exec_clearTimer due]
  let w := clearCause .lelRelief (unwatched s)
  have watched : KeepsWatch (unwatched s) (finish w) := (keepsWatch_clearCause _ _).trans (keepsWatch_finish _)
  have uncalled {u : State} : ¬ u.watch.calls .lelRelief := fun h => h
  refine ⟨finish w, rfl, congrArg (·.supervisor.reliefHeld) watched.watch, congrArg (·.supervisor.clearTimer) watched.watch,
    (keepsWatch_finish w).cleared _ uncalled (noneActive_clearCause uncalled), fun r deeper stack active other => ?_,
    fun b g r stack relief active run idle grant row => ?_⟩
  · have under : w = (unwatched s).withStack (marked .lelRelief s.stack) :=
      clearCause_under (s := unwatched s) stack active other
    have settled : finish w = w := by
      rw [under]
      exact finish_watched rest rfl rfl (by simp [marked])
    rw [settled, under]
    exact ⟨(onlyChanges_withSupervisor s _).trans (onlyChanges_withStack _ _), rfl⟩
  · intro c target takenUp
    obtain ⟨e, granted, restored⟩ := clearRelief_restores stack relief active grant row
    have store : w.store = s.store := (steady_clearCause .lelRelief (unwatched s)).store
    have kept := onlyChanges_finish_idle (s := w) (by rw [store]; exact idle)
    have planner : (finish w).planner = w.planner := kept .planner (by simp)
    have line : (finish w).line = w.line := kept .line (by simp)
    have left : (finish w).stack = w.stack := kept .stack (by simp)
    have aims : restoreTarget { b with cleared := true } (min b.grantRow g) = target :=
      restoreTarget_min { b with cleared := true } g
    rw [planner, line, left]
    refine ⟨fun p plan => ?_, fun noPlan away untaken => ?_, fun q x noPlan saved taken soak => ?_⟩
    · have keeps : w = restorePlan p e :=
        restored.trans (restoreRest_plan ((congrArg Planner.plan granted.planner).trans plan))
      rw [keeps]
      refine ⟨granted.keeps, fun away => ?_⟩
      obtain ⟨stack, line, moved⟩ := granted.movesOn away
      exact ⟨stack, line ▸ run, moved⟩
    · obtain ⟨⟨stack, grantRow, ceiling, toward, line⟩, plan⟩ := granted.adjusts run noPlan aims away untaken
      rw [← restored] at stack grantRow ceiling toward line plan
      exact ⟨stack, grantRow, ceiling, toward, line ▸ run, plan⟩
    · obtain ⟨found, above, within⟩ := taken
      obtain ⟨⟨stack, grantRow, ceiling, toward, line⟩, plan⟩ :=
        granted.raises run noPlan aims saved found above within soak
      rw [← restored] at stack grantRow ceiling toward line plan
      exact ⟨stack, grantRow, ceiling, toward, line ▸ run, plan⟩

end Sys2Proof.Machine

/-!
SUPPORT. A row block as it is written and read: its signed fields, its mask and the fields of the zones in use; the statement about
row blocks.
-/

namespace Sys2Proof.Machine

-- One proof after the other: side by side with the text above, their threads need more memory than the check allows.
set_option Elab.async false

/-! ### Fields (R190) -/

/-- A value that a two-octet field carries (R190). -/
def Signed16 (v : Int) : Prop := -32768 ≤ v ∧ v ≤ 32767

theorem toInt_ofInt16 {v : Int} (h : Signed16 v) : (BitVec.ofInt 16 v).toInt = v := by
  obtain ⟨low, high⟩ := h
  rw [BitVec.toInt_ofInt]
  exact Int.bmod_eq_of_le (by omega) (by omega)

/-- A field of two octets is read from where it stands in the block. -/
theorem fieldAt_field2 {v : Int} (h : Signed16 v) (before after : List Byte) :
    fieldAt (before ++ (field2 v ++ after)) before.length = v := by
  have octets (i : Nat) : octetAt (before ++ (field2 v ++ after)) (before.length + i) = octetAt (field2 v ++ after) i := by
    simp only [octetAt, List.getD_eq_getElem?_getD]
    rw [List.getElem?_append_right (Nat.le_add_right _ _), Nat.add_sub_cancel_left]
  unfold fieldAt
  rw [octets 1, show octetAt (before ++ (field2 v ++ after)) before.length = octetAt (field2 v ++ after) 0 from octets 0]
  exact (congrArg BitVec.toInt (halfOf_low_high _)).trans (toInt_ofInt16 h)

theorem toNat_octet {n : Nat} (h : n ≤ 255) : (BitVec.ofNat 8 n).toNat = n := by
  rw [BitVec.toNat_ofNat]
  exact Nat.mod_eq_of_lt (by omega)

/-! ### The mask (R192) -/

/-- Of four flags as an octet, the flag of each zone stands in its bit, and the upper bits are 0. -/
theorem maskOctet_zones (f : Zone → Bool) :
    (maskOctet (Zone.all.map f)).toNat ≤ 15 ∧ ∀ z, (maskOctet (Zone.all.map f)).getLsbD (zoneNumber z - 1) = f z := by
  have four : ∀ a b c d : Bool, (maskOctet [a, b, c, d]).toNat ≤ 15 ∧ (maskOctet [a, b, c, d]).getLsbD 0 = a ∧
      (maskOctet [a, b, c, d]).getLsbD 1 = b ∧ (maskOctet [a, b, c, d]).getLsbD 2 = c ∧
      (maskOctet [a, b, c, d]).getLsbD 3 = d := by decide
  obtain ⟨small, first, second, third, fourth⟩ := four (f .z1) (f .z2) (f .z3) (f .z4)
  refine ⟨small, fun z => ?_⟩
  cases z <;> assumption

theorem maskZones_maskOctet (f : Zone → Bool) : maskZones (maskOctet (Zone.all.map f)) = Zone.all.filter f :=
  List.filter_congr fun z _ => (maskOctet_zones f).2 z

/-! ### The zones' fields (R192) -/

/-- The six octets of a zone in use. -/
def zoneOctets (x : ZoneRow) : List Byte := field2 x.air ++ field2 x.feedforward ++ field2 x.fan

/-- A zone's fields fit their octets. -/
def ZoneRow.Fits (x : ZoneRow) : Prop := Signed16 x.air ∧ Signed16 x.feedforward ∧ Signed16 x.fan

/-- The six octets of a zone are read as its fields. -/
theorem fieldAt_zoneOctets {x : ZoneRow} (h : x.Fits) (before after : List Byte) :
    ({ air := fieldAt (before ++ (zoneOctets x ++ after)) before.length
       feedforward := fieldAt (before ++ (zoneOctets x ++ after)) (before.length + 2)
       fan := fieldAt (before ++ (zoneOctets x ++ after)) (before.length + 4) } : ZoneRow) = x := by
  obtain ⟨air, feedforward, fan⟩ := h
  have first := fieldAt_field2 air before (field2 x.feedforward ++ field2 x.fan ++ after)
  have second := fieldAt_field2 feedforward (before ++ field2 x.air) (field2 x.fan ++ after)
  have third := fieldAt_field2 fan (before ++ field2 x.air ++ field2 x.feedforward) after
  have two (v : Int) : (field2 v).length = 2 := rfl
  simp only [List.append_assoc, List.length_append, two, Nat.reduceAdd] at first second third
  simp only [zoneOctets, List.append_assoc, first, second, third]

/-- The zones in use among those listed are read with their fields, and the others as not in use. -/
theorem zoneRowsAt_zoneOctets {g : Zone → Option ZoneRow} (fits : ∀ z x, g z = some x → x.Fits) (zs : List Zone) :
    ∀ (before : List Byte) (y : Zone),
      (zoneRowsAt (before ++ ((zs.filterMap g).map zoneOctets).flatten) before.length
        (zs.filter fun z => (g z).isSome)).get y = if y ∈ zs then g y else none := by
  induction zs with
  | nil => intro before y; cases y <;> rfl
  | cons z zs ih =>
    intro before y
    cases hz : g z with
    | none =>
      rw [List.filterMap_cons_none hz, List.filter_cons_of_neg (by simp [hz]), ih before y]
      by_cases own : y = z
      · simp [own, hz]
      · simp [own]
    | some x =>
      have rest := ih (before ++ zoneOctets x) y
      rw [List.append_assoc, List.length_append, show (zoneOctets x).length = 6 from rfl] at rest
      rw [List.filterMap_cons_some hz, List.filter_cons_of_pos (by simp [hz]), List.map_cons, List.flatten_cons, zoneRowsAt,
        PerZone.get_set, rest, fieldAt_zoneOctets (fits z x hz)]
      by_cases own : y = z
      · simp [own, hz]
      · simp [own]

theorem length_zoneOctets (l : List ZoneRow) : ((l.map zoneOctets).flatten).length = 6 * l.length := by
  induction l with
  | nil => rfl
  | cons x l ih =>
    rw [List.map_cons, List.flatten_cons, List.length_append, ih, show (zoneOctets x).length = 6 from rfl, List.length_cons]
    omega

theorem PerZone.eq_of_get {α : Type} {p q : PerZone α} (h : ∀ z, p.get z = q.get z) : p = q := by
  obtain ⟨p1, p2, p3, p4⟩ := p
  obtain ⟨q1, q2, q3, q4⟩ := q
  have h1 : p1 = q1 := h .z1
  have h2 : p2 = q2 := h .z2
  have h3 : p3 = q3 := h .z3
  have h4 : p4 = q4 := h .z4
  rw [h1, h2, h3, h4]

/-! ### The row block (R192) -/

/-- The fourteen octets of a row block before those of the zones. -/
def rowHead (r : Row) : List Byte :=
  field2 r.low ++ field2 r.high ++ [maskOctet (Zone.all.map r.uses)] ++ field2 r.exhaust ++ field2 r.chill.c1 ++
    field2 r.chill.c2 ++ field1 r.ramp ++ field1 r.soak ++ field1 r.lead

theorem rowBlock_eq (r : Row) :
    rowBlock r = rowHead r ++ ((Zone.all.filterMap fun z => r.zones.get z).map zoneOctets).flatten := rfl

/-- Settles O28: each field is read from where it is written, and the zones from the mask. -/
theorem rowBlocksTravelUnchanged : Obligations.RowBlocksTravelUnchanged := by
  intro r signed ramp soak lead zones
  have fits : ∀ z x, r.zones.get z = some x → x.Fits := fun z x hx =>
    have each := zones z x hx
    ⟨each _ (by simp), each _ (by simp), each _ (by simp)⟩
  have length : (rowBlock r).length = 14 + 6 * (Zone.all.filter r.uses).length := by
    rw [rowBlock_eq, List.length_append, length_zoneOctets, List.length_filterMap_eq_countP, List.countP_eq_length_filter]
    rfl
  have rows : zoneRowsAt (rowBlock r) 14 (Zone.all.filter r.uses) = r.zones :=
    PerZone.eq_of_get fun z => (zoneRowsAt_zoneOctets fits Zone.all (rowHead r) z).trans (if_pos (mem_zones z))
  have low : fieldAt (rowBlock r) 0 = r.low := fieldAt_field2 (signed _ (by simp)) [] _
  have high : fieldAt (rowBlock r) 2 = r.high := fieldAt_field2 (signed _ (by simp)) (field2 r.low) _
  have exhaust : fieldAt (rowBlock r) 5 = r.exhaust := fieldAt_field2 (signed _ (by simp)) ((rowHead r).take 5) _
  have chill1 : fieldAt (rowBlock r) 7 = r.chill.c1 := fieldAt_field2 (signed _ (by simp)) ((rowHead r).take 7) _
  have chill2 : fieldAt (rowBlock r) 9 = r.chill.c2 := fieldAt_field2 (signed _ (by simp)) ((rowHead r).take 9) _
  have mask : octetAt (rowBlock r) 4 = maskOctet (Zone.all.map r.uses) := rfl
  unfold parseRow
  dsimp only
  rw [mask, maskZones_maskOctet, if_pos ⟨(maskOctet_zones r.uses).1, length⟩, rows, low, high, exhaust, chill1, chill2,
    show octetAt (rowBlock r) 11 = BitVec.ofNat 8 r.ramp from rfl, show octetAt (rowBlock r) 12 = BitVec.ofNat 8 r.soak from rfl,
    show octetAt (rowBlock r) 13 = BitVec.ofNat 8 r.lead from rfl, toNat_octet ramp, toNat_octet soak, toNat_octet lead]

end Sys2Proof.Machine

/-!
SUPPORT. Orders that change nothing: what the read orders answer, and the orders that are dropped or refused; the statements about
them.
-/

namespace Sys2Proof.Machine

-- One proof after the other: side by side with the text above, their threads need more memory than the check allows.
set_option Elab.async false

/-! ### Orders that change nothing (R187, R188) -/

/-- An order that is decided without a change of state reports, whether or not it is open to its source. -/
theorem reports_of_decided {c : Instr} {o : OrderFields} {s : State} {d : List Byte} (alone : TakenAlone c s)
    (ho : orderFields c = some o)
    (decided : decideOrder (addrOf o.src) o.code.toNat o.data (arrived s) = { state := arrived s, data := d })
    (hn : resetTaken o.code d = false) : Reports c d s := by
  obtain ⟨_, same, taken, room⟩ := alone
  cases ho.symm.trans same
  have free : (arrived s).agent.slot = .free := taken.free
  have port : portSettled (arrived s) = true := (atRest_iff.mp (atRest_arrived taken.rest)).2.2.2.1
  obtain ⟨sends, slot, alone⟩ := reply_alone (s := arrived s) (dst := addrOf o.src) (tag := o.tag) room port hn
  refine ⟨o, _, ho, ?_, ⟨alone.link, sends, slot⟩, ((onlyChanges_arrived s).trans alone.onlyChanges).mono (by simp),
    alone.judged.agent⟩
  rw [exec_of_orderFields s ho, receiveOrder_reaches taken.reaches taken.fits, takeOrder, if_pos free]
  simp only [decided, closeEvent_atRest (atRest_arrived taken.rest)]

/-- The manager address check concerns the codes of write orders alone (R189). -/
theorem decideOrder_open {code : Nat} (h : isWriteOrder code = false) (src : Addr) (d : List Byte) (s : State) :
    decideOrder src code d s = orderBody code d s := by
  simp [decideOrder, managerRefuses, h]

/-- A read order reports what its body answers, from any source. -/
theorem reports_of_read {c : Instr} {o : OrderFields} {s : State} {d : List Byte} (alone : TakenAlone c s)
    (ho : orderFields c = some o) (read : isWriteOrder o.code.toNat = false)
    (body : orderBody o.code.toNat o.data (arrived s) = { state := arrived s, data := d }) : Reports c d s := by
  refine reports_of_decided alone ho ((decideOrder_open read _ _ _).trans body) ?_
  have other : o.code ≠ softResetCode := fun same => absurd (same ▸ read) (by decide)
  simp [resetTaken, other]

/-! ### The read orders (R191 to R195) -/

/-- The reply data of an order with one octet of argument: DONE with what the octet gives, and BAD_ARGUMENT elsewhere. -/
def argumentReply (f : Byte → Option (List Byte)) : List Byte → List Byte
  | [b] => match f b with
    | some d => 0 :: d
    | none => [3]
  | _ => [3]

theorem readPlain_eq (f : State → List Byte) (data : List Byte) (s : State) :
    readPlain f data s = { state := s, data := if data = [] then 0 :: f s else [3] } := by
  cases data <;> rfl

theorem readZoneBody_eq (data : List Byte) (s : State) :
    readZoneBody data s =
      { state := s, data := argumentReply (fun b => (zoneOf b.toNat).map fun z => zoneData z s) data } := by
  rcases data with _ | ⟨b, _ | _⟩
  · rfl
  · unfold readZoneBody argumentReply
    dsimp only
    cases zoneOf b.toNat <;> rfl
  · rfl

theorem readChillBody_eq (data : List Byte) (s : State) :
    readChillBody data s =
      { state := s, data := argumentReply (fun b => (circuitOf b.toNat).map fun k => chillData k s) data } := by
  rcases data with _ | ⟨b, _ | _⟩
  · rfl
  · unfold readChillBody argumentReply
    dsimp only
    cases circuitOf b.toNat <;> rfl
  · rfl

theorem readPlanBody_eq (data : List Byte) (s : State) :
    readPlanBody data s =
      { state := s, data := argumentReply (fun b => if b.toNat ≤ 15 then some (planData b.toNat s) else none) data } := by
  rcases data with _ | ⟨b, _ | _⟩
  · rfl
  · unfold readPlanBody argumentReply
    dsimp only
    split <;> rfl
  · rfl

theorem readMapBody_eq (data : List Byte) (s : State) :
    readMapBody data s =
      { state := s, data := argumentReply (fun b => (s.entry b.toNat).map fun e => mapData b.toNat e) data } := by
  rcases data with _ | ⟨b, _ | _⟩
  · rfl
  · unfold readMapBody argumentReply
    dsimp only
    cases s.entry b.toNat <;> rfl
  · rfl

theorem paramRange_isSome {id : Nat} : (paramRange id).isSome = true ↔ 1 ≤ id ∧ id ≤ 30 := by
  refine ⟨fun known => ?_, fun ⟨least, most⟩ => ?_⟩
  · obtain ⟨⟨lo, hi⟩, range⟩ := Option.isSome_iff_exists.mp known
    exact paramRange_bounds range
  · interval_cases id <;> rfl

/-- A parameter's reply: its id and its value, low octet first (R195). -/
theorem paramData_eq (p : Params) (b : Byte) :
    paramData p b.toNat =
      [b, lowOctet (BitVec.ofNat 16 (p.get b.toNat)), highOctet (BitVec.ofNat 16 (p.get b.toNat))] := by
  simp [paramData, field1, field2]

theorem readParamBody_eq (data : List Byte) (s : State) :
    readParamBody data s =
      { state := s
        data := argumentReply (fun b =>
          if 1 ≤ b.toNat ∧ b.toNat ≤ 30 then
            some [b, lowOctet (BitVec.ofNat 16 (s.params.get b.toNat)), highOctet (BitVec.ofNat 16 (s.params.get b.toNat))]
          else none) data } := by
  rcases data with _ | ⟨b, _ | _⟩
  · rfl
  · unfold readParamBody argumentReply
    simp only [paramRange_isSome, paramData_eq]
    split <;> rfl
  · rfl

/-- READ_ROW reads row `i` of the copy its first octet names (R59). -/
theorem readRowBody_row {which i : Byte} (s : State) (copy : which.toNat ≤ 1) (row : i.toNat ≤ 15) :
    readRowBody [which, i] s =
      { state := s
        data := 0 :: rowData (if which = 0 then s.store.active else s.store.shadow) s.store.status i.toNat } := by
  have active : which.toNat = 0 ↔ which = 0 := BitVec.toNat_inj (y := 0)
  have inside : ¬ (1 < which.toNat ∨ Config.tableCapacity ≤ i.toNat) := by
    have : Config.tableCapacity = 16 := rfl
    omega
  simp only [readRowBody, if_neg inside, active]
  rfl

/-- A READ_ROW of another length, or with a copy or a row out of range, is refused (R59, R188). -/
theorem readRowBody_refused {data : List Byte} (s : State)
    (h : ∀ which i, data = [which, i] → 1 < which.toNat ∨ 15 < i.toNat) :
    readRowBody data s = .status .badArgument s := by
  fun_cases readRowBody data s
  case case2 which i inside =>
    have : Config.tableCapacity = 16 := rfl
    have := h which i rfl
    omega
  all_goals rfl

/-- Settles O53, order by order. -/
theorem readOrdersReport : Obligations.ReadOrdersReport := by
  intro src dst tag data s n arg plain answers
  have argued : ∀ f, arg f = argumentReply f data := fun f => rfl
  simp only [argued]
  refine ⟨fun alone => reports_of_read alone rfl rfl (readPlain_eq _ _ _),
    fun alone => reports_of_read alone rfl rfl (readZoneBody_eq _ _),
    fun alone => reports_of_read alone rfl rfl (readChillBody_eq _ _),
    fun alone => reports_of_read alone rfl rfl (readPlain_eq _ _ _),
    fun alone => reports_of_read alone rfl rfl (readPlanBody_eq _ _),
    fun alone => reports_of_read alone rfl rfl (readPlain_eq _ _ _),
    fun alone => reports_of_read alone rfl rfl (readMapBody_eq _ _),
    fun which i named copy row alone => ?_,
    fun outside alone => reports_of_read alone rfl rfl (readRowBody_refused _ outside),
    fun alone => reports_of_read alone rfl rfl (readParamBody_eq _ _),
    fun alone => reports_of_read alone rfl rfl (readPlain_eq _ _ _)⟩
  subst named
  exact reports_of_read alone rfl rfl (readRowBody_row _ copy row)

/-! ### Orders dropped and refused (R76, R187 to R189) -/

/-- An ORDER that finds the reply slot taken is counted, and nothing else is done (R187). -/
theorem exec_dropped {c : Instr} {o : OrderFields} {s : State} (ho : orderFields c = some o) (reaches : Reaches o.src o.dst s)
    (fits : o.data.length ≤ Config.dataLimit) (rest : s.atRest = true) (busy : s.agent.slot ≠ .free) :
    exec c s = .next ((arrived s).withSat { s.sat with orderDrop := satInc s.sat.orderDrop }) := by
  let dropped := (arrived s).withSat { s.sat with orderDrop := satInc s.sat.orderDrop }
  have judged : SameJudged s dropped := (sameJudged_arrived s).trans (sameJudged_withSat _ _)
  have still : arbitrate dropped = dropped := arbitrate_of_settled (atRest_iff.mp (atRest_arrived rest)).2.2.2.1
  rw [exec_of_orderFields s ho, receiveOrder_reaches reaches fits, takeOrder,
    if_neg (show (arrived s).agent.slot ≠ .free from busy)]
  exact congrArg Host.Outcome.next ((congrArg arbitrate (judged.closeEvent rest)).trans still)

/-- The codes of R188's table are those of the read orders and those of the write orders. -/
theorem orderBody_unknown {code : Nat} (h : ¬ ((1 ≤ code ∧ code ≤ 0x0A) ∨ (0x20 ≤ code ∧ code ≤ 0x2A))) (d : List Byte)
    (s : State) : orderBody code d s = .status .unknownOrder s := by
  unfold orderBody
  split
  case h_22 => rfl
  all_goals exact absurd h (by decide)

theorem knownOrderCode_iff {code : Byte} :
    knownOrderCode code = true ↔
      (1 ≤ code.toNat ∧ code.toNat ≤ 0x0A) ∨ (0x20 ≤ code.toNat ∧ code.toNat ≤ 0x2A) := by
  simp [knownOrderCode]

/-- A code that is not known is no write order's, and no body has it (R188). -/
theorem decideOrder_unknown {code : Byte} (h : knownOrderCode code = false) (src : Addr) (d : List Byte) (s : State) :
    decideOrder src code.toNat d s = .status .unknownOrder s := by
  have unknown := mt knownOrderCode_iff.mpr (Bool.not_eq_true _ ▸ h)
  have read : isWriteOrder code.toNat = false := by
    simp only [isWriteOrder, Bool.and_eq_false_iff, decide_eq_false_iff_not]
    omega
  rw [decideOrder_open read, orderBody_unknown unknown]

/-- A write order from another source than the manager is not looked into (R188, R189). -/
theorem decideOrder_notManager {src : Byte} {code : Nat} {s : State} (least : 0x20 ≤ code) (most : code ≤ 0x2A)
    (h : ¬ ManagerAdmits src s) (d : List Byte) :
    decideOrder (addrOf src) code d (arrived s) = { state := arrived s, data := notManagerData code } := by
  obtain ⟨managed, other⟩ := not_or.mp h
  have refuses : managerRefuses (addrOf src) code (arrived s) = true := by
    have params : (arrived s).params = s.params := rfl
    simp [managerRefuses, isWriteOrder, params, least, most, managed, other]
  exact if_pos refuses

/-- A NOT_MANAGER reply carries three octets to a COMMIT and a LINE, and its status alone elsewhere (R76, R188). -/
theorem notManagerData_octet (code : Byte) :
    notManagerData code.toNat = if code = 0x22 ∨ code = 0x25 then [5, 0, 0] else [5] := by
  have octet (b : Byte) : code.toNat = b.toNat ↔ code = b := BitVec.toNat_inj
  unfold notManagerData
  simp only [← octet]
  rfl

/-- A LINE order of another command, or of another length (R76). -/
theorem lineBody_refused {data : List Byte} (h : lineCommandData data = false) (s : State) :
    lineBody data s = linePlain .badArgument s := by
  have named : ∀ n, 1 ≤ n → n ≤ 4 → data.map BitVec.toNat ≠ [n] := by
    rintro n least most single
    obtain ⟨c, rfl, rfl⟩ := List.map_eq_singleton_iff.mp single
    simp [lineCommandData, least, most] at h
  unfold lineBody
  split
  case h_5 => rfl
  all_goals exact absurd ‹_› (named _ (by decide) (by decide))

theorem withoutData_refused {data : List Byte} (h : data ≠ []) (body : State → Answer) (s : State) :
    withoutData body data s = .status .badArgument s := by
  cases data
  case nil => exact absurd rfl h
  case cons => rfl

/-! An order whose data are not as long as its layout is refused. -/

theorem writeParamBody_length {data : List Byte} (h : data.length ≠ 3) (s : State) :
    writeParamBody data s = .status .badArgument s := by
  unfold writeParamBody
  split
  · exact absurd rfl h
  · rfl

theorem setHoldBody_length {data : List Byte} (h : data.length ≠ 1) (s : State) :
    setHoldBody data s = .status .badArgument s := by
  unfold setHoldBody
  split
  · exact absurd rfl h
  · rfl

theorem setFaultEnableBody_length {data : List Byte} (h : data.length ≠ 2) (s : State) :
    setFaultEnableBody data s = .status .badArgument s := by
  unfold setFaultEnableBody
  split
  · exact absurd rfl h
  · rfl

/-- Settles O54: the drop, and the refusals by code, by source and by length. -/
theorem ordersAreDroppedOrRefused : Obligations.OrdersAreDroppedOrRefused := by
  refine ⟨fun c o s ho reaches fits rest busy => (exec_dropped ho reaches fits rest busy).trans (by rw [satInc_eq]),
    fun code src dst tag data s unknown alone => reports_of_decided alone rfl (decideOrder_unknown unknown _ _ _) ?_,
    fun c o s ho alone least most other => reports_of_decided alone ho ?_ ?_, ?_⟩
  · exact Bool.and_false _
  · rw [decideOrder_notManager least most other, notManagerData_octet]
  · split <;> exact Bool.and_false _
  intro src dst tag data s answers
  refine ⟨fun other alone write => ?_, fun filled => ?_, fun length alone write => ?_, fun length alone write => ?_,
    fun length alone write => ?_, fun empty alone write => ?_⟩
  · exact reports_of_body alone write rfl (lineBody_refused other _) rfl
  · refine ⟨fun alone write => ?_, fun alone write => ?_, fun alone write => ?_, fun alone write => ?_, fun alone write => ?_⟩
    · refine reports_of_body alone write rfl ?_ rfl
      cases data
      case nil => exact absurd rfl filled
      case cons => rfl
    all_goals exact reports_of_body alone write rfl (withoutData_refused filled _ _) rfl
  · exact reports_of_body alone write rfl (writeParamBody_length length _) rfl
  · exact reports_of_body alone write rfl (setHoldBody_length length _) rfl
  · exact reports_of_body alone write rfl (setFaultEnableBody_length length _) rfl
  · subst empty
    exact reports_of_body alone write rfl rfl rfl

end Sys2Proof.Machine

/-!
SUPPORT. A WRITE_PARAM: its octets, its checks, the value it replaces and what the rest of its event keeps; the statement about it.
-/

namespace Sys2Proof.Machine

-- One proof after the other: side by side with the text above, their threads need more memory than the check allows.
set_option Elab.async false

/-! ### The octets of a value (R190) -/

theorem toNat_halfOf (lo hi : Byte) : (halfOf lo hi).toNat = lo.toNat + 256 * hi.toNat := by
  have low := lo.isLt
  have high := hi.isLt
  have shifted : hi.toNat <<< 8 < 2 ^ 16 := by rw [Nat.shiftLeft_eq]; omega
  rw [halfOf, BitVec.toNat_or, BitVec.toNat_shiftLeft, BitVec.toNat_setWidth, BitVec.toNat_setWidth,
    Nat.mod_eq_of_lt (a := hi.toNat) (by omega), Nat.mod_eq_of_lt shifted, Nat.mod_eq_of_lt (a := lo.toNat) (by omega),
    ← Nat.shiftLeft_add_eq_or_of_lt low, Nat.shiftLeft_eq]
  omega

theorem lowOctet_halfOf (lo hi : Byte) : lowOctet (halfOf lo hi) = lo := by
  refine BitVec.eq_of_toNat_eq ?_
  have := lo.isLt
  rw [lowOctet, BitVec.toNat_setWidth, toNat_halfOf]
  omega

theorem highOctet_halfOf (lo hi : Byte) : highOctet (halfOf lo hi) = hi := by
  refine BitVec.eq_of_toNat_eq ?_
  have := lo.isLt
  have := hi.isLt
  rw [highOctet, BitVec.toNat_setWidth, BitVec.toNat_ushiftRight, toNat_halfOf, Nat.shiftRight_eq_div_pow]
  omega

/-! ### The checks (R70, R172, R195) -/

theorem crawlFits_iff {v : Nat} {t : List Row} : crawlFits v t = true ↔ ∀ r rs, t = r :: rs → (v : Int) ≤ r.high := by
  cases t with
  | nil => simp [crawlFits]
  | cons r rs => simp [crawlFits]

/-- The cross-conditions of R195, each with the ids it concerns. -/
structure ParamFits (id v : Nat) (s : State) : Prop where
  crawl : id = 2 → (∀ r rs, s.store.active = r :: rs → (v : Int) ≤ r.high) ∧
    (s.store.status = .pending → ∀ r rs, s.store.shadow = r :: rs → (v : Int) ≤ r.high)
  warn : id = 18 → v + 50 ≤ s.params.lelTrip
  trip : id = 19 → s.params.lelWarn + 50 ≤ v
  manager : id = 29 → v ≠ s.link.own.toNat

theorem paramFits_iff {id v : Nat} {s : State} : paramFits id v s = true ↔ ParamFits id v s := by
  unfold paramFits
  split
  case h_1 =>
    rw [Bool.and_eq_true, Bool.or_eq_true, bne_iff_ne, crawlFits_iff, crawlFits_iff, ← imp_iff_not_or]
    exact ⟨fun fits => ⟨fun _ => fits, nofun, nofun, nofun⟩, fun fits => fits.crawl rfl⟩
  case h_2 => exact decide_eq_true_iff.trans ⟨fun fits => ⟨nofun, fun _ => fits, nofun, nofun⟩, fun fits => fits.warn rfl⟩
  case h_3 => exact decide_eq_true_iff.trans ⟨fun fits => ⟨nofun, nofun, fun _ => fits, nofun⟩, fun fits => fits.trip rfl⟩
  case h_4 => exact bne_iff_ne.trans ⟨fun fits => ⟨nofun, nofun, nofun, fun _ => fits⟩, fun fits => fits.manager rfl⟩
  case h_5 crawl warn trip manager =>
    exact ⟨fun _ => ⟨(absurd · crawl), (absurd · warn), (absurd · trip), (absurd · manager)⟩, fun _ => rfl⟩

theorem writeParamBody_unknown {i lo hi : Byte} (h : paramRange i.toNat = none) (s : State) :
    writeParamBody [i, lo, hi] s = .status .badArgument s := by
  simp only [writeParamBody, h]

/-- The state in which a taken WRITE_PARAM of these octets leaves its event to end. -/
def paramWritten (i lo hi : Byte) (s : State) : State := writeParamTaken i.toNat (lo.toNat + 256 * hi.toNat) s

/-- The checks of a WRITE_PARAM in their order: the range and the cross-conditions, the line state for PATH_LENGTH, and then the write
(R148, R188, R195). -/
theorem writeParamBody_known {i lo hi : Byte} {least most : Nat} (h : paramRange i.toNat = some (least, most)) (s : State) :
    let v := lo.toNat + 256 * hi.toNat
    (¬ ((least ≤ v ∧ v ≤ most) ∧ ParamFits i.toNat v s) → writeParamBody [i, lo, hi] s = .status .badArgument s) ∧
      ((least ≤ v ∧ v ≤ most) ∧ ParamFits i.toNat v s →
        (i.toNat = 27 → s.line.state ≠ .cold → writeParamBody [i, lo, hi] s = .status .refusedState s) ∧
        ((i.toNat = 27 → s.line.state = .cold) →
          writeParamBody [i, lo, hi] s =
            .done (paramData (paramWritten i lo hi s).params i.toNat) (paramWritten i lo hi s))) := by
  intro v
  have passes : ¬ (v < least ∨ most < v ∨ paramFits i.toNat v s = false) ↔
      (least ≤ v ∧ v ≤ most) ∧ ParamFits i.toNat v s := by
    rw [not_or, not_or, not_lt, not_lt, Bool.not_eq_false, paramFits_iff, and_assoc]
  simp only [writeParamBody, h, toNat_halfOf]
  refine ⟨fun bad => if_pos (not_not.mp (mt passes.mp bad)), fun good => ?_⟩
  rw [if_neg (passes.mpr good)]
  exact ⟨fun path warm => if_pos ⟨path, warm⟩, fun cold => if_neg fun ⟨path, warm⟩ => warm (cold path)⟩

/-! ### The value replaced (R195) -/

/-- No parameter has an id outside 1 to 30. -/
theorem params_get_outside (p : Params) {k : Nat} (h : ¬ (1 ≤ k ∧ k ≤ 30)) : p.get k = 0 := by
  unfold Params.get
  split
  case h_31 => rfl
  all_goals exact absurd h (by decide)

/-- A parameter replaced has its new value, and every other id its old one. -/
theorem params_get_set_all (p : Params) {id : Nat} (v k : Nat) (hid : 1 ≤ id ∧ id ≤ 30) :
    (p.set id v).get k = if id = k then v else p.get k := by
  by_cases hk : 1 ≤ k ∧ k ≤ 30
  · exact params_get_set p v hid hk
  · rw [params_get_outside _ hk, params_get_outside _ hk, if_neg]
    rintro rfl
    exact hk hid

/-- A taken write replaces the value of its id and no other. -/
theorem params_get_writeParamTaken {id : Nat} (v k : Nat) (s : State) (hid : 1 ≤ id ∧ id ≤ 30) :
    (writeParamTaken id v s).params.get k = if id = k then v else s.params.get k := by
  unfold writeParamTaken
  split
  · rename_i same
    split
    · rename_i own
      exact own ▸ same
    · rfl
  · rw [(steady_paramEffect id v _).sameTables.params]
    exact params_get_set_all s.params v k hid

theorem paramData_written {i lo hi : Byte} {p : Params} (h : p.get i.toNat = lo.toNat + 256 * hi.toNat) :
    paramData p i.toNat = [i, lo, hi] := by
  rw [paramData_eq, h, ← toNat_halfOf, BitVec.ofNat_toNat, BitVec.setWidth_eq, lowOctet_halfOf, highOctet_halfOf]

/-- A taken write leaves the receiver alone, and INSERT_LOSS does not fall. -/
theorem writeParamTaken_sending (id v : Nat) (s : State) :
    (writeParamTaken id v s).link = s.link ∧ s.sat.insertLoss.toNat ≤ (writeParamTaken id v s).sat.insertLoss.toNat := by
  unfold writeParamTaken
  split
  · exact ⟨rfl, le_rfl⟩
  · have effect := (work_paramEffect id v (setParams (s.params.set id v) (keepMinFire id s))).undisturbed
    have kept : (keepMinFire id s).sat = s.sat := by unfold keepMinFire; split <;> rfl
    refine ⟨effect.link.trans (steady_keepMinFire id s).link, ?_⟩
    exact (congrArg (fun c : SatCounts => c.insertLoss.toNat) kept).symm.le.trans effect.loss

/-! ### The MIN_FIRE that waits (R130; log 33) -/

theorem minFire_paramEffect (id v : Nat) (s : State) : (paramEffect id v s).line.priorMinFire = s.line.priorMinFire := by
  have present {f : Zone → State → State} (hf : ∀ z u, KeepsLoops u (f z u)) (z : Zone) (u : State) :
      KeepsLoops u (ifPresent f z u) := KeepsLoops.ite (hf z u) (.refl u)
  have zones {f : Zone → State → State} (hf : ∀ z u, KeepsLoops u (f z u)) : KeepsLoops s (forZones (ifPresent f) s) :=
    ((present hf _ _).trans (present hf _ _)).trans ((present hf _ _).trans (present hf _ _))
  have burner (z : Zone) (u : State) : (refreshBurner z u).line = u.line := by unfold refreshBurner ifPresent; split <;> rfl
  have valve (c : Circuit) (u : State) : (refreshValve c u).line = u.line := by unfold refreshValve; split <;> rfl
  unfold paramEffect
  split
  · split
    · exact (keepsFlags_boundCeiling _ s).minFire
    · rfl
  · split
    · exact congrArg Line.priorMinFire
        ((burner _ _).trans ((burner _ _).trans ((burner _ _).trans (burner _ _))))
    · rfl
  · split
    · exact congrArg Line.priorMinFire ((valve _ _).trans (valve _ _))
    · rfl
  · exact (zones keepsLoops_judgeWarn).minFire
  · exact (zones keepsLoops_judgeTrip).minFire
  · exact (zones keepsLoops_judgeHot).minFire
  · rfl

theorem minFire_writeParamTaken {id : Nat} (v : Nat) (s : State) (other : id ≠ 7) :
    (writeParamTaken id v s).line.priorMinFire = s.line.priorMinFire := by
  unfold writeParamTaken
  split
  · rfl
  · rw [minFire_paramEffect, keepMinFire_of_ne other]
    rfl

/-- A write of MIN_FIRE that changes it gives it the new value, and does nothing at once (R130). -/
theorem writeParamTaken_minFire {v : Nat} {s : State} (changes : s.params.get 7 ≠ v) :
    writeParamTaken 7 v s = setParams (s.params.set 7 v) (keepMinFire 7 s) := if_neg changes

theorem minFire_closeEvent (s : State) : (closeEvent s).line.priorMinFire = s.line.priorMinFire :=
  (congrArg Line.priorMinFire (sameJudged_arbitrate (closeEvent s)).line).symm.trans (keepsFlags_finish s).minFire

/-- No source of a demand, no condition and no safe point reads MIN_FIRE: a part at rest is closed after a write of it. -/
theorem closed_minFire {s : State} (h : s.atRest = true) (v : Nat) :
    Closed (setParams (s.params.set 7 v) (keepMinFire 7 s)) := by
  let u := setParams (s.params.set 7 v) (keepMinFire 7 s)
  obtain ⟨drives, store, faults, _, grants⟩ := atRest_iff.mp h
  have source : ∀ r, demandSource u r = demandSource s r := fun r => by cases r <;> rfl
  have hold : ∀ e, u.underHold e = s.underHold e := fun _ => rfl
  have mask : u.conditionMask = s.conditionMask := faultMask_congr fun e => by cases e <;> rfl
  have follow : drivesFollow u = drivesFollow s := by
    unfold drivesFollow
    simp only [source, hold]
    rfl
  refine { drives := follow.trans drives, store, faults := ?_, grants }
  · unfold faultsSettled at faults ⊢
    rw [mask]
    exact faults

/-! ### The statement -/

/-- A WRITE_PARAM that passes its checks: the value replaced, and what the rest of its event keeps. -/
theorem writeParam_carried {src dst tag i lo hi : Byte} {s : State} {least most : Nat}
    (write : TakenWrite (.writeParam src dst tag [i, lo, hi]) s) (range : paramRange i.toNat = some (least, most))
    (body : writeParamBody [i, lo, hi] (arrived s) =
      .done (paramData (paramWritten i lo hi (arrived s)).params i.toNat) (paramWritten i lo hi (arrived s))) :
    let w := paramWritten i lo hi (arrived s)
    ∃ t, Carries (.writeParam src dst tag [i, lo, hi]) [0, i, lo, hi] s t ∧
      (∀ k, t.params.get k = if i.toNat = k then lo.toNat + 256 * hi.toNat else s.params.get k) ∧
      SameJudged (closeEvent w) t ∧ OnlyChanges [.outlet, .sat, .agent] (closeEvent w) t := by
  intro w
  obtain ⟨_, ⟨⟩, taken, admits⟩ := write
  have value (k : Nat) : w.params.get k = if i.toNat = k then lo.toNat + 256 * hi.toNat else s.params.get k :=
    params_get_writeParamTaken _ k (arrived s) (paramRange_bounds range)
  have octets : paramData w.params i.toNat = [i, lo, hi] := paramData_written ((value _).trans (if_pos rfl))
  rw [octets] at body
  obtain ⟨link, loss⟩ := writeParamTaken_sending i.toNat (lo.toNat + 256 * hi.toNat) (arrived s)
  obtain ⟨t, carries, _, judged, only⟩ := exec_carried (c := .writeParam src dst tag [i, lo, hi]) rfl taken admits body link
    loss rfl
  refine ⟨t, carries, fun k => ?_, judged, only⟩
  rw [show t.params = w.params from judged.agent.trans (work_closeEvent w).undisturbed.params]
  exact value k

/-- Settles O56: the checks in their order, the value held already, and a write of MIN_FIRE, which no work of its event reads. -/
theorem writeParamReplacesOneValue : Obligations.WriteParamReplacesOneValue := by
  intro src dst tag i lo hi s c id v p reaches fits write
  have fits_iff : fits ↔ ParamFits id v (arrived s) :=
    ⟨fun ⟨crawl, warn, trip, manager⟩ => ⟨crawl, warn, trip, manager⟩,
      fun ⟨crawl, warn, trip, manager⟩ => ⟨crawl, warn, trip, manager⟩⟩
  refine ⟨fun unknown alone => reports_of_body alone write rfl (writeParamBody_unknown unknown _) rfl,
    fun least most range => ?_⟩
  obtain ⟨refused, passed⟩ := writeParamBody_known (lo := lo) (hi := hi) range (arrived s)
  rw [← fits_iff] at refused passed
  refine ⟨fun bad alone => reports_of_body alone write rfl (refused bad) rfl,
    fun within fit path warm alone => reports_of_body alone write rfl ((passed ⟨within, fit⟩).1 path warm) rfl,
    fun within fit cold => ?_⟩
  obtain ⟨t, carries, value, judged, only⟩ := writeParam_carried write range ((passed ⟨within, fit⟩).2 cold)
  obtain ⟨_, ⟨⟩, taken, _⟩ := write
  have rest := atRest_arrived taken.rest
  refine ⟨t, carries, (value _).trans (if_pos rfl), fun k other => (value k).trans (if_neg other.symm), fun held => ?_,
    fun own away => ?_, fun other => ?_⟩
  · have same : paramWritten i lo hi (arrived s) = arrived s := if_pos held
    rw [same, closeEvent_atRest rest] at only
    exact ((onlyChanges_arrived s).trans only).mono (by simp)
  · have written : paramWritten i lo hi (arrived s) = setParams ((arrived s).params.set 7 v) (keepMinFire 7 (arrived s)) := by
      show writeParamTaken id v (arrived s) = _
      rw [own] at away ⊢
      exact writeParamTaken_minFire away
    rw [written, (closed_minFire rest v).closeEvent] at only judged
    have kept : OnlyChanges [.line, .agent] (arrived s) (setParams ((arrived s).params.set 7 v) (keepMinFire 7 (arrived s))) :=
      (onlyChanges_withLine _ _).trans (onlyChanges_withAgent _ _)
    exact ⟨(((onlyChanges_arrived s).trans kept).trans only).mono (by simp), judged.line⟩
  · exact (congrArg Line.priorMinFire judged.line).trans
      ((minFire_closeEvent _).trans (minFire_writeParamTaken v (arrived s) other))

end Sys2Proof.Machine

/-!
SUPPORT. The queue of commands and the model's free counter: no command's work touches them, so every command is total and leaves
both. First the operations outside an event's run of updates, in the order of the model, then the orders, then one command.
-/

namespace Sys2Proof.Machine

/-- The queue of commands and the free counter are the same. -/
structure SameQueue (s t : State) : Prop where
  pending : t.pending = s.pending
  freeCount : t.freeCount = s.freeCount

theorem SameQueue.refl (s : State) : SameQueue s s := ⟨rfl, rfl⟩

theorem SameQueue.trans {s t u : State} (h : SameQueue s t) (k : SameQueue t u) : SameQueue s u :=
  ⟨k.pending.trans h.pending, k.freeCount.trans h.freeCount⟩

theorem SameQueue.ite {s t u : State} {c : Prop} [Decidable c] (h : SameQueue s t) (k : SameQueue s u) :
    SameQueue s (if c then t else u) := by split <;> assumption

theorem Steady.sameQueue {s t : State} (h : Steady s t) : SameQueue s t := ⟨h.pending, h.freeCount⟩

theorem Work.sameQueue {s t : State} (h : Work s t) : SameQueue s t := ⟨h.undisturbed.pending, h.undisturbed.freeCount⟩

theorem OutletAlone.sameQueue {s t : State} (h : OutletAlone s t) : SameQueue s t := ⟨h.pending, h.freeCount⟩

theorem sameQueue_finish (s : State) : SameQueue s (finish s) := (work_finish s).sameQueue

theorem sameQueue_withEntry (s : State) (ch : Nat) (e : Entry) : SameQueue s (s.withEntry ch e) := ⟨rfl, rfl⟩

theorem sameQueue_originate (ch : Nat) (e : Entry) (d : DriveRec) (s : State) : SameQueue s (originate ch e d s) :=
  (sameQueue_withEntry s ch _).trans (steady_insertFrame _ _).sameQueue

/-! ### Frames copied and forwarded -/

theorem sameQueue_trackerStep (r : Tracker × TrackerReport) (s : State) : SameQueue s (trackerStep r s) :=
  SameQueue.trans (t := s.withTracker r.1) ⟨rfl, rfl⟩ (steady_trackerReport _ _).sameQueue

theorem sameQueue_changeLevel (ch : Nat) (e : Entry) (old new : LevelRec) (s : State) :
    SameQueue s (changeLevel ch e old new s) :=
  (sameQueue_withEntry s ch _).trans (work_changeLevel ch e old new s).sameQueue

theorem sameQueue_positionFrom (last n : Nat) (s : State) : SameQueue s (positionFrom last n s) := by
  fun_cases positionFrom
  · exact .refl s
  · exact (steady_advanceTransit _ s).sameQueue
  · exact ⟨rfl, rfl⟩

theorem sameQueue_positionReading (n q : Nat) (s : State) : SameQueue s (positionReading n q s) := by
  unfold positionReading
  split
  · exact .refl s
  · dsimp only
    split
    · exact ⟨rfl, rfl⟩
    · exact SameQueue.trans (t := s.withTracker { s.tracker with lastPosition := some n }) ⟨rfl, rfl⟩
        (sameQueue_positionFrom _ _ _)

theorem sameQueue_routeReading (ch : Nat) (v : Half) (q : Nat) (s : State) : SameQueue s (routeReading ch v q s) := by
  fun_cases routeReading
  · exact .refl s
  · exact .refl s
  · exact (steady_airReading _ _ _ s).sameQueue
  · exact (steady_lelReading _ _ _ s).sameQueue
  · exact (steady_webReading _ _ _ s).sameQueue
  · exact ((steady_countKindMismatch s).ite (.refl s)).sameQueue.trans (sameQueue_trackerStep _ _)
  · exact sameQueue_positionReading _ _ s
  · exact (steady_countKindMismatch s).sameQueue

theorem sameQueue_routeLevel (ch : Nat) (b : Bool) (s : State) : SameQueue s (routeLevel ch b s) := by
  fun_cases routeLevel
  · exact .refl s
  · exact .refl s
  · unfold levelHanded
    split
    · exact sameQueue_changeLevel _ _ _ _ s
    · exact .refl s
  all_goals exact (steady_countKindMismatch s).sameQueue

theorem sameQueue_copyFrame (o : List Byte) (s : State) : SameQueue s (copyFrame o s) := by
  unfold copyFrame
  dsimp only
  split
  · exact (steady_copyBeat _ _ _ s).sameQueue
  · exact (sameQueue_routeReading _ _ _ s).ite (steady_countKindMismatch s).sameQueue
  · exact (sameQueue_routeLevel _ _ s).ite (steady_countKindMismatch s).sameQueue
  all_goals exact .refl s

theorem sameQueue_joinThrough (f : ThroughFrame) (s : State) : SameQueue s (joinThrough f s) := by
  unfold joinThrough
  refine SameQueue.ite ?_ ⟨rfl, rfl⟩
  exact SameQueue.trans (t := s.withLink { s.link with through := s.link.through ++ [f] }) ⟨rfl, rfl⟩
    (outletAlone_arbitrate _).sameQueue

theorem sameQueue_forwardFrame (o : List Byte) (s : State) : SameQueue s (forwardFrame o s) := by
  unfold forwardFrame joinDemand
  dsimp only
  refine SameQueue.ite ?_ (sameQueue_joinThrough _ s)
  split
  · exact sameQueue_joinThrough _ s
  · exact ((sameQueue_withEntry s _ _).trans (sameQueue_joinThrough _ _)).ite (sameQueue_joinThrough _ s)

/-! ### Expiries and the end of a transmission -/

/-- The work of an expiry leaves the queue and the counter. -/
theorem sameQueue_expiryWork (c : Instr) (s : State) : SameQueue s (expiryWork c s) := by
  cases c
  case confirmTimerExpiry ch =>
    show SameQueue s (confirmWork ch.toNat s)
    unfold confirmWork
    split
    · exact sameQueue_changeLevel _ _ _ _ s
    · exact .refl s
  case refreshTimerExpiry ch =>
    show SameQueue s (refreshWork ch.toNat s)
    unfold refreshWork
    split
    · exact sameQueue_originate _ _ _ s
    · exact .refl s
  case ageTimer1000 => exact sameQueue_trackerStep _ s
  case purgeTimerExpiry => exact ((steady_enterHeatup s).ite (steady_withLine s _)).sameQueue
  case settleTimerExpiry => exact (steady_readyFromHeatup s).sameQueue
  case cooldownTimerExpiry => exact ((steady_withLine s _).trans (steady_cooldownJudged _)).sameQueue
  case controlPeriod => exact (work_controlWork s).sameQueue
  case headTimerAfter | soakComplete | slowedDelayExpiry => exact (work_fireWork s).sameQueue
  case readyTimeout => exact (work_stallWork s).sameQueue
  case ignitionTimerExpiry z => exact (work_ignitionWork z s).sameQueue
  case clearTimerExpiry => exact (steady_clearRelief s).sameQueue
  case graceTimerExpiry z => exact ((steady_setGrace z none s).trans (steady_trip _ _)).sameQueue
  case supervisionInterval => exact ((steady_withSupervisor s _).trans (steady_superviseInterval _)).sameQueue
  all_goals exact ⟨rfl, rfl⟩

theorem sameQueue_softResetEffect (s : State) : SameQueue s (softResetEffect s) := ⟨rfl, rfl⟩

theorem sameQueue_correctDemand (x : Option (Nat × Int)) (s : State) : SameQueue s (correctDemand x s) := by
  fun_cases correctDemand
  case case3 => exact sameQueue_originate _ _ _ s
  all_goals exact .refl s

theorem sameQueue_txDoneWork (s : State) : SameQueue s (txDoneWork s) := by
  unfold txDoneWork
  split
  · exact .refl s
  · exact SameQueue.trans (t := throughLeft (freePort s)) ⟨rfl, rfl⟩ (sameQueue_correctDemand _ _)
  · dsimp only
    split
    · exact ⟨rfl, rfl⟩
    · exact ⟨rfl, rfl⟩

/-! ### Orders -/

theorem sameQueue_forgetRole (r : Role) (s : State) : SameQueue s (forgetRole r s) := by cases r <;> exact ⟨rfl, rfl⟩

theorem sameQueue_writeMapTaken (ch : Nat) (f : MapFields) (e : Entry) (s : State) :
    SameQueue s (writeMapTaken ch f e s) := by
  have written := sameQueue_withEntry s ch (e.written f)
  have forgot (u : State) : SameQueue u (forgetRole f.role (forgetRole e.role u)) :=
    (sameQueue_forgetRole _ _).trans (sameQueue_forgetRole _ _)
  have rederived (u : State) : SameQueue u (superviseRederived e (e.written f) u) := (work_superviseRederived _ _ u).sameQueue
  exact (written.trans ((forgot _).ite (rederived _))).trans (steady_purgeTested _).sameQueue

theorem sameQueue_writeMapBody (d : List Byte) (s : State) : SameQueue s (writeMapBody d s).state := by
  fun_cases writeMapBody
  case case5 => exact sameQueue_writeMapTaken _ _ _ s
  all_goals exact .refl s

theorem sameQueue_writeParamTaken (id v : Nat) (s : State) : SameQueue s (writeParamTaken id v s) := by
  unfold writeParamTaken
  refine SameQueue.ite (.refl s) ?_
  exact (SameQueue.trans (t := setParams (s.params.set id v) (keepMinFire id s))
    ((steady_keepMinFire id s).sameQueue.trans ⟨rfl, rfl⟩) (work_paramEffect id v _).sameQueue)

theorem sameQueue_writeParamBody (d : List Byte) (s : State) : SameQueue s (writeParamBody d s).state := by
  fun_cases writeParamBody
  case case4 => exact sameQueue_writeParamTaken _ _ s
  all_goals exact .refl s

theorem sameQueue_faultTakeBody (s : State) : SameQueue s (faultTakeBody s).state := by
  fun_cases faultTakeBody
  · exact .refl s
  · exact ((steady_withFaults _ _).trans (steady_sweepFaults _)).sameQueue

theorem sameQueue_withoutData {body : State → Answer} (hb : ∀ s, SameQueue s (body s).state) (d : List Byte) (s : State) :
    SameQueue s (withoutData body d s).state := by
  unfold withoutData
  split
  · exact hb s
  · exact .refl s

/-- Every order's body leaves the queue and the counter. -/
theorem sameQueue_orderBody (code : Nat) (d : List Byte) (s : State) : SameQueue s (orderBody code d s).state := by
  unfold orderBody
  split
  · rw [readPlain_state]; exact .refl s
  · rw [readZoneBody_state]; exact .refl s
  · rw [readChillBody_state]; exact .refl s
  · rw [readPlain_state]; exact .refl s
  · rw [readPlanBody_state]; exact .refl s
  · rw [readPlain_state]; exact .refl s
  · rw [readMapBody_state]; exact .refl s
  · rw [readRowBody_state]; exact .refl s
  · rw [readParamBody_state]; exact .refl s
  · rw [readPlain_state]; exact .refl s
  · exact sameQueue_writeMapBody d s
  · exact (work_writeRowBody d s).sameQueue
  · split
    · exact (work_commitBody s).sameQueue
    · exact .refl s
  · exact sameQueue_withoutData (fun _ => ⟨rfl, rfl⟩) d s
  · exact sameQueue_writeParamBody d s
  · exact (steady_lineBody d s).sameQueue
  · unfold setHoldBody
    split <;> exact ⟨rfl, rfl⟩
  · unfold setFaultEnableBody
    split <;> exact ⟨rfl, rfl⟩
  · exact sameQueue_withoutData sameQueue_faultTakeBody d s
  · exact sameQueue_withoutData (fun _ => ⟨rfl, rfl⟩) d s
  · refine sameQueue_withoutData (fun u => ?_) d s
    unfold softResetBody
    split <;> exact .refl u
  · exact .refl s

theorem sameQueue_decideOrder (a : Addr) (code : Nat) (d : List Byte) (s : State) :
    SameQueue s (decideOrder a code d s).state := by
  unfold decideOrder
  split
  · exact .refl s
  · exact sameQueue_orderBody _ d s

theorem sameQueue_reply (a : Addr) (code tag : Byte) (d : List Byte) (s : State) : SameQueue s (reply a code tag d s) := by
  have inserted := (steady_insertFrame (.reply a code tag d) s).sameQueue
  unfold reply
  dsimp only
  split
  · split
    · exact inserted.trans (sameQueue_softResetEffect _)
    · exact inserted
  · exact inserted.trans ⟨rfl, rfl⟩

theorem sameQueue_takeOrder (a : Addr) (code tag : Byte) (d : List Byte) (s : State) :
    SameQueue s (takeOrder a code tag d s) := by
  unfold takeOrder
  split
  · exact ((sameQueue_decideOrder _ _ _ _).trans (work_closeEvent _).sameQueue).trans (sameQueue_reply _ _ _ _ _)
  · exact (steady_withSat s _).sameQueue.trans (work_closeEvent _).sameQueue

/-! ### One command -/

theorem sameQueue_countGood (s : State) : SameQueue s (countGood s) := ⟨rfl, rfl⟩

theorem sameQueue_askWork (o : List Byte) (s : State) : SameQueue s (askWork o s) :=
  SameQueue.trans (t := countConsumed s) ⟨rfl, rfl⟩ (steady_takeAsk _ _ _ _).sameQueue

theorem sameQueue_orderWork (o : List Byte) (s : State) : SameQueue s (orderWork o s) :=
  SameQueue.trans (t := countConsumed s) ⟨rfl, rfl⟩ (sameQueue_takeOrder _ _ _ _ _)

theorem sameQueue_classify (o : List Byte) (s : State) : SameQueue s (classify o s) := by
  have good := sameQueue_countGood s
  unfold classify
  split
  · have stripped : SameQueue s (stripWork (countGood s)) := ⟨rfl, rfl⟩
    exact stripped.trans (sameQueue_finish _)
  · exact (good.trans (sameQueue_askWork o _)).trans (sameQueue_finish _)
  · exact (good.trans (sameQueue_orderWork o _)).trans (outletAlone_arbitrate _).sameQueue
  · exact (good.trans ((sameQueue_forwardFrame o _).trans (sameQueue_copyFrame o _))).trans (sameQueue_finish _)

theorem sameQueue_checkErrorWork (s : State) : SameQueue s (checkErrorWork s) :=
  (((steady_withSat s _).trans (steady_raiseFault _ _)).ite (steady_withSat s _)).sameQueue

theorem sameQueue_receive (o : List Byte) (s : State) : SameQueue s (receive o s) := by
  unfold receive
  refine SameQueue.ite (SameQueue.ite (sameQueue_classify o s) ?_) (.refl s)
  exact (sameQueue_checkErrorWork s).trans (sameQueue_finish _)

/-- What a command answers has the queue and the counter it found. -/
theorem sameQueue_exec {c : Instr} {s t : State} (h : exec c s = .next t) : SameQueue s t := by
  obtain ⟨phase, own, control, interval⟩ | _ | _ | o | _ | _ := exec_effect h
  · exact ⟨rfl, rfl⟩
  · exact .refl s
  · exact ⟨rfl, rfl⟩
  · exact sameQueue_receive o s
  · exact (sameQueue_txDoneWork s).trans (sameQueue_finish _)
  · exact (sameQueue_expiryWork c s).trans (sameQueue_finish _)

/-- Every command answers a next state: RESET_RELEASE and BYPASS_OPEN test the phase, each other command has one answer. -/
theorem exec_next (c : Instr) (s : State) : ∃ t, exec c s = .next t := by
  cases c
  case resetRelease straps =>
    show ∃ t, execResetRelease straps s = .next t
    unfold execResetRelease
    split <;> exact ⟨_, rfl⟩
  case bypassOpen =>
    show ∃ t, execBypassOpen s = .next t
    unfold execBypassOpen
    split <;> exact ⟨_, rfl⟩
  all_goals exact ⟨_, rfl⟩

/-- Settles O1: the front of the queue is the command that `step` finds. -/
theorem stepRunsFrontCommand : Obligations.StepRunsFrontCommand := by
  intro c q s
  rfl

/-- Settles O2: every command has an answer, and none of what it does reaches the queue or the counter. -/
theorem everyCommandCompletes : Obligations.EveryCommandCompletes := by
  intro c s
  obtain ⟨t, ht⟩ := exec_next c s
  have same := sameQueue_exec ht
  exact ⟨t, ht, same.pending, same.freeCount⟩

end Sys2Proof.Machine

/-!
SUPPORT. A level record that changes: what reads it and what does not, the transition it makes, and the end of an event that forwards
a transition.
-/

namespace Sys2Proof.Machine

-- One proof after the other: side by side with the text above, their threads need more memory than the check allows.
set_option Elab.async false

/-! ### The level record of one entry -/

/-- The part with another level record in an entry of the map. -/
def leveled (ch : Nat) (e : Entry) (new : LevelRec) (s : State) : State := s.withEntry ch { e with level := some new }

theorem onlyChanges_leveled (ch : Nat) (e : Entry) (new : LevelRec) (s : State) :
    OnlyChanges [.channels] s (leveled ch e new s) := onlyChanges_withChannels s _

theorem map_set_same {α β : Type} {f : α → β} {l : List α} {n : Nat} {a b : α} (h : l[n]? = some a) (hf : f b = f a) :
    (l.set n b).map f = l.map f := by
  obtain ⟨room, at_n⟩ := List.getElem?_eq_some_iff.mp h
  have there : (l.map f)[n]'(by simpa using room) = f b := by rw [List.getElem_map, at_n, hf]
  rw [List.map_set, ← there, List.set_getElem_self]

theorem findRole_set_other {r : Role} {e e' : Entry} (role : e'.role = e.role) (other : e.role ≠ r) {l : List Entry} {k n : Nat}
    (h : l[k]? = some e) : findRole r n (l.set k e') = findRole r n l := by
  induction l generalizing k n with
  | nil => rfl
  | cons x l ih =>
    cases k with
    | zero =>
      obtain rfl : x = e := by simpa using h
      simp only [List.set_cons_zero, findRole, role, if_neg other]
    | succ k => simp only [List.set_cons_succ, findRole, ih (by simpa using h)]

section leveled

variable {ch : Nat} {e : Entry} {new : LevelRec} {s : State}

/-- The channel of another role is as it was. -/
theorem roleChannel_leveled (he : s.entry ch = some e) {r : Role} (other : e.role ≠ r) :
    (leveled ch e new s).roleChannel r = s.roleChannel r :=
  findRole_set_other (e := e) (e' := { e with level := some new }) rfl other he

theorem confirmedOf_leveled (he : s.entry ch = some e) {r : Role} (other : e.role ≠ r) :
    (leveled ch e new s).confirmedOf r = s.confirmedOf r :=
  congrArg (Option.map _) (roleChannel_leveled he other)

theorem sentDemand_leveled (he : s.entry ch = some e) {r : Role} (other : e.role ≠ r) :
    (leveled ch e new s).sentDemand r = s.sentDemand r := by
  unfold State.sentDemand
  rw [roleChannel_leveled he other]

theorem any_leveled (he : s.entry ch = some e) {f : Entry → Bool} (hf : f { e with level := some new } = f e) :
    (leveled ch e new s).channels.any f = s.channels.any f := by
  have same := congrArg (List.any · id) (map_set_same (f := f) he hf)
  simp only [List.any_map, Function.id_comp] at same
  exact same

/-- The conditions of the fault entries read the level records of FLAME and BREAK channels, and those of AIRFLOW channels where the
permit is closed and in COOLDOWN. -/
theorem conditionMask_leveled (he : s.entry ch = some e) (flame : ∀ z, e.role ≠ .flame z) (brk : ∀ d, e.role ≠ .brk d)
    (air : (∀ z, e.role ≠ .airflow z) ∨ (s.line.state.permitClosed = false ∧ s.line.state ≠ .cooldown)) :
    (leveled ch e new s).conditionMask = s.conditionMask := by
  have anyFlame : (leveled ch e new s).channels.any Entry.flameActive = s.channels.any Entry.flameActive := any_leveled he (by
    unfold Entry.flameActive
    cases role : e.role
    case flame z => exact absurd role (flame z)
    all_goals rfl)
  have anyBreak : (leveled ch e new s).channels.any Entry.breakActive = s.channels.any Entry.breakActive := any_leveled he (by
    unfold Entry.breakActive
    cases role : e.role
    case brk d => exact absurd role (brk d)
    all_goals rfl)
  refine faultMask_congr fun x => ?_
  cases x
  case flameFail =>
    simp only [faultCondition, confirmedOf_leveled he (flame _)]
    rfl
  case flameUnexpected =>
    simp only [faultCondition, anyFlame]
    rfl
  case webBreak => exact anyBreak
  case airflowLoss =>
    rcases air with other | ⟨opened, away⟩
    · simp only [faultCondition, confirmedOf_leveled he (other _)]
      rfl
    · have still : (leveled ch e new s).line = s.line := rfl
      have cold : (s.line.state == .cooldown) = false := beq_eq_false_iff_ne.mpr away
      simp only [faultCondition, still, opened, cold, Bool.or_self, Bool.false_and]
  all_goals rfl

/-- The drive records, and what they follow, do not read the level records. -/
theorem drivesFollow_leveled (he : s.entry ch = some e) (h : drivesFollow s = true) :
    drivesFollow (leveled ch e new s) = true := by
  rw [drivesFollow_iff] at h ⊢
  intro x hx d hd
  rw [leveled, demandSource_withEntry]
  rcases List.mem_or_eq_of_mem_set hx with there | rfl
  · exact h x there d hd
  · exact h e (List.mem_of_getElem? he) d hd

end leveled

/-! ### The transition -/

theorem transitionOf_none {old new : Confirmed} (h : new = old ∨ old = .unknown ∧ new = .inactive) :
    transitionOf old new = none := by
  rcases h with rfl | ⟨rfl, rfl⟩
  · exact if_pos rfl
  · rfl

theorem transitionOf_some {old new : Confirmed} (known : new ≠ .unknown) (moved : new ≠ old)
    (first : ¬ (old = .unknown ∧ new = .inactive)) : transitionOf old new = some (new == .active) := by
  unfold transitionOf
  rw [if_neg (Ne.symm moved)]
  cases new with
  | active => rfl
  | unknown => exact absurd rfl known
  | inactive =>
    cases old with
    | active => rfl
    | inactive => exact absurd rfl moved
    | unknown => exact absurd ⟨rfl, rfl⟩ first

theorem changeLevel_unmoved {ch : Nat} {e : Entry} {old new : LevelRec} {s : State}
    (h : transitionOf old.confirmed new.confirmed = none) : changeLevel ch e old new s = leveled ch e new s := by
  unfold changeLevel
  rw [h]
  rfl

theorem changeLevel_moved {ch : Nat} {e : Entry} {old new : LevelRec} {s : State} {b : Bool}
    (h : transitionOf old.confirmed new.confirmed = some b) :
    changeLevel ch e old new s = forwardLevels b e.forward (reportTransition e.role b (leveled ch e new s)) := by
  unfold changeLevel
  rw [h]
  rfl

/-! ### The end of an event that forwards a transition -/

theorem onlyChanges_finish_settled {s : State} (h : storeSettled s = true) :
    OnlyChanges [.channels, .outlet, .sat, .faults, .agent] s (finish s) :=
  ((onlyChanges_closeEvent_settled h).trans (outletAlone_arbitrate _).onlyChanges).mono (by simp)

/-- The fault entries that nothing has changed stand to the event's end. -/
theorem faults_finish {s : State} (store : storeSettled s = true) (faults : faultsSettled s = true) :
    (finish s).faults = s.faults := by
  let v := payGrants (driveStage s)
  have drives : (driveStage s).conditionMask = s.conditionMask :=
    (driveStage_same s).mask.trans
      (conditionMask_of_undriven (((driveStage_same s).channels ▸ (steady_driveStage s).channels :)))
  have mask : v.conditionMask = s.conditionMask := (payGrants_same (driveStage s)).mask.trans drives
  have same : v.faults = s.faults := (payGrants_same (driveStage s)).faults.trans (driveStage_same s).faults
  have settled : faultsSettled v = true := by
    unfold faultsSettled at faults ⊢
    rwa [mask, same]
  calc (finish s).faults = (closeEvent s).faults := (sameJudged_arbitrate _).faults
    _ = (sweepFaults v).faults := by rw [closeEvent, settleStore_of_settled store]
    _ = s.faults := by rw [sweepFaults_of_settled settled, same]

theorem sameJudged_forwardLevels (b : Bool) (l : List Nat) (s : State) : SameJudged s (forwardLevels b l s) :=
  sameJudged_insertAll _ s

/-- What the end of the event of a transition changes, with no commit due. -/
theorem onlyChanges_forwarded (b : Bool) (l : List Nat) {s : State} (h : storeSettled s = true) :
    OnlyChanges [.channels, .outlet, .sat, .faults, .agent] s (finish (forwardLevels b l s)) :=
  ((onlyChanges_insertAll _ s).trans
    (onlyChanges_finish_settled ((sameJudged_forwardLevels b l s).store_settled.trans h))).mono (by simp)

/-- What it changes outside READY and RUN. -/
theorem onlyChanges_forwarded_outside (b : Bool) (l : List Nat) {s : State} (h : s.line.state.granted = false) :
    OnlyChanges [.store, .channels, .outlet, .sat, .faults, .agent] s (finish (forwardLevels b l s)) := by
  have outside : (forwardLevels b l s).line.state.granted = false := by rwa [(sameJudged_forwardLevels b l s).line]
  exact ((onlyChanges_insertAll _ s).trans (onlyChanges_finish outside)).mono (by simp)

/-- An entry raised in the event of a transition is pending at its end. -/
theorem pending_forwarded (b : Bool) (l : List Nat) {x : FaultCode} {s : State} (h : Raised x s.faults) :
    (finish (forwardLevels b l s)).faults.pending &&& x.bit ≠ 0 := by
  rw [← (sameJudged_forwardLevels b l s).faults] at h
  exact ((keepsFlags_finish _).raised x h).pending

/-- The role of a confirmed state reads no drive record. -/
theorem confirmedOf_finish (r : Role) {s : State} (h : storeSettled s = true) : (finish s).confirmedOf r = s.confirmedOf r := by
  have closed : (closeEvent s).confirmedOf r = s.confirmedOf r := by
    rw [closeEvent, settleStore_of_settled h]
    exact (((steady_driveStage s).trans (steady_payGrants _)).trans (steady_sweepFaults _)).confirmedOf r
  unfold State.confirmedOf State.roleChannel at closed ⊢
  rw [finish, (sameJudged_arbitrate _).channels]
  exact closed

theorem confirmedOf_forwarded (b : Bool) (l : List Nat) (r : Role) {s : State} (h : storeSettled s = true) :
    (finish (forwardLevels b l s)).confirmedOf r = s.confirmedOf r := by
  have same := sameJudged_forwardLevels b l s
  rw [confirmedOf_finish r (same.store_settled.trans h)]
  unfold State.confirmedOf State.roleChannel
  rw [same.channels]

end Sys2Proof.Machine

/-!
SUPPORT. What a confirmed transition does by the role of its channel: a forward channel's LEVEL frames, a BREAK, a FLAME and an
AIRFLOW transition, each to the end of its event; and the statement about confirm timers.
-/

namespace Sys2Proof.Machine

-- One proof after the other: side by side with the text above, their threads need more memory than the check allows.
set_option Elab.async false

/-! ### A forward channel (R33) -/

/-- With room for all of them, the LEVEL frames join the insert queue in their order. -/
theorem forwardLevels_room (b : Bool) {l : List Nat} {s : State}
    (room : s.outlet.queue.length + l.length ≤ Config.insertCapacity) :
    forwardLevels b l s =
      s.withOutlet { s.outlet with queue := s.outlet.queue ++ l.map fun target => OwnFrame.level target b } := by
  induction l generalizing s with
  | nil =>
    rw [List.map_nil, List.append_nil]
    rfl
  | cons c l ih =>
    have one : insertFrame (.level c b) s = s.withOutlet { s.outlet with queue := s.outlet.queue ++ [.level c b] } := by
      rw [List.length_cons] at room
      rw [insertFrame_of_new (replaceWaiting_eq_none.mpr (.inl rfl)), if_pos (by omega)]
    calc forwardLevels b (c :: l) s = forwardLevels b l (insertFrame (.level c b) s) := rfl
      _ = _ := by
        rw [one, ih (by simp only [List.length_cons] at room; simp; omega)]
        simp [State.withOutlet]

section forward

variable {ch : Nat} {e : Entry} {new : LevelRec} {s : State} (he : s.entry ch = some e) (role : e.role = .forward)
  (rest : s.atRest = true)

include he role rest

/-- A level record of a forward channel is read by no block, so the part stays at rest. -/
theorem atRest_leveled_forward : (leveled ch e new s).atRest = true := by
  obtain ⟨drives, store, faults, port, grants⟩ := atRest_iff.mp rest
  have mask : (leveled ch e new s).conditionMask = s.conditionMask :=
    conditionMask_leveled he (by simp [role]) (by simp [role]) (.inl (by simp [role]))
  refine atRest_iff.mpr ⟨drivesFollow_leveled he drives, store, ?_, port, grants⟩
  unfold faultsSettled at faults ⊢
  rw [mask]
  exact faults

/-- A forward channel's transition ends with its LEVEL frames waiting behind the frame in transmission. -/
theorem finish_forwarded (b : Bool) (busy : s.outlet.port ≠ none)
    (room : s.outlet.queue.length + e.forward.length ≤ Config.insertCapacity) :
    finish (forwardLevels b e.forward (leveled ch e new s)) =
      (leveled ch e new s).withOutlet
        { s.outlet with queue := s.outlet.queue ++ e.forward.map fun target => OwnFrame.level target b } := by
  let u := leveled ch e new s
  have port : portSettled (forwardLevels b e.forward u) = true := by
    rw [forwardLevels_room b (s := u) room]
    simp [portSettled, show u.outlet = s.outlet from rfl, Option.isSome_iff_ne_none.mpr busy]
  have still : (forwardLevels b e.forward u).atRest = true :=
    (sameJudged_forwardLevels b e.forward u).atRest (atRest_leveled_forward he role rest) port
  rw [finish_atRest still, forwardLevels_room b (s := u) room]
  rfl

end forward

/-! ### A BREAK (R89, R90) -/

theorem planner_discard_push (s : State) : (discardPlan (push .brk s)).planner = { s.planner with plan := none } := by
  unfold push
  split
  · rfl
  split
  · rfl
  split
  · split <;> rfl
  · split <;> rfl

theorem outlet_push_brk (s : State) : (push .brk s).outlet = s.outlet := by
  unfold push
  split
  · rfl
  split
  · rfl
  split
  · split <;> rfl
  · split <;> rfl

/-- A BREAK record saved on top of the stack, where none stands and there is room (R153, R156). -/
theorem stack_push_brk {s : State} (granted : s.line.state.granted = true) (new : ∀ x ∈ s.stack, x.cause ≠ .brk)
    (room : s.stack.length < Config.stackCapacity) : (push .brk s).stack = contextOf .brk s false :: s.stack := by
  have accepted : pushRefused .brk s.line.state = false := by simp [pushRefused, granted]
  have unbroken : (s.stack.any fun r => r.cause == .brk) = false := by simpa using new
  have absent : s.stack.find? (fun r => r.cause == .brk) = none := List.find?_eq_none.mpr (by simpa using new)
  unfold push
  rw [if_neg (by simp [accepted]), if_neg (by simp [unbroken]), absent]
  exact (congrArg State.stack (if_pos room)).trans (stack_saveContext .brk s)

theorem grantAtEntry_brk (s : State) : grantAtEntry .brk s = sendUnasked .held (withdrawGrant s) := by
  unfold grantAtEntry
  rw [if_neg (by nofun), if_pos (.inr (.inl rfl))]

/-- The entry into BREAK leaves a GRANT HELD with ceiling 0 waiting, and owes no other (R75). -/
theorem waits_enterBrk {s u : State} (loss : s.sat.insertLoss.toNat ≤ u.sat.insertLoss.toNat) :
    WaitsOrLost (.grant u.outlet.dest.address u.planner.lastTag 0 .held) s (enterLine .brk u) ∧
      grantsPaid (enterLine .brk u) = true := by
  let sent := sendUnasked .held (withdrawGrant u)
  have outlet : (enterLine .brk u).outlet = sent.outlet := by rw [enterLine_outlet, grantAtEntry_brk]
  have sat : (enterLine .brk u).sat = sent.sat := by rw [enterLine_sat, grantAtEntry_brk]
  have waits : WaitsOrLost ((withdrawGrant u).grantFrame .held u.planner.lastTag) s sent := waitsOrLost_sendUnasked .held loss
  refine ⟨waits.later (fun h => by rwa [outlet]) (by rw [sat]), ?_⟩
  unfold grantsPaid
  rw [outlet]
  exact grantsPaid_sendUnasked _ _

/-- A GRANT that waits when a transition is forwarded is sent at the event's end: LEVEL frames take no other frame's place. -/
theorem WaitsOrLost.forwarded {f : OwnFrame} {s v : State} (h : WaitsOrLost f s v) (key : f.key = some .grant)
    (paid : grantsPaid v = true) (outside : v.line.state.granted = false) (b : Bool) (l : List Nat) :
    SentOrLost f s (finish (forwardLevels b l v)) := by
  have same := sameJudged_forwardLevels b l v
  have levels : ∀ g ∈ l.map (OwnFrame.level · b), f.key ≠ g.key := by
    intro g hg
    obtain ⟨c, _, rfl⟩ := List.mem_map.mp hg
    rw [key]
    nofun
  refine WaitsOrLost.finished (h.later (waits_insertAll levels) ?_) key (same.grants_paid.trans paid) (by rwa [same.line])
  exact (work_insertAll _ v).undisturbed.loss

/-- The line in BREAK with its record pushed: the state that a BREAK going ACTIVE enters from READY and RUN (R90). -/
def brokenLine (s : State) : State := enterLine .brk (flushTransit (discardPlan (push .brk s)))

theorem webBreak_granted {s : State} (h : s.line.state.granted = true) : webBreak s = brokenLine (raiseFault .webBreak s) :=
  if_pos h

theorem webBreak_outside {s : State} (h : s.line.state.granted = false) : webBreak s = raiseFault .webBreak s :=
  if_neg (Bool.eq_false_iff.mp h)

theorem raised_webBreak (s : State) : Raised .webBreak (webBreak s).faults := by
  have raised := raised_raiseFault .webBreak s
  cases h : s.line.state.granted with
  | false => rwa [webBreak_outside h]
  | true =>
    have entered : (brokenLine (raiseFault .webBreak s)).faults = (push .brk (raiseFault .webBreak s)).faults :=
      onlyChanges_enterLine .brk _ .faults (by simp)
    rw [webBreak_granted h, entered]
    exact (keepsFlags_push .brk _).raised _ raised

/-- What an event in which the line enters BREAK from `s` leaves. -/
structure Broken (s t : State) : Prop where
  line : t.line = { s.line with state := .brk, purge := none, settle := none, cooldown := none }
  supervisor : t.supervisor = { s.supervisor with permit := true }
  transit : t.transit = []
  store : t.store = s.store
  params : t.params = s.params
  planner : t.planner = { s.planner with plan := none, grantRow := none, ceiling := 0 }
  grant : SentOrLost (.grant s.outlet.dest.address s.planner.lastTag 0 .held) s t
  stack : t.stack = (push .brk s).stack

/-- BREAK is no safe point, so no commit is carried out at the event's end. -/
theorem broken_forwarded (b : Bool) (l : List Nat) (s : State) : Broken s (finish (forwardLevels b l (brokenLine s))) := by
  let v := flushTransit (discardPlan (push .brk s))
  let w := forwardLevels b l (brokenLine s)
  have same : SameJudged (brokenLine s) w := sameJudged_forwardLevels b l _
  have rest := push_rest .brk s
  have planner : v.planner = { s.planner with plan := none } := planner_discard_push s
  have outlet : v.outlet = s.outlet := outlet_push_brk s
  have line : (brokenLine s).line = { s.line with state := .brk, purge := none, settle := none, cooldown := none } := by
    rw [brokenLine, enterLine_line, show (flushTransit (discardPlan (push .brk s))).line = s.line from rest.1]
  have outside : (brokenLine s).line.state.granted = false := by rw [line]; rfl
  have busy : w.safePoint = false := by
    rw [same.safe]
    unfold State.safePoint
    rw [line]
    rfl
  have ends := onlyChanges_forwarded_outside b l outside
  have entered := onlyChanges_enterLine .brk v
  have pushed := onlyChanges_push .brk s
  have loss : s.sat.insertLoss.toNat ≤ v.sat.insertLoss.toNat := (work_push .brk s).undisturbed.loss
  obtain ⟨waits, paid⟩ := waits_enterBrk loss
  rw [outlet, planner] at waits
  exact
    { line := (ends .line (by simp)).trans line
      supervisor := (ends .supervisor (by simp)).trans
        ((enterLine_supervisor .brk v).trans (congrArg (Supervisor.entered .brk) rest.2.2))
      transit := (ends .transit (by simp)).trans (enterLine_transit .brk v)
      store := by
        have kept : w.store = s.store := same.store.trans ((entered .store (by simp)).trans (pushed .store (by simp)))
        rw [store_finish (by rwa [same.line]), storeAtEnd_kept (.inr busy), kept]
      params := by
        have kept : (brokenLine s).params = s.params :=
          congrArg Agent.params ((entered .agent (by simp)).trans (pushed .agent (by simp)))
        exact (params_finish w).trans (same.agent.trans kept)
      planner := by
        rw [ends .planner (by simp), brokenLine, enterLine_planner, if_neg (by nofun),
          show (flushTransit (discardPlan (push .brk s))).planner = _ from planner]
      grant := waits.forwarded rfl paid outside b l
      stack := (ends .stack (by simp)).trans (enterLine_stack .brk v) }

/-! ### A FLAME (R133, R173, R174) -/

theorem flameMissed_iff {z : Zone} {s : State} : flameMissed z s = true ↔ graceStarts z s := by
  simp [flameMissed, and_assoc]

/-- A FLAME that goes INACTIVE with no grace to start leaves the part as it is (R173). -/
theorem superviseFlame_lost {z : Zone} {s : State} (h : ¬ graceStarts z s) : superviseFlame z false s = s := by
  have missed : flameMissed z s = false := by rwa [← Bool.not_eq_true, flameMissed_iff]
  simp [superviseFlame, missed]

theorem superviseFlame_grace {z : Zone} {s : State} (h : graceStarts z s) :
    superviseFlame z false s =
      if s.params.flameGrace = 0 then trip .flameFail s else setGrace z (some s.params.flameGrace) s := by
  simp [superviseFlame, flameMissed_iff.mpr h]

theorem superviseFlame_closed {z : Zone} {s : State} (h : s.line.state.permitClosed = true) :
    superviseFlame z true s = setGrace z none s := by
  show (if (setGrace z none s).line.state.permitClosed then _ else _) = _
  exact if_pos h

theorem superviseFlame_open {z : Zone} {s : State} (h : s.line.state.permitClosed = false) :
    superviseFlame z true s = trip .flameUnexpected (setGrace z none s) := by
  show (if (setGrace z none s).line.state.permitClosed then _ else _) = _
  exact if_neg (by simpa [setGrace] using h)

/-- A trip in COLD and LOCKOUT leaves the supervisor, and elsewhere no grace runs after it. -/
theorem grace_trip {z : Zone} (x : FaultCode) {s : State} (h : s.supervisor.grace.get z = none) :
    (trip x s).supervisor.grace.get z = none := by
  by_cases idle : s.line.state = .cold ∨ s.line.state = .lockout
  · rw [trip_idle x idle]
    exact h
  · rw [trip_away x idle, enterLine_supervisor]
    cases z <;> rfl

/-- R130's table gives the demand that the loop computes. -/
theorem dueBurner_eq (z : Zone) (s : State) :
    dueBurner z s = burnerDemand s.loopParams s.line.state (s.zones.get z) := by
  by_cases controlled : s.line.state.controlled = true
  · rw [burnerDemand_controlled _ controlled]
    exact if_pos controlled
  · obtain ⟨_, _, brk, off⟩ := burnerDemand_cases s.loopParams s.line.state (s.zones.get z)
    refine (if_neg controlled).trans ?_
    by_cases broken : s.line.state = .brk
    · exact (if_pos broken).trans (brk broken).symm
    · exact (if_neg broken).trans (off controlled broken).symm

/-- The loop's burner demand where the zone is proven: R130's table makes no difference between an IGNITING and a PROVEN zone. -/
theorem burner_flameProven {z : Zone} {s : State} (igniting : (s.zones.get z).ignition = .igniting)
    (due : (s.zones.get z).burner = dueBurner z s) :
    ((s.zones.get z).flameProven s.loopParams s.line.state).burner = (s.zones.get z).burner := by
  rw [due, dueBurner_eq, ZoneRec.flameProven, if_pos igniting]
  cases state : s.line.state <;> simp [ZoneRec.withBurner, burnerDemand, igniting]

/-- What a FLAME going INACTIVE leaves (R173). -/
structure FlameLost (z : Zone) (s t : State) : Prop where
  kept : ¬ graceStarts z s → t.supervisor = s.supervisor ∧ t.line = s.line
  grace : graceStarts z s → s.params.flameGrace ≠ 0 → t.line = s.line ∧
    t.supervisor = { s.supervisor with grace := s.supervisor.grace.set z (some s.params.flameGrace) }
  tripped : graceStarts z s → s.params.flameGrace = 0 →
    t.line.state = .lockout ∧ t.faults.pending &&& FaultCode.flameFail.bit ≠ 0

theorem flameLost_forwarded (z : Zone) (b : Bool) (l : List Nat) {s : State} (settled : storeSettled s = true) :
    FlameLost z s (finish (forwardLevels b l (superviseFlame z false s))) where
  kept unmet := by
    rw [superviseFlame_lost unmet]
    have ends := onlyChanges_forwarded b l settled
    exact ⟨ends .supervisor (by simp), ends .line (by simp)⟩
  grace starts running := by
    rw [superviseFlame_grace starts, if_neg running]
    have ends := onlyChanges_forwarded b l (s := setGrace z (some s.params.flameGrace) s) settled
    exact ⟨ends .line (by simp), ends .supervisor (by simp)⟩
  tripped starts zero := by
    have warm : s.line.state ≠ .cold := fun cold => by
      obtain ⟨_, _, closed, _⟩ := starts
      rw [cold] at closed
      cases closed
    rw [superviseFlame_grace starts, if_pos zero]
    have ends := onlyChanges_forwarded_outside b l (trip_outside .flameFail s)
    refine ⟨?_, pending_forwarded b l (raised_trip .flameFail s)⟩
    rw [ends .line (by simp)]
    exact trip_locks .flameFail warm

/-- What a FLAME going ACTIVE leaves (R133, R174). -/
structure FlameSeen (z : Zone) (s t : State) : Prop where
  grace : t.supervisor.grace.get z = none
  closed : s.line.state.permitClosed = true → t.line = s.line ∧
    t.supervisor = { s.supervisor with grace := s.supervisor.grace.set z none } ∧
    ((s.zones.get z).ignition = .igniting →
      (t.zones.get z).ignition = .proven ∧ (t.zones.get z).ignitionTimer = none ∧
      ((s.zones.get z).burner = dueBurner z s → (t.zones.get z).burner = (s.zones.get z).burner))
  opened : s.line.state.permitClosed = false → t.faults.pending &&& FaultCode.flameUnexpected.bit ≠ 0 ∧
    (s.line.state = .purge ∨ s.line.state = .cooldown → t.line.state = .lockout) ∧
    (s.line.state = .cold ∨ s.line.state = .lockout → t.line = s.line)

theorem flameSeen_closed (z : Zone) (b : Bool) (l : List Nat) {s : State} (settled : storeSettled s = true)
    (permit : s.line.state.permitClosed = true) :
    FlameSeen z s (finish (forwardLevels b l (proveZone z (superviseFlame z true s)))) := by
  rw [superviseFlame_closed permit]
  let v := proveZone z (setGrace z none s)
  have ends := onlyChanges_forwarded b l (s := v) settled
  have supervisor : v.supervisor = { s.supervisor with grace := s.supervisor.grace.set z none } := rfl
  have zone : v.zones.get z = (s.zones.get z).flameProven s.loopParams s.line.state := by
    show (s.zones.set z _).get z = _
    rw [PerZone.get_set, if_pos rfl]
    rfl
  refine ⟨?_, fun _ => ⟨ends .line (by simp), (ends .supervisor (by simp)).trans supervisor, fun igniting => ?_⟩,
    fun opened => Bool.noConfusion (permit.symm.trans opened)⟩
  · rw [ends .supervisor (by simp), supervisor]
    exact (PerZone.get_set _ z z none).trans (if_pos rfl)
  · rw [ends .zones (by simp), zone]
    refine ⟨?_, ?_, burner_flameProven igniting⟩ <;> rw [ZoneRec.flameProven, if_pos igniting] <;> rfl

theorem flameSeen_opened (z : Zone) (b : Bool) (l : List Nat) {s : State} (opened : s.line.state.permitClosed = false) :
    FlameSeen z s (finish (forwardLevels b l (proveZone z (superviseFlame z true s)))) := by
  rw [superviseFlame_open opened]
  let u := setGrace z none s
  have outside : (proveZone z (trip .flameUnexpected u)).line.state.granted = false := trip_outside .flameUnexpected u
  have ends := onlyChanges_forwarded_outside b l outside
  have stopped : u.supervisor.grace.get z = none := (PerZone.get_set _ z z none).trans (if_pos rfl)
  refine ⟨?_, fun closed => Bool.noConfusion (opened.symm.trans closed), fun _ => ⟨?_, fun running => ?_, fun idle => ?_⟩⟩
  · rw [ends .supervisor (by simp)]
    exact grace_trip .flameUnexpected stopped
  · exact pending_forwarded b l (s := proveZone z (trip .flameUnexpected u)) (raised_trip .flameUnexpected u)
  · rw [ends .line (by simp)]
    exact trip_locks (s := u) .flameUnexpected fun cold => by
      rcases running with h | h <;> exact LineState.noConfusion (h.symm.trans cold)
  · rw [ends .line (by simp)]
    show (trip .flameUnexpected u).line = s.line
    rw [trip_idle .flameUnexpected (s := u) idle]
    rfl

theorem flameSeen_forwarded (z : Zone) (b : Bool) (l : List Nat) {s : State} (settled : storeSettled s = true) :
    FlameSeen z s (finish (forwardLevels b l (proveZone z (superviseFlame z true s)))) := by
  cases permit : s.line.state.permitClosed with
  | true => exact flameSeen_closed z b l settled permit
  | false => exact flameSeen_opened z b l permit

/-! ### An AIRFLOW (R79, R175) -/

theorem purgeTested_away {s : State} (h : s.line.state ≠ .purge) : purgeTested s = s := if_neg h

theorem onlyChanges_purgeTested (s : State) : OnlyChanges [.line] s (purgeTested s) := by
  unfold purgeTested
  split
  · exact onlyChanges_withLine s _
  · exact (onlyChanges_refl s).mono (by simp)

theorem state_purgeTested (s : State) : (purgeTested s).line.state = s.line.state := by
  unfold purgeTested
  split <;> rfl

/-- The purge test moves no safe point. -/
theorem storeSettled_purgeTested (s : State) : storeSettled (purgeTested s) = storeSettled s := by
  unfold purgeTested
  split <;> rfl

/-- The conditions read the line state alone of what the purge test could change. -/
theorem faultsSettled_purgeTested (s : State) : faultsSettled (purgeTested s) = faultsSettled s := by
  unfold purgeTested
  split
  · have mask : (purgeJudged s).conditionMask = s.conditionMask := faultMask_congr fun x => by cases x <;> rfl
    unfold faultsSettled
    rw [mask]
    rfl
  · rfl

/-- In PURGE the test starts the timer where every present zone has its airflow, and stops it elsewhere (R79). -/
theorem purge_purgeTested {s : State} (purge : s.line.state = .purge) :
    ((∀ y, s.present y = true → s.confirmedOf (.airflow y) = some .active) →
      (purgeTested s).line.purge = some (s.line.purge.getD (seconds s.params.purgeTime))) ∧
    ((∃ y, s.present y = true ∧ s.confirmedOf (.airflow y) ≠ some .active) → (purgeTested s).line.purge = none) := by
  have tested : (purgeTested s).line.purge =
      if s.purgeTest then (if s.line.purge.isNone then some (seconds s.params.purgeTime) else s.line.purge) else none :=
    congrArg (fun u : State => u.line.purge) (if_pos purge)
  rw [tested]
  refine ⟨fun all => ?_, fun ⟨y, present, lost⟩ => if_neg fun test => lost (purgeTest_iff.mp test y present)⟩
  rw [if_pos (purgeTest_iff.mpr all)]
  cases s.line.purge <;> rfl

/-- The supervisor acts on an AIRFLOW that a present zone loses where the permit is closed, and in COOLDOWN (R175). -/
theorem superviseAirflow_idle {z : Zone} {b : Bool} {s : State}
    (h : b = true ∨ s.present z = false ∨ (s.line.state.permitClosed = false ∧ s.line.state ≠ .cooldown)) :
    superviseAirflow z b s = s := by
  unfold superviseAirflow
  rcases h with rfl | absent | ⟨opened, away⟩
  · rfl
  · rw [absent, Bool.not_false, Bool.or_true, if_pos rfl]
  · rw [if_neg (by simp [opened] : ¬ s.line.state.permitClosed = true), if_neg away, ite_self]

theorem superviseAirflow_trips {z : Zone} {s : State} (present : s.present z = true)
    (closed : s.line.state.permitClosed = true) : superviseAirflow z false s = trip .airflowLoss s := by
  simp [superviseAirflow, present, closed]

theorem superviseAirflow_raises {z : Zone} {s : State} (present : s.present z = true) (cooling : s.line.state = .cooldown) :
    superviseAirflow z false s = raiseFault .airflowLoss s := by
  simp [superviseAirflow, present, cooling, LineState.permitClosed]

/-- What an AIRFLOW transition leaves. -/
structure AirflowMoved (z : Zone) (b : Bool) (s t : State) : Prop where
  idle : b = true ∨ s.present z = false → t.supervisor = s.supervisor ∧ t.line.state = s.line.state
  raised : b = false → s.present z = true → s.line.state.permitClosed = true ∨ s.line.state = .cooldown →
    t.faults.pending &&& FaultCode.airflowLoss.bit ≠ 0
  tripped : b = false → s.present z = true → s.line.state.permitClosed = true → t.line.state = .lockout
  cooling : b = false → s.present z = true → s.line.state = .cooldown → t.line = s.line
  quiet : s.line.state = .cold ∨ s.line.state = .purge ∨ s.line.state = .lockout → faultsSettled s = true →
    t.faults = s.faults ∧ t.line.state = s.line.state
  tested : s.line.state = .purge →
    ((∀ y, s.present y = true → t.confirmedOf (.airflow y) = some .active) →
      t.line.purge = some (s.line.purge.getD (seconds s.params.purgeTime))) ∧
    ((∃ y, s.present y = true ∧ t.confirmedOf (.airflow y) ≠ some .active) → t.line.purge = none)

/-- The states in which an AIRFLOW transition changes neither the line state nor the fault entries. -/
theorem airflow_ignored {l : LineState} (h : l = .cold ∨ l = .purge ∨ l = .lockout) :
    l.permitClosed = false ∧ l ≠ .cooldown := by
  rcases h with rfl | rfl | rfl <;> exact ⟨rfl, nofun⟩

theorem airflowMoved_forwarded (z : Zone) (b : Bool) (l : List Nat) {s : State} (settled : storeSettled s = true) :
    AirflowMoved z b s (finish (forwardLevels b l (purgeTested (superviseAirflow z b s)))) := by
  have store : storeSettled (purgeTested s) = true := (storeSettled_purgeTested s).trans settled
  have ends := onlyChanges_forwarded b l store
  have state : (finish (forwardLevels b l (purgeTested s))).line.state = s.line.state :=
    (congrArg Line.state (ends .line (by simp))).trans (state_purgeTested s)
  refine ⟨fun idle => ?_, fun lost present watched => ?_, fun lost present closed => ?_, fun lost present cooling => ?_,
    fun away faults => ?_, fun purge => ?_⟩
  · rw [superviseAirflow_idle (idle.imp_right .inl)]
    exact ⟨(ends .supervisor (by simp)).trans (onlyChanges_purgeTested s .supervisor (by simp)), state⟩
  · subst lost
    have raised : Raised .airflowLoss (superviseAirflow z false s).faults := by
      rcases watched with closed | cooling
      · rw [superviseAirflow_trips present closed]
        exact raised_trip _ s
      · rw [superviseAirflow_raises present cooling]
        exact raised_raiseFault _ s
    rw [← onlyChanges_purgeTested _ .faults (by simp)] at raised
    exact pending_forwarded false l raised
  · subst lost
    have warm : s.line.state ≠ .cold := fun cold => by rw [cold] at closed; cases closed
    have locked := trip_locks .airflowLoss warm
    rw [superviseAirflow_trips present closed, purgeTested_away (by rw [locked]; nofun),
      onlyChanges_forwarded_outside false l (trip_outside .airflowLoss s) .line (by simp)]
    exact locked
  · subst lost
    have away : (raiseFault .airflowLoss s).line.state ≠ .purge := fun purge =>
      LineState.noConfusion (cooling.symm.trans purge)
    rw [superviseAirflow_raises present cooling, purgeTested_away away]
    exact onlyChanges_forwarded false l (s := raiseFault .airflowLoss s) settled .line (by simp)
  · rw [superviseAirflow_idle (.inr (.inr (airflow_ignored away)))]
    have same := sameJudged_forwardLevels b l (purgeTested s)
    refine ⟨?_, state⟩
    calc (finish (forwardLevels b l (purgeTested s))).faults = (forwardLevels b l (purgeTested s)).faults :=
          faults_finish (same.store_settled.trans store)
            (same.faults_settled.trans ((faultsSettled_purgeTested s).trans faults))
      _ = s.faults := same.faults.trans (onlyChanges_purgeTested s .faults (by simp))
  · rw [superviseAirflow_idle (.inr (.inr (airflow_ignored (.inr (.inl purge)))))]
    have confirmed (y : Zone) : (finish (forwardLevels b l (purgeTested s))).confirmedOf (.airflow y) =
        s.confirmedOf (.airflow y) := by
      rw [confirmedOf_forwarded b l _ store]
      unfold State.confirmedOf State.roleChannel
      rw [onlyChanges_purgeTested s .channels (by simp)]
    have line : (finish (forwardLevels b l (purgeTested s))).line = (purgeTested s).line := ends .line (by simp)
    simp only [confirmed, line]
    exact purge_purgeTested purge

/-! ### The confirm timer's expiry (R31) -/

/-- The level record after a confirm timer has run out on a raw level. -/
def LevelRec.settledOn (raw activeHigh : Bool) : LevelRec :=
  { raw := some raw, confirmed := if raw = activeHigh then .active else .inactive, timer := none }

/-- Whatever the transition does, the entry keeps its other fields and carries the settled level. -/
theorem entry_settled {ch : Nat} {s : State} {e : Entry} (he : s.entry ch = some e) (old new : LevelRec) : ∃ d,
    (finish (changeLevel ch e old new s)).entry ch = some { e with level := some new, drive := d } := by
  have written := entry_withEntry (k := ch) (e := { e with level := some new })
    (he ▸ rfl : (s.entry ch).isSome = true)
  rw [if_pos rfl] at written
  have work := ((work_changeLevel ch e old new s).trans (work_finish _)).undisturbed
  obtain ⟨d, there, _⟩ := work.entry _ _ written
  exact ⟨d, there⟩

theorem exec_confirmTimer {ch : Byte} {s : State} {e : Entry} {r : LevelRec} {raw : Bool} (he : s.entry ch.toNat = some e)
    (hr : e.level = some r) (due : r.timer = some 0) (level : r.raw = some raw) :
    exec (.confirmTimerExpiry ch) s = .next (finish (changeLevel ch.toNat e r (.settledOn raw e.activeHigh) s)) := by
  have found : confirmDue s ch.toNat = some (e, r) := by
    unfold confirmDue
    rw [he]
    dsimp only
    rw [hr]
    dsimp only
    rw [if_pos (by rw [due]; rfl)]
  have expired : r.expired e.activeHigh = .settledOn raw e.activeHigh := by
    unfold LevelRec.expired
    rw [level]
    rfl
  show Host.Outcome.next (whenDue (confirmDue s ch.toNat).isSome (confirmWork ch.toNat) s) = _
  rw [whenDue_due (by rw [found]; rfl), confirmWork, found]
  dsimp only
  rw [expired]

theorem settledOn_known (raw activeHigh : Bool) : (LevelRec.settledOn raw activeHigh).confirmed ≠ .unknown := by
  unfold LevelRec.settledOn
  dsimp only
  split <;> nofun

/-- The grace that a lost FLAME starts reads no FLAME channel. -/
theorem graceStarts_leveled {ch : Nat} {e : Entry} {new : LevelRec} {s : State} {z : Zone} (he : s.entry ch = some e)
    (role : e.role = .flame z) : graceStarts z (leveled ch e new s) ↔ graceStarts z s := by
  have sent : (leveled ch e new s).sentDemand (.burner z) = s.sentDemand (.burner z) :=
    sentDemand_leveled he (by rw [role]; nofun)
  unfold graceStarts
  rw [sent]
  rfl

/-- Settles O16, role by role: what the transition of a settled level does, and what the event's end leaves of it. -/
theorem confirmTimersSettleTheLevel : Obligations.ConfirmTimersSettleTheLevel := by
  intro ch s e r raw he hr due level points k
  let new := LevelRec.settledOn raw e.activeHigh
  let u := leveled ch.toNat e new s
  obtain ⟨d, there⟩ := entry_settled he r new
  have moves (moved : points ≠ r.confirmed) (first : ¬ (r.confirmed = .unknown ∧ points = .inactive)) :
      changeLevel ch.toNat e r new s =
        forwardLevels (points == .active) e.forward (reportTransition e.role (points == .active) u) :=
    changeLevel_moved (transitionOf_some (settledOn_known raw e.activeHigh) moved first)
  have rises (active : points = .active) (before : r.confirmed ≠ .active) :
      changeLevel ch.toNat e r new s = forwardLevels true e.forward (reportTransition e.role true u) := by
    have moved := moves (active ▸ before.symm) (by rw [active]; nofun)
    rwa [active] at moved
  have falls (inactive : points = .inactive) (before : r.confirmed = .active) :
      changeLevel ch.toNat e r new s = forwardLevels false e.forward (reportTransition e.role false u) := by
    have moved := moves (by rw [inactive, before]; nofun) (by rw [before]; nofun)
    rwa [inactive] at moved
  refine ⟨_, _, exec_confirmTimer he hr due level, there, rfl, ?_, ?_, ?_, ?_, ?_⟩
  · intro role rest busy room
    have idle := finish_atRest (atRest_leveled_forward (new := new) he role rest)
    have only := onlyChanges_leveled ch.toNat e new s
    by_cases still : points = r.confirmed ∨ r.confirmed = .unknown ∧ points = .inactive
    · have unmoved : changeLevel ch.toNat e r new s = u := changeLevel_unmoved (transitionOf_none still)
      rw [unmoved, idle]
      refine ⟨only.mono (by simp), fun _ => rfl, fun moved first => ?_⟩
      exact absurd still (not_or.mpr ⟨moved, first⟩)
    · obtain ⟨moved, first⟩ := not_or.mp still
      have reported : reportTransition e.role (points == .active) u = u := by rw [role]; rfl
      rw [moves moved first, reported, finish_forwarded he role rest _ busy room]
      exact ⟨(only.trans (onlyChanges_withOutlet _ _)).mono (by simp), fun k => absurd k still, fun _ _ => rfl⟩
  · intro _ d role active before
    have reported : reportTransition e.role true u = webBreak u := by rw [role]; rfl
    rw [rises active before, reported]
    refine ⟨pending_forwarded true e.forward (raised_webBreak u), fun outside => ?_, fun granted => ?_⟩
    · rw [webBreak_outside (s := u) outside]
      have ends := onlyChanges_forwarded_outside true e.forward (s := raiseFault .webBreak u) outside
      exact ⟨ends .line (by simp), ends .planner (by simp), ends .stack (by simp), ends .supervisor (by simp)⟩
    · rw [webBreak_granted (s := u) granted]
      have broken := broken_forwarded true e.forward (raiseFault .webBreak u)
      refine ⟨broken.line, broken.supervisor, broken.transit, broken.store, broken.params, broken.planner, broken.grant,
        fun unbroken depth => ?_⟩
      rw [broken.stack]
      exact stack_push_brk (s := raiseFault .webBreak u) granted unbroken depth
  · intro rest z role inactive before
    have reported : reportTransition e.role false u = superviseFlame z false u := by rw [role]; rfl
    rw [falls inactive before, reported]
    have lost := flameLost_forwarded z false e.forward (s := u) (atRest_iff.mp rest).2.1
    have same := graceStarts_leveled (new := new) he role
    exact ⟨fun unmet => lost.kept (mt same.mp unmet), fun starts => lost.grace (same.mpr starts),
      fun starts => lost.tripped (same.mpr starts)⟩
  · intro rest z role active before
    have reported : reportTransition e.role true u = proveZone z (superviseFlame z true u) := by rw [role]; rfl
    rw [rises active before, reported]
    have seen := flameSeen_forwarded z true e.forward (s := u) (atRest_iff.mp rest).2.1
    exact ⟨seen.grace, seen.closed, seen.opened⟩
  · intro rest z role moved first
    have reported : reportTransition e.role (points == .active) u = purgeTested (superviseAirflow z (points == .active) u) := by
      rw [role]; rfl
    rw [moves moved first, reported]
    obtain ⟨_, store, faults, _, _⟩ := atRest_iff.mp rest
    have shown := airflowMoved_forwarded z (points == .active) e.forward (s := u) store
    have lost (inactive : points = .inactive) : (points == .active) = false := by rw [inactive]; rfl
    have mask (away : s.line.state = .cold ∨ s.line.state = .purge ∨ s.line.state = .lockout) : faultsSettled u = true := by
      unfold faultsSettled at faults ⊢
      rw [conditionMask_leveled he (by simp [role]) (by simp [role]) (.inr (airflow_ignored away))]
      exact faults
    refine ⟨fun idle => shown.idle (idle.imp_left fun active => beq_iff_eq.mpr active), fun inactive present => ?_,
      shown.tested⟩
    exact ⟨shown.raised (lost inactive) present, shown.tripped (lost inactive) present, shown.cooling (lost inactive) present,
      fun away => shown.quiet away (mask away)⟩

end Sys2Proof.Machine

/-!
SUPPORT. The speed tracker, reading by reading: what a reading is handled as, and the record that each state keeps of it.
-/

namespace Sys2Proof.Machine

-- One proof after the other: side by side with the text above, their threads need more memory than the check allows.
set_option Elab.async false

theorem near_iff {a b n : Int} : near a b n = true ↔ |a - b| ≤ n := by
  unfold near
  rw [decide_eq_true_eq, Int.abs_eq_natAbs]

/-! ### What a reading is handled as (R44) -/

section handled

variable {k : Tracker} {v : Int} {quality : Byte}

theorem reading_good (good : quality = 0 ∧ 0 ≤ v ∧ v ≤ 1200) : k.reading v quality.toNat = k.good v := by
  obtain ⟨rfl, low, high⟩ := good
  have handled : handledQuality 0 1200 v (0 : Byte).toNat = 0 := if_neg (by omega)
  unfold Tracker.reading
  rw [handled]
  rfl

/-- A SUSPECT reading, and one out of range, is handled as SUSPECT. -/
theorem reading_suspect (low : quality.toNat ≤ 1) (bad : ¬ (quality = 0 ∧ 0 ≤ v ∧ v ≤ 1200)) :
    k.reading v quality.toNat = (k.suspect, .quiet) := by
  have handled : handledQuality 0 1200 v quality.toNat = 1 := by
    unfold handledQuality
    split
    · rfl
    · rename_i inside
      have nonzero : quality.toNat ≠ 0 := fun zero => bad ⟨BitVec.eq_of_toNat_eq zero, by omega, by omega⟩
      omega
  unfold Tracker.reading
  rw [handled]
  rfl

end handled

/-! ### The record that each state keeps (R45 to R47) -/

section record

variable {k : Tracker} {v : Int}

theorem good_of_unusable (h : k.state = .noSpeed ∨ k.state = .lost) : k.good v = (k.acquire v, .quiet) := by
  unfold Tracker.good
  rcases h with h | h <;> rw [h]

theorem good_of_acquiring (h : k.state = .acquiring) : k.good v = k.count4 v := by
  unfold Tracker.good
  rw [h]

theorem good_of_usable (h : k.state = .locked ∨ k.state = .stale) : k.good v = k.compare v := by
  unfold Tracker.good
  rcases h with h | h <;> rw [h]

/-- The acquisition's test of a reading against its predecessor (R46). -/
abbrev agreesWith (v : Int) (k : Tracker) : Prop := ∃ p, k.predecessor = some p ∧ |v - p| ≤ max 5 (p * 2 / 100)

/-- Whether a reading agrees with its predecessor, as the tracker tests it. -/
def Tracker.agrees (v : Int) (k : Tracker) : Bool := (k.predecessor.map fun p => near v p (agreeTolerance p)).getD false

theorem agrees_iff : k.agrees v = true ↔ agreesWith v k := by
  unfold Tracker.agrees agreesWith
  cases k.predecessor with
  | none => simp
  | some p => simp [near_iff, agreeTolerance]

theorem count4_eq :
    k.count4 v =
      let n := if k.agrees v then k.count + 1 else 1
      if n = 4 then
        ({ k with state := .locked, speed := v, predecessor := none, count := 0, rejections := 0, age := some 0 }, .locked)
      else ({ k with count := n, predecessor := some v, age := some 0 }, .quiet) := by
  unfold Tracker.count4 Tracker.agrees
  cases k.predecessor <;> rfl

theorem count4_disagrees (h : ¬ agreesWith v k) :
    k.count4 v = ({ k with count := 1, predecessor := some v, age := some 0 }, .quiet) := by
  rw [count4_eq, Bool.eq_false_iff.mpr (mt agrees_iff.mp h)]
  rfl

theorem count4_agrees (h : agreesWith v k) :
    k.count4 v =
      if k.count = 3 then
        ({ k with state := .locked, speed := v, predecessor := none, count := 0, rejections := 0, age := some 0 }, .locked)
      else ({ k with count := k.count + 1, predecessor := some v, age := some 0 }, .quiet) := by
  rw [count4_eq, agrees_iff.mpr h]
  simp only [if_true, Nat.reduceEqDiff]

theorem compare_taken (h : |v - k.speed| ≤ max 20 (k.speed * 10 / 100)) :
    k.compare v =
      ({ k with state := .locked, speed := v, rejections := 0, age := some 0 }, if k.state = .stale then .locked else .taken) :=
  if_pos (near_iff.mpr h)

theorem compare_rejected (h : ¬ |v - k.speed| ≤ max 20 (k.speed * 10 / 100)) :
    k.compare v =
      if k.rejections = 2 then (k.acquire v, .lost) else ({ k with rejections := k.rejections + 1 }, .quiet) := by
  have off : ¬ near v k.speed (lockTolerance k.speed) = true := mt near_iff.mp h
  unfold Tracker.compare
  rw [if_neg off]
  simp only [Nat.reduceEqDiff]

theorem suspect_of_acquiring (h : k.state = .acquiring) : k.suspect = { k with count := 0, predecessor := none } := by
  unfold Tracker.suspect
  rw [h]

theorem suspect_of_other (h : k.state ≠ .acquiring) : k.suspect = k := by
  unfold Tracker.suspect
  split
  · exact absurd ‹_› h
  all_goals rfl

end record

/-! ### The event of a speed reading -/

/-- The part as the tracker finds it: a reading that is out of range is counted (R44). -/
def speedCounted (v : Int) (q : Nat) (s : State) : State := if outOfRange 0 1200 v q then countKindMismatch s else s

theorem onlyChanges_speedCounted (v : Int) (q : Nat) (s : State) : OnlyChanges [.sat] s (speedCounted v q s) := by
  unfold speedCounted
  split
  · exact onlyChanges_withSat s _
  · exact (onlyChanges_refl s).mono (by simp)

theorem exec_speedReading {src dst ch quality : Byte} {value : Half} {s : State} (passes : Passes src s)
    (role : HoldsRole ch .speed s) (low : quality.toNat ≤ 1) :
    exec (.reading src dst ch value quality) s =
      .next (finish (trackerStep (s.tracker.reading value.toInt quality.toNat)
        (speedCounted value.toInt quality.toNat (heard src dst ch value quality s)))) := by
  have event := exec_reading (dst := dst) (ch := ch) (value := value) passes (Nat.le_succ_of_le low)
  rw [routeReading_speed (role.joined _)] at event
  have tracker : (speedCounted value.toInt quality.toNat (heard src dst ch value quality s)).tracker = s.tracker :=
    (onlyChanges_speedCounted _ _ _ .tracker (by simp)).trans (sameJudged_heard src dst ch quality value s).tracker
  rw [← tracker]
  exact event

end Sys2Proof.Machine

/-!
SUPPORT. A plan with no GRANT step ahead, run to where it waits or to its completion, which in RUN may return the line to READY;
and the stack's records over such a run.
-/

namespace Sys2Proof.Machine

-- One proof after the other: side by side with the text above, their threads need more memory than the check allows.
set_option Elab.async false

/-! ### The stack is not emptied (R152) -/

/-- A stack that holds a record holds one still. -/
def KeepsRecord (s t : State) : Prop := s.stack ≠ [] → t.stack ≠ []

theorem keepsRecord_of_same {s t : State} (h : t.stack = s.stack) : KeepsRecord s t := fun stands => h ▸ stands

theorem KeepsRecord.trans {s t u : State} (h : KeepsRecord s t) (k : KeepsRecord t u) : KeepsRecord s u :=
  fun stands => k (h stands)

theorem KeepsRecord.ite {s t u : State} {c : Prop} [Decidable c] (h : KeepsRecord s t) (k : KeepsRecord s u) :
    KeepsRecord s (if c then t else u) := by split <;> assumption

/-- A push refused leaves the stack, and any other leaves a record in it. -/
theorem keepsRecord_push (c : Cause) (s : State) : KeepsRecord s (push c s) := by
  cases refused : pushRefused c s.line.state with
  | true => exact keepsRecord_of_same (congrArg State.stack (push_of_refused (.inl refused)))
  | false => exact fun _ => stack_push_ne_nil refused

theorem keepsRecord_enterRun (s : State) : KeepsRecord s (enterRun s) := by
  have entered : KeepsRecord s (enterLine .run s) := keepsRecord_of_same (enterLine_stack .run s)
  have lost (u : State) : KeepsRecord u (speedLost u) := keepsRecord_push .speedLost (raiseFault .speedLost u)
  have same (u : State) : KeepsRecord u u := keepsRecord_of_same rfl
  exact (entered.trans ((lost _).ite (same _))).trans ((keepsRecord_push .splice _).ite (same _))

/-! ### The return to READY (R85) -/

/-- The ceiling that the return to READY leaves (R85). -/
def readyCeiling (s : State) : Int :=
  if s.stack = [] then (s.params.crawlSpeed : Int) else min s.params.crawlSpeed s.planner.ceiling

/-- What the return to READY leaves; a MASTER_LOST record may join the stack. -/
structure BackInReady (s t : State) : Prop where
  state : t.line.state = .ready
  grantRow : t.planner.grantRow = some 0
  ceiling : t.planner.ceiling = readyCeiling s
  target : t.planner.target = s.planner.target
  record : KeepsRecord s t

theorem backInReady_readyFromRun (s : State) : BackInReady s (readyFromRun s) := by
  let e := enterLine .ready s
  let u := e.withPlanner { e.planner with ceiling := readyCeiling s, grantRow := some 0 }
  let v := sendUnasked (if readyCeiling s < s.planner.ceiling then .held else .granted) u
  have entered : readyFromRun s = masterAtReady v := by
    have ceiling : (if e.stack.isEmpty then (e.params.crawlSpeed : Int) else min e.params.crawlSpeed s.planner.ceiling) =
        readyCeiling s := by
      rw [show e.stack = s.stack from enterLine_stack .ready s,
        show e.params = s.params from (steady_enterLine .ready s).sameTables.params]
      simp only [readyCeiling, List.isEmpty_iff]
    unfold readyFromRun
    dsimp only
    rw [ceiling]
  have sent : Calm u v := calm_sendUnasked _ u
  have line : v.line.state = .ready := by
    rw [sent.line, show u.line = e.line from rfl, enterLine_line]
  have planner : v.planner = { s.planner with ceiling := readyCeiling s, grantRow := some 0 } := by
    rw [sent.planner]
    show { e.planner with ceiling := readyCeiling s, grantRow := some 0 } = _
    rw [enterLine_planner]
    rfl
  have stack : KeepsRecord s v := keepsRecord_of_same (sent.stack.trans (enterLine_stack .ready s))
  rw [entered]
  unfold masterAtReady
  split
  · have pushed := push_masterLost_planner v
    refine ⟨by rw [(push_rest .masterLost v).1, line], ?_, ?_, ?_, stack.trans (keepsRecord_push _ v)⟩ <;>
      rcases pushed with h | h <;> rw [h, planner]
  · exact ⟨line, by rw [planner], by rw [planner], by rw [planner], stack⟩

/-! ### A plan with no GRANT step ahead -/

/-- From a plan's head on no step is a GRANT step. -/
def Plan.Grantless (p : Plan) : Prop := ∀ i x, p.head ≤ i → p.steps[i]? = some x → ¬ x.grants

theorem Plan.Grantless.advanced {p : Plan} (h : p.Grantless) (n : Nat) : (p.advanced n).Grantless :=
  fun i x behind found => h i x (Nat.le_of_succ_le behind) (steps_advanced behind ▸ found)

/-- A plan on its way: the line, the grant, the stack and what is sent are as they were, and the plan but for its steps' status. -/
structure Underway (p q : Plan) (s t : State) : Prop extends SameGrant s t where
  stack : t.stack = s.stack
  lastTag : t.planner.lastTag = s.planner.lastTag
  params : t.params = s.params
  plan : t.planner.plan = some q
  alike : p.Alike q
  ahead : q.Grantless

theorem Underway.trans {p q r : Plan} {s t u : State} (h : Underway p q s t) (k : Underway q r t u) : Underway p r s u where
  toSameGrant := h.toSameGrant.trans k.toSameGrant
  stack := k.stack.trans h.stack
  lastTag := k.lastTag.trans h.lastTag
  params := k.params.trans h.params
  plan := k.plan
  alike := h.alike.trans k.alike
  ahead := k.ahead

theorem underway_refl {p : Plan} {s : State} (plan : s.planner.plan = some p) (ahead : p.Grantless) : Underway p p s s :=
  ⟨.refl s, rfl, rfl, rfl, plan, .refl p, ahead⟩

theorem underway_fireHead {p : Plan} {s : State} (ahead : p.Grantless) {x : PlanStep} (head : p.steps[p.head]? = some x) :
    Underway p (firedPlan p s) s (fireHead p x.kind s) where
  toSameGrant := sameGrant_fireHead (fun v j kind => ahead p.head x le_rfl head ⟨v, j, kind⟩) p s
  stack := onlyChanges_fireHead p x.kind s .stack (by simp)
  lastTag := by
    rw [fireHead_planner]
    exact (fired_keeps _ _ _ _).2.2
  params := congrArg Agent.params (onlyChanges_fireHead p x.kind s .agent (by simp))
  plan := fireHead_plan p x.kind s
  alike := alike_advanced _ p
  ahead := ahead.advanced _

/-- Where the tests of a plan's head end: at a step that waits, or with the plan's completion. -/
inductive HeadsRun (p : Plan) (s : State) : State → Prop
  | stands {q : Plan} {u : State} (way : Underway p q s u) : HeadsRun p s u
  | completes {q : Plan} {u : State} (way : Underway p q s u) : HeadsRun p s (completePlan q u)

theorem HeadsRun.after {p q : Plan} {s t u : State} (h : Underway p q s t) (k : HeadsRun q t u) : HeadsRun p s u := by
  cases k with
  | stands way => exact .stands (h.trans way)
  | completes way => exact .completes (h.trans way)

theorem headsRun_testHead (n : Nat) {p : Plan} {s : State} (plan : s.planner.plan = some p) (ahead : p.Grantless) :
    HeadsRun p s (testHead n s) := by
  induction n generalizing p s with
  | zero => exact .stands (underway_refl plan ahead)
  | succ n ih =>
    have test := headTest (n := n) plan
    generalize testHead (n + 1) s = t at test ⊢
    cases test with
    | completes => exact .completes (underway_refl plan ahead)
    | stands => exact .stands (underway_refl plan ahead)
    | waits => exact .stands ⟨⟨rfl, rfl, rfl, rfl, rfl, rfl⟩, rfl, rfl, rfl, rfl, ⟨rfl, rfl, rfl, rfl, rfl⟩, ahead⟩
    | fires x head => exact .after (underway_fireHead ahead head) (ih (fireHead_plan p x.kind s) (ahead.advanced _))

theorem headsRun_runPlan {p : Plan} {s : State} (plan : s.planner.plan = some p) (ahead : p.Grantless) :
    HeadsRun p s (runPlan s) := by
  unfold runPlan
  rw [plan]
  exact headsRun_testHead _ plan ahead

theorem speedReportToPlan_idle {s : State} (h : s.planner.plan = none) : speedReportToPlan s = s := by
  unfold speedReportToPlan
  rw [h]

/-- The planner reads a speed report with a test of the head, or not at all (R105). -/
theorem speedReportToPlan_cases (s : State) : speedReportToPlan s = s ∨ speedReportToPlan s = runPlan s := by
  unfold speedReportToPlan
  split
  · exact .inl rfl
  · split
    · exact .inr rfl
    · exact .inl rfl

theorem keepsFlags_speedReportToPlan (s : State) : KeepsFlags s (speedReportToPlan s) := by
  rcases speedReportToPlan_cases s with h | h <;> rw [h]
  · exact .refl s
  · exact keepsFlags_runPlan s

/-- The report of the speed that the crossing test has read moves the plan on once more (R50, R105). -/
theorem HeadsRun.reported {p : Plan} {s t : State} (h : HeadsRun p s t) : HeadsRun p s (speedReportToPlan t) := by
  cases h with
  | stands way =>
    rcases speedReportToPlan_cases t with same | runs
    · rw [same]
      exact .stands way
    · rw [runs]
      exact .after way (headsRun_runPlan way.plan way.ahead)
  | completes way =>
    rw [speedReportToPlan_idle (plan_completePlan _ _)]
    exact .completes way

/-! ### What such a run leaves -/

section ran

variable {p : Plan} {s t : State}

theorem completePlan_home {q : Plan} {u : State} (run : u.line.state = .run) (home : q.target = 0)
    (returns : q.ordering ≠ .raise) : completePlan q u = readyFromRun (u.withPlan none) := if_pos ⟨run, home, returns⟩

theorem completePlan_target_record (q : Plan) (u : State) :
    (completePlan q u).planner.target = u.planner.target ∧ KeepsRecord u (completePlan q u) := by
  have back := backInReady_readyFromRun (u.withPlan none)
  unfold completePlan
  dsimp only
  split
  · exact ⟨back.target, back.record⟩
  · exact ⟨rfl, keepsRecord_of_same rfl⟩

theorem HeadsRun.target (h : HeadsRun p s t) : t.planner.target = s.planner.target := by
  cases h with
  | stands way => exact way.target
  | completes way => exact (completePlan_target_record _ _).1.trans way.target

theorem HeadsRun.record (h : HeadsRun p s t) : KeepsRecord s t := by
  cases h with
  | stands way => exact keepsRecord_of_same way.stack
  | completes way => exact (keepsRecord_of_same way.stack).trans (completePlan_target_record _ _).2

theorem HeadsRun.plan (h : HeadsRun p s t) {q : Plan} (stands : t.planner.plan = some q) : p.Alike q := by
  cases h with
  | stands way =>
    cases way.plan.symm.trans stands
    exact way.alike
  | completes way => cases (plan_completePlan _ _).symm.trans stands

/-- A plan that still stands, or is not toward row 0, leaves the line and the grant. -/
theorem HeadsRun.sameGrant (h : HeadsRun p s t) (short : t.planner.plan ≠ none ∨ p.target ≠ 0) : SameGrant s t := by
  cases h with
  | stands way => exact way.toSameGrant
  | @completes q u way =>
    have away : q.target ≠ 0 := by
      rcases short with stands | away
      · exact absurd (plan_completePlan q u) stands
      · rwa [way.alike.target]
    rw [completePlan_away away]
    exact way.toSameGrant.trans ⟨rfl, rfl, rfl, rfl, rfl, rfl⟩

/-- A LOWER or ADJUST plan toward row 0 that runs through in RUN returns the line to READY (R85). -/
theorem HeadsRun.home (h : HeadsRun p s t) (gone : t.planner.plan = none) (run : s.line.state = .run) (home : p.target = 0)
    (returns : p.ordering ≠ .raise) :
    t.line.state = .ready ∧ t.planner.grantRow = some 0 ∧ t.planner.ceiling = readyCeiling s := by
  cases h with
  | stands way => cases way.plan.symm.trans gone
  | @completes q u way =>
    have back := backInReady_readyFromRun (u.withPlan none)
    rw [completePlan_home (way.line ▸ run) (way.alike.target.trans home) (way.alike.ordering ▸ returns)]
    refine ⟨back.state, back.grantRow, back.ceiling.trans ?_⟩
    show readyCeiling u = readyCeiling s
    unfold readyCeiling
    rw [way.stack, way.params, way.ceiling]

end ran

end Sys2Proof.Machine

/-!
SUPPORT. A band crossing: the plans that it puts in existence, run as far as they go, and what its event leaves; and the statement
about speed readings.
-/

namespace Sys2Proof.Machine

-- One proof after the other: side by side with the text above, their threads need more memory than the check allows.
set_option Elab.async false

/-! ### The plans of a crossing (R110, R111) -/

/-- The ADJUST plan of a crossing. -/
abbrev adjustCrossed (s : State) (j : Nat) (r : Row) : Plan := .built s .crossing .adjust none j (adjustSteps s j r)

/-- Whether a LOWER plan of a crossing has a GRANT step (R110). -/
abbrev lowersGrant (k : Planner) (j : Nat) (r : Row) : Prop := r.high < k.ceiling ∨ j < k.grantRow.getD 0

/-- The LOWER plan of a crossing. -/
abbrev lowerCrossed (s : State) (j : Nat) (r : Row) (granting : Bool) : Plan :=
  .built s .crossing .lower none j (lowerSteps s j r (min s.planner.ceiling r.high) granting)

theorem crossingLower_eq (j : Nat) (r : Row) (s : State) :
    crossingLower j r s = installPlan (lowerCrossed s j r (decide (lowersGrant s.planner j r))) s := by
  unfold lowersGrant
  rw [Bool.decide_or]
  rfl

theorem grantless_adjustCrossed (s : State) (j : Nat) (r : Row) : (adjustCrossed s j r).Grantless := by
  rintro i x _ found ⟨v, k, kind⟩
  exact grantless_adjust s s .crossing .adjust none j r _ (List.mem_map_of_mem (List.mem_of_getElem? found)) v k kind

theorem grantless_lowerCrossed (s : State) (j : Nat) (r : Row) : (lowerCrossed s j r false).Grantless :=
  fun _ _ _ found => grants_notMem_lowerSteps (List.mem_of_getElem? found)

/-- Behind its first step a LOWER plan with a GRANT step is the one without. -/
theorem grantless_lowerCrossed_advanced (s : State) (j n : Nat) (r : Row) :
    ((lowerCrossed s j r true).advanced n).Grantless := by
  intro i x behind found
  have found := (steps_advanced behind).symm.trans found
  obtain ⟨k, rfl⟩ := Nat.exists_eq_succ_of_ne_zero (Nat.ne_of_gt behind)
  have step : (lowerSteps s j r (min s.planner.ceiling r.high) true)[k + 1]? = some x := found
  rw [lowerSteps_granting, List.getElem?_cons_succ] at step
  exact grants_notMem_lowerSteps (List.mem_of_getElem? step)

/-! ### The plans put in existence -/

/-- A plan without GRANT steps put in existence: the line enters RUN, where a push may freeze the plan, and the plan runs (R84). -/
structure Begun (p q : Plan) (s u : State) : Prop where
  run : u.line.state = .run
  planner : u.planner = { s.planner with plan := some q, target := p.target }
  alike : p.Alike q
  record : KeepsRecord s u

theorem begun_installPlan {p : Plan} {s : State} (granted : s.line.state.granted = true) (ahead : p.Grantless) :
    ∃ q u, Begun p q s u ∧ HeadsRun q u (installPlan p s) := by
  let stored := s.withPlanner { s.planner with plan := some p, target := p.target }
  by_cases ready : s.line.state = .ready
  · obtain ⟨b, planner⟩ := (mayFreeze_enterRun stored).planner
    let q : Plan := { p with frozen := p.frozen || b }
    have ahead : q.Grantless := ahead
    have installs : installPlan p s = runPlan (enterRun stored) := congrArg runPlan (if_pos ready)
    have begun : Begun p q s (enterRun stored) :=
      ⟨line_enterRun stored, planner, ⟨rfl, rfl, rfl, rfl, rfl⟩, keepsRecord_enterRun stored⟩
    rw [installs]
    exact ⟨q, _, begun, headsRun_runPlan (congrArg Planner.plan planner) ahead⟩
  · have run : s.line.state = .run := by
      cases state : s.line.state
      case ready => exact absurd state ready
      case run => rfl
      all_goals rw [state] at granted; cases granted
    rw [installPlan_run run]
    exact ⟨p, stored, ⟨run, rfl, .refl p, keepsRecord_of_same rfl⟩, headsRun_testHead _ rfl ahead⟩

/-- A LOWER plan in RUN with the grant bounded under it, before its head is tested for an actuator (R110, R113). -/
structure Lowered (j : Nat) (r : Row) (p : Plan) (s e : State) : Prop where
  line : e.line = s.line
  stack : e.stack = s.stack
  params : e.params = s.params
  planner : e.planner =
    { s.planner with
      ceiling := min s.planner.ceiling r.high
      grantRow := if lowersGrant s.planner j r then some (min (s.planner.grantRow.getD j) j) else s.planner.grantRow
      target := j, plan := some p }
  alike : (lowerCrossed s j r (decide (lowersGrant s.planner j r))).Alike p
  sends : lowersGrant s.planner j r →
    WaitsOrLost (.grant s.outlet.dest.address s.planner.lastTag (min s.planner.ceiling r.high) .held) s e ∧ grantsPaid e = true

section lower

variable {j : Nat} {r : Row} {s : State} (run : s.line.state = .run)

include run

/-- Within the row's band the plan has no GRANT step. -/
theorem lowered_level (level : ¬ lowersGrant s.planner j r) : ∃ p e, Lowered j r p s e ∧ HeadsRun p e (crossingLower j r s) := by
  let p := lowerCrossed s j r false
  let e := s.withPlanner { s.planner with plan := some p, target := p.target }
  have ceiling : min s.planner.ceiling r.high = s.planner.ceiling := by
    simp only [lowersGrant, not_or, not_lt] at level
    exact min_eq_left level.1
  have planner : e.planner =
      { s.planner with
        ceiling := min s.planner.ceiling r.high
        grantRow := if lowersGrant s.planner j r then some (min (s.planner.grantRow.getD j) j) else s.planner.grantRow
        target := j, plan := some p } := by
    rw [ceiling, if_neg level]
    rfl
  rw [crossingLower_eq, decide_eq_false level, installPlan_run run]
  exact ⟨p, e, ⟨rfl, rfl, rfl, planner, decide_eq_false level ▸ .refl p,
    fun granting => absurd granting level⟩, headsRun_testHead _ rfl (grantless_lowerCrossed s j r)⟩

/-- Above the row's band, or its grant row, the plan's first step is a GRANT step that fires at once. -/
theorem lowered_below (found : s.store.active[j]? = some r) (granting : lowersGrant s.planner j r) :
    ∃ p e, Lowered j r p s e ∧ HeadsRun p e (crossingLower j r s) := by
  let p := lowerCrossed s j r true
  let v := min s.planner.ceiling r.high
  let stored := s.withPlanner { s.planner with plan := some p, target := j }
  let fired := stored.withPlan (some (firedPlan p stored))
  let bounded := fired.withPlanner
    { fired.planner with ceiling := v, grantRow := some (min (s.planner.grantRow.getD j) j) }
  let e := fireHead p (.grant v j) stored
  have first : p.steps[p.head]? = some (.waiting (.grant v j) (.after 0)) := by
    rw [show p.steps = .waiting (.grant v j) (.after 0) :: lowerSteps s j r v false from lowerSteps_granting s j r v]
    rfl
  have tested : testHead (p.steps.length + 1) stored = testHead p.steps.length e := by
    have test := headTest (n := p.steps.length) (p := p) (s := stored) rfl
    generalize testHead (p.steps.length + 1) stored = t at test ⊢
    cases test with
    | completes left => cases left.symm.trans first
    | stands _ _ frozen => cases frozen
    | fires y head =>
      cases head.symm.trans first
      rfl
    | waits y head _ fails =>
      cases head.symm.trans first
      simp [testTrigger, tenthsMs, PlanStep.waiting] at fails
  have sent : e = followDrives (sendUnasked .held bounded) := by
    have high : (match s.store.active[j]? with | some b => b.high | none => v) = r.high := by rw [found]
    show followDrives (sendUnasked .held (fired.withPlanner { fired.planner with
      ceiling := min s.planner.ceiling (match s.store.active[j]? with | some b => b.high | none => v)
      grantRow := some (min (s.planner.grantRow.getD j) j) })) = _
    rw [high]
  have told := onlyChanges_sendUnasked .held bounded
  have planner : e.planner =
      { s.planner with
        ceiling := v
        grantRow := if lowersGrant s.planner j r then some (min (s.planner.grantRow.getD j) j) else s.planner.grantRow
        target := j, plan := some (firedPlan p stored) } := by
    rw [sent, if_pos granting]
    exact told .planner (by simp)
  have ahead : (firedPlan p stored).Grantless := grantless_lowerCrossed_advanced s j _ r
  have lowered : Lowered j r (firedPlan p stored) s e :=
    { line := by rw [sent]; exact told .line (by simp)
      stack := by rw [sent]; exact told .stack (by simp)
      params := by rw [sent]; exact congrArg Agent.params (told .agent (by simp))
      planner := planner
      alike := decide_eq_true granting ▸ alike_advanced _ p
      sends := fun _ => by
        rw [sent]
        exact ⟨waitsOrLost_sendUnasked (u := bounded) .held le_rfl, grantsPaid_sendUnasked .held bounded⟩ }
  rw [crossingLower_eq, decide_eq_true granting, installPlan_run run]
  refine ⟨_, e, lowered, ?_⟩
  rw [show (lowerCrossed s j r true).target = j from rfl, tested]
  exact headsRun_testHead _ (congrArg Planner.plan planner) ahead

theorem lowered_crossingLower (found : s.store.active[j]? = some r) :
    ∃ p e, Lowered j r p s e ∧ HeadsRun p e (crossingLower j r s) := by
  by_cases granting : lowersGrant s.planner j r
  · exact lowered_below run found granting
  · exact lowered_level run granting

end lower

/-! ### The crossing test (R117, R118) -/

/-- A speed taken where a crossing is acted on: the row the dryer is set for is `a`, the row chosen is row `j`, `b`. -/
structure Crossing (v : Int) (a b : Row) (j : Nat) (s : State) : Prop where
  granted : s.line.state.granted = true
  planless : s.planner.plan = none
  allowed : ∀ x rest, s.stack = x :: rest → x.cause ≠ .splice ∧ x.cause ≠ .speedLost
  speed : s.usableSpeed = some v
  set : s.store.active[rowSet s.store.active s.planner.target]? = some a
  chosen : rowForSpeed s.store.active s.planner.target v = some j
  found : s.store.active[j]? = some b
  settled : storeSettled s = true

/-- In READY and RUN with no plan, the stack tells whether the line is at a safe point (R66). -/
theorem safePoint_granted {s : State} (granted : s.line.state.granted = true) (planless : s.planner.plan = none) :
    s.safePoint = s.stack.isEmpty := by
  unfold State.safePoint
  rw [planless]
  cases state : s.line.state
  case ready | run => rfl
  all_goals rw [state] at granted; cases granted

section crossing

variable {v : Int} {a b : Row} {j : Nat} {s : State} (h : Crossing v a b j s)

include h

theorem Crossing.test :
    crossingTest s =
      if v < a.low then crossingLower j b s else if a.high < v then crossAbove j b s else setOverspeed false s := by
  have allowed : crossingAllowed s = true := by
    unfold crossingAllowed
    split
    · rfl
    · rename_i x rest stack
      obtain ⟨splice, lost⟩ := h.allowed x rest stack
      simp [splice, lost]
  have acted : (s.line.state.granted && s.planner.plan.isNone && crossingAllowed s) = true := by
    rw [h.granted, h.planless, allowed]
    rfl
  unfold crossingTest
  rw [if_pos acted, h.speed]
  dsimp only
  rw [h.set, h.chosen]
  dsimp only
  rw [h.found]

/-- No commit is due after a crossing: where one pends in READY or RUN with no plan, a record stands, and it still does (R66). -/
theorem Crossing.stillSettled {w : State} (store : w.store = s.store) (record : KeepsRecord s w) : storeSettled w = true := by
  by_cases pending : s.store.status = .pending
  · have unsafePoint : s.safePoint = false := by simpa [storeSettled, pending] using h.settled
    have stands : s.stack ≠ [] := by
      rw [safePoint_granted h.granted h.planless] at unsafePoint
      exact List.isEmpty_eq_false_iff.mp unsafePoint
    have full : w.stack.isEmpty = false := List.isEmpty_eq_false_iff.mpr (record stands)
    simp [storeSettled, State.safePoint, full]
  · exact storeSettled_of_idle (store ▸ pending)

theorem Crossing.ends {w : State} (store : w.store = s.store) (record : KeepsRecord s w) :
    OnlyChanges [.channels, .outlet, .sat, .faults, .agent] w (finish w) :=
  onlyChanges_finish_settled (h.stillSettled store record)

/-- Within the band of the row the dryer is set for, the overspeed flag is cleared (R118). -/
theorem Crossing.inBand (low : a.low ≤ v) (high : v ≤ a.high) :
    let t := finish (speedReport s)
    t.planner = { s.planner with overspeed := false } ∧ t.line = s.line := by
  have reported : speedReport s = setOverspeed false s := by
    rw [speedReport, h.test, if_neg low.not_gt, if_neg high.not_gt]
    exact speedReportToPlan_idle h.planless
  have ends := h.ends (w := setOverspeed false s) rfl (keepsRecord_of_same rfl)
  rw [reported]
  exact ⟨ends .planner (by simp), ends .line (by simp)⟩

/-- Above the band with no other row to go to, OVERSPEED is raised once (R118). -/
theorem Crossing.over (low : ¬ v < a.low) (above : a.high < v) (same : j = s.planner.target) :
    let t := finish (speedReport s)
    t.planner = { s.planner with overspeed := true } ∧ t.line = s.line ∧
      (s.planner.overspeed = false → t.faults.pending &&& FaultCode.overspeed.bit ≠ 0) := by
  have reported : speedReport s =
      speedReportToPlan (if s.planner.overspeed then s else setOverspeed true (raiseFault .overspeed s)) := by
    rw [speedReport, h.test, if_neg low, if_pos above]
    exact congrArg speedReportToPlan (if_pos same)
  rw [reported]
  cases flag : s.planner.overspeed with
  | true =>
    rw [if_pos rfl, speedReportToPlan_idle h.planless]
    have ends := h.ends (w := s) rfl (keepsRecord_of_same rfl)
    have set : ({ s.planner with overspeed := true } : Planner) = s.planner := by rw [← flag]
    have planner : (finish s).planner = s.planner := ends .planner (by simp)
    exact ⟨planner.trans set.symm, ends .line (by simp), nofun⟩
  | false =>
    let w := setOverspeed true (raiseFault .overspeed s)
    rw [if_neg Bool.false_ne_true, speedReportToPlan_idle (s := w) h.planless]
    have ends := h.ends (w := w) rfl (keepsRecord_of_same rfl)
    have raised : Raised .overspeed w.faults := raised_raiseFault .overspeed s
    exact ⟨ends .planner (by simp), ends .line (by simp), fun _ => ((keepsFlags_finish w).raised _ raised).pending⟩

/-- What an ADJUST crossing leaves (R84, R118). -/
structure CrossedAbove (j : Nat) (b : Row) (s t : State) : Prop where
  raised : t.faults.pending &&& FaultCode.overspeed.bit ≠ 0
  target : t.planner.target = j
  follows : t.planner.plan ≠ none ∨ j ≠ 0 →
    t.line.state = .run ∧ t.planner.ceiling = s.planner.ceiling ∧ t.planner.grantRow = s.planner.grantRow
  plan : ∀ p, t.planner.plan = some p → (adjustCrossed s j b).Alike p

/-- Above the band with another row to go to, an ADJUST plan follows the web (R118). -/
theorem Crossing.above (low : ¬ v < a.low) (above : a.high < v) (other : j ≠ s.planner.target) :
    CrossedAbove j b s (finish (speedReport s)) := by
  let u := raiseFault .overspeed s
  let w := speedReportToPlan (crossingAdjust j b u)
  have reported : speedReport s = w := by
    rw [speedReport, h.test, if_neg low, if_pos above]
    exact congrArg speedReportToPlan (if_neg other)
  obtain ⟨q, e, begun, runs⟩ := begun_installPlan (s := u) h.granted (grantless_adjustCrossed u j b)
  have runs : HeadsRun q e w := runs.reported
  have store : w.store = s.store := ((steady_installPlan _ u).trans (steady_speedReportToPlan _)).store
  have record : KeepsRecord s w := KeepsRecord.trans (t := e) begun.record runs.record
  have raised : Raised .overspeed w.faults :=
    ((keepsFlags_installPlan _ u).trans (keepsFlags_speedReportToPlan _)).raised _ (raised_raiseFault .overspeed s)
  have ends := h.ends store record
  have planner : (finish w).planner = w.planner := ends .planner (by simp)
  have line : (finish w).line = w.line := ends .line (by simp)
  have toward : q.target = j := begun.alike.target
  rw [reported]
  refine ⟨((keepsFlags_finish w).raised _ raised).pending, ?_, fun short => ?_, fun p stands => ?_⟩
  · rw [planner, runs.target, begun.planner]
    rfl
  · have same := runs.sameGrant (by rw [← planner, toward]; exact short)
    rw [planner, line, same.line, same.ceiling, same.grantRow, begun.planner]
    exact ⟨begun.run, rfl, rfl⟩
  · exact begun.alike.trans (runs.plan (planner ▸ stands))

/-- What a LOWER crossing leaves (R85, R110, R113). -/
structure CrossedBelow (j : Nat) (b : Row) (s t : State) : Prop where
  target : t.planner.target = j
  follows : t.planner.plan ≠ none ∨ j ≠ 0 →
    t.line.state = .run ∧ t.planner.ceiling = min s.planner.ceiling b.high ∧
    t.planner.grantRow = (if lowersGrant s.planner j b then some (min (s.planner.grantRow.getD j) j) else s.planner.grantRow) ∧
    (lowersGrant s.planner j b →
      SentOrLost (.grant s.outlet.dest.address s.planner.lastTag (min s.planner.ceiling b.high) .held) s t)
  home : t.planner.plan = none → j = 0 →
    t.line.state = .ready ∧ t.planner.grantRow = some 0 ∧
    t.planner.ceiling =
      if s.stack = [] then (s.params.crawlSpeed : Int) else min s.params.crawlSpeed (min s.planner.ceiling b.high)
  plan : ∀ p, t.planner.plan = some p → (lowerCrossed s j b (decide (lowersGrant s.planner j b))).Alike p

/-- Below the band in RUN, a LOWER plan bounds the web (R110, R117). -/
theorem Crossing.below (low : v < a.low) (run : s.line.state = .run) : CrossedBelow j b s (finish (speedReport s)) := by
  let w := speedReportToPlan (crossingLower j b s)
  have reported : speedReport s = w := by rw [speedReport, h.test, if_pos low]
  obtain ⟨p, e, lowered, runs⟩ := lowered_crossingLower run h.found
  have runs : HeadsRun p e w := runs.reported
  have store : w.store = s.store := by
    show (speedReportToPlan (crossingLower j b s)).store = _
    rw [crossingLower_eq]
    exact ((steady_installPlan _ s).trans (steady_speedReportToPlan _)).store
  have record : KeepsRecord s w := (keepsRecord_of_same lowered.stack).trans runs.record
  have settled := h.stillSettled store record
  have ends := h.ends store record
  have planner : (finish w).planner = w.planner := ends .planner (by simp)
  have line : (finish w).line = w.line := ends .line (by simp)
  have toward : p.target = j := lowered.alike.target
  rw [reported]
  refine ⟨?_, fun short => ?_, fun gone home => ?_, fun q stands => ?_⟩
  · rw [planner, runs.target, lowered.planner]
  · have same := runs.sameGrant (by rw [← planner, toward]; exact short)
    rw [planner, line, same.line, same.ceiling, same.grantRow, lowered.planner, lowered.line]
    refine ⟨run, rfl, rfl, fun granting => ?_⟩
    obtain ⟨waits, paid⟩ := lowered.sends granting
    have waits := waits.later (u := w) (fun there => same.outlet ▸ there) (congrArg BitVec.toNat same.loss).ge
    rw [finish, closeEvent, settleStore_of_settled settled]
    exact waits.ended rfl (by unfold grantsPaid; rw [same.outlet]; exact paid)
  · have back := runs.home (planner ▸ gone) (lowered.line ▸ run) (toward.trans home) (lowered.alike.ordering ▸ nofun)
    unfold readyCeiling at back
    rw [lowered.stack, lowered.params, lowered.planner] at back
    rw [planner, line]
    exact back
  · exact lowered.alike.trans (runs.plan (planner ▸ stands))

end crossing

/-! ### The reading's event -/

/-- What the state that a speed is reported in has of the state before the event. -/
structure SpeedReached (s x : State) : Prop where
  line : x.line = s.line
  planner : x.planner = s.planner
  stack : x.stack = s.stack
  store : x.store = s.store
  params : x.params = s.params
  dest : x.outlet.dest = s.outlet.dest
  loss : x.sat.insertLoss = s.sat.insertLoss

theorem speedReached_heard (src dst ch quality : Byte) (value : Half) (k : Tracker) (s : State) :
    SpeedReached s ((heard src dst ch value quality s).withTracker k) := by
  have same := sameJudged_heard src dst ch quality value s
  exact ⟨same.line, same.planner, same.stack, same.store, same.agent, dest_joinThrough _ _,
    congrArg SatCounts.insertLoss (sat_joinThrough _ _)⟩

/-- A GOOD reading in range is not counted. -/
theorem speedCounted_good {quality : Byte} {v : Int} (good : quality = 0 ∧ 0 ≤ v ∧ v ≤ 1200) (s : State) :
    speedCounted v quality.toNat s = s := by
  obtain ⟨_, low, high⟩ := good
  exact if_neg (by simp only [outOfRange, decide_eq_true_eq]; omega)

/-- Settles O21: the tracker's record state by state, and the crossing that a reading taken in LOCKED is tested for. -/
theorem speedReadingsMoveTheTracker : Obligations.SpeedReadingsMoveTheTracker := by
  intro src dst ch value quality s passes role low v k good agrees taken unusable usable
  let r := k.reading v quality.toNat
  let y := speedCounted v quality.toNat (heard src dst ch value quality s)
  have done : exec (.reading src dst ch value quality) s = .next (finish (trackerStep r y)) := exec_speedReading passes role low
  have tracker : (finish (trackerStep r y)).tracker = r.1 := tracker_finish_trackerStep r y
  have suspect (bad : ¬ good) : r.1 = k.suspect := congrArg Prod.fst (reading_suspect low bad)
  refine ⟨_, done, fun h state => ?_, fun h state off => ?_, fun h state on few => ?_, fun h state on last => ?_,
    fun h state near => ?_, fun h state far few => ?_, fun h state far last => ?_, fun bad state => ?_, fun bad state => ?_, ?_⟩
  · rw [tracker, show r = _ from reading_good h, good_of_unusable state]
    rfl
  · rw [tracker, show r = _ from reading_good h, good_of_acquiring state, count4_disagrees off]
  · rw [tracker, show r = _ from reading_good h, good_of_acquiring state, count4_agrees on, if_neg few]
  · rw [tracker, show r = _ from reading_good h, good_of_acquiring state, count4_agrees on, if_pos last]
  · rw [tracker, show r = _ from reading_good h, good_of_usable state, compare_taken near]
  · rw [tracker, show r = _ from reading_good h, good_of_usable state, compare_rejected far, if_neg few]
  · rw [tracker, show r = _ from reading_good h, good_of_usable state, compare_rejected far, if_pos last]
    rfl
  · rw [tracker, suspect bad, suspect_of_acquiring state]
  · rw [tracker, suspect bad, suspect_of_other state]
  · intro h locked near rest sound granted planless allowed a j b set chosen found c granting
    have step : r = ({ k with state := .locked, speed := v, rejections := 0, age := some 0 }, .taken) := by
      rw [show r = _ from reading_good h, good_of_usable (.inl locked), compare_taken near, locked]
      rfl
    let x := (heard src dst ch value quality s).withTracker r.1
    have reached : SpeedReached s x := speedReached_heard src dst ch quality value r.1 s
    have event : trackerStep r y = speedReport x := by
      have report : r.2 = .taken := congrArg Prod.snd step
      unfold trackerStep
      rw [report, show y = _ from speedCounted_good h _]
      rfl
    have crossing : Crossing v a b j x :=
      { granted := by rw [reached.line]; exact granted
        planless := by rw [reached.planner]; exact planless
        allowed := by rw [reached.stack]; exact allowed
        speed := by
          unfold State.usableSpeed
          rw [State.withTracker_tracker, step]
        set := by rw [reached.store, reached.planner]; exact set
        chosen := by rw [reached.store, reached.planner]; exact chosen
        found := by rw [reached.store]; exact found
        settled := by
          have settled := (atRest_iff.mp rest).2.1
          unfold storeSettled State.safePoint at settled ⊢
          rw [reached.store, reached.line, reached.planner, reached.stack]
          exact settled }
    have band : a.low ≤ a.high := by
      rcases sound.active with empty | valid
      · rw [empty] at set
        cases set
      · exact (tableFault_none.mp valid).band set
    rw [event]
    refine ⟨fun inLow inHigh => ?_, fun above same => ?_, fun above other => ?_, fun below run => ?_⟩
    · have left := crossing.inBand inLow inHigh
      rwa [reached.planner, reached.line] at left
    · have left := crossing.over (by omega) above (by rw [reached.planner]; exact same)
      rwa [reached.planner, reached.line] at left
    · have left := crossing.above (by omega) above (by rw [reached.planner]; exact other)
      refine ⟨left.raised, left.target, ?_, fun p stands => ?_⟩
      · have follows := left.follows
        rwa [reached.planner] at follows
      · have alike := left.plan p stands
        refine ⟨alike.origin, alike.ordering, alike.request, alike.target, alike.shapes.trans ?_⟩
        exact congrArg (List.map PlanStep.shape)
          (adjustSteps_congr reached.stack (congrArg _ reached.planner) reached.line reached.params j b)
    · have left := crossing.below below (by rw [reached.line]; exact run)
      refine ⟨left.target, ?_, ?_, fun p stands => ?_⟩
      · have follows := left.follows
        unfold SentOrLost at follows ⊢
        rwa [reached.planner, reached.dest, reached.loss] at follows
      · have home := left.home
        rwa [reached.planner, reached.params, reached.stack] at home
      · have alike := left.plan p stands
        refine ⟨alike.origin, alike.ordering, alike.request, alike.target, alike.shapes.trans ?_⟩
        have steps := lowerSteps_congr reached.stack (congrArg _ reached.planner) (congrArg _ reached.planner) reached.line
          reached.params j b (min c b.high) (decide granting)
        show (lowerSteps x j b (min x.planner.ceiling b.high) (decide (lowersGrant x.planner j b))).map PlanStep.shape = _
        rw [reached.planner]
        exact congrArg (List.map PlanStep.shape) steps

end Sys2Proof.Machine
